-- ==== Sys2Proof/Word.lean ====
section
/-!
DEFINITION. The plainest type of the Z460: the byte. The spec gives the part no machine word of its own: its quantities are counts, lengths
and signed errors, plain integers with stated ranges, and only bytes, the notice word and the CRC register are bit patterns. An instant or a
length is an `Int` of ticks of OSC_IN, 100 ns each (R17); a count is an `Int` of civil seconds from 2000-01-01 00:00:00 UTC (R44), since
differences of both, local counts and rule instants can be negative.
-/

namespace Sys2Proof

/-- One byte of a record, of the image or of a maintenance item. -/
abbrev Byte := BitVec 8

end Sys2Proof
end

