-- ==== Sys2Proof/Syntax.lean ====
section
/-!
DEFINITION. The commands of the Z460: one constructor for each row of spec/opcode_table.json. Every command carries the
reading of the two clocks at the moment it happens, because the spec times every event by one of them: OSC_IN in ticks
(R17) and the internal clock in periods of 1 µs (R18, R160), which do not depend on each other.
-/

namespace Sys2Proof

/-- The readings of the two clocks at the moment of a command. -/
structure Instant where
  /-- Ticks of OSC_IN counted so far. For an edge on KEY it is the edge's timestamp (R94); for a pulse on SEC_IN, the tick at
  which it is accepted (R28); for a record, the end of the stop bit of its last byte (R29). -/
  tick : Int
  /-- Periods of the internal clock run so far. -/
  clk : Nat
  deriving DecidableEq, Repr

/-- A level of KEY as the edge filter sees it (R94). -/
inductive Level where
  | low
  | high
  deriving DecidableEq, Repr

/-- The commands: the operations and events of the opcode table. -/
inductive Instr where
  /-- RESET (R160): power-on or RESET_N low. -/
  | reset (now : Instant)
  /-- RESET_END (R160): the end of reset, with the straps SLOT1 and SLOT0. -/
  | resetEnd (now : Instant) (slot1 slot0 : Bool)
  /-- SETTLING_END (R161). -/
  | settlingEnd (now : Instant)
  /-- IMAGE_HEADER_CHECK (R162): the image bytes that have arrived by the test that ends it. -/
  | imageHeaderCheck (now : Instant) (header : List Byte)
  /-- IMAGE_READ_END (R163): the image bytes after the five tested by the header check. -/
  | imageReadEnd (now : Instant) (rest : List Byte)
  /-- LOAD_COMPLETION (R170). -/
  | loadCompletion (now : Instant)
  /-- OSC_MONITOR_UP (R18). -/
  | oscMonitorUp (now : Instant)
  /-- OSCILLATOR_LOSS (R19). -/
  | oscillatorLoss (now : Instant)
  /-- EPOCH (R17). -/
  | epoch (now : Instant)
  /-- DRIVE_INSTANT (R96). -/
  | driveInstant (now : Instant)
  /-- REDUCTION_RELEASE (R96). -/
  | reductionRelease (now : Instant)
  /-- READBACK (R100). -/
  | readback (now : Instant)
  /-- RESCUE_GRACE_EXPIRY (R105). -/
  | rescueGraceExpiry (now : Instant)
  /-- DECISION_POINT (R99). -/
  | decisionPoint (now : Instant)
  /-- RECORD_CLOSE (R107). -/
  | recordClose (now : Instant)
  /-- FILTER_FIRST_LEVEL (R94): the first level KEY holds for 20 ticks. -/
  | filterFirstLevel (now : Instant) (level : Level)
  /-- KEY_FALL (R94): a filtered fall on KEY. -/
  | keyFall (now : Instant)
  /-- KEY_RISE (R94): a filtered rise on KEY. -/
  | keyRise (now : Instant)
  /-- FALL_SETTLED (R144). -/
  | fallSettled (now : Instant)
  /-- MARK_RECOGNISED (R147). -/
  | markRecognised (now : Instant)
  /-- OVERLONG (R147). -/
  | overlong (now : Instant)
  /-- SPACING_WINDOW_CLOSE (R146). -/
  | spacingWindowClose (now : Instant)
  /-- SILENCE (R123). -/
  | silence (now : Instant)
  /-- SEC_IN_PULSE (R28): SEC_IN has stayed high for 10 ticks since a rising edge. -/
  | secInPulse (now : Instant)
  /-- REF_WINDOW_CLOSE (R39). -/
  | refWindowClose (now : Instant)
  /-- ACQUIRE_TIMEOUT (R34). -/
  | acquireTimeout (now : Instant)
  /-- REFERENCE_RECORD (R30): the 16 bytes of a complete record. -/
  | referenceRecord (now : Instant) (bytes : List Byte)
  /-- RECORD_BYTE_GAP (R29): with the end of the stop bit of the last byte received. -/
  | recordByteGap (now : Instant) (lastByteEnd : Int)
  /-- RECORD_LOW_STOP_BIT (R29). -/
  | recordLowStopBit (now : Instant)
  /-- RECORD_STALE (R31). -/
  | recordStale (now : Instant)
  /-- STATUS (R173), code 0x01. -/
  | status (now : Instant)
  /-- COUNTERS (R176), code 0x02. -/
  | counters (now : Instant)
  /-- SCHEDULE (R79), code 0x03. -/
  | schedule (now : Instant)
  /-- OBSERVATIONS (R110), code 0x04, with the page byte when one was written. -/
  | observations (now : Instant) (page : Option Byte)
  /-- CURRENT_FRAME (R93), code 0x05. -/
  | currentFrame (now : Instant)
  /-- LINE_FRAME (R159), code 0x06. -/
  | lineFrame (now : Instant)
  /-- ALARMS (R177), code 0x07. -/
  | alarms (now : Instant)
  /-- ACK_ALARMS (R178), code 0x81. -/
  | ackAlarms (now : Instant)
  /-- WITHDRAW (R135), code 0x82. -/
  | withdraw (now : Instant)
  /-- REJOIN (R136), code 0x83. -/
  | rejoin (now : Instant)
  /-- SELFTEST (R138), code 0x84. -/
  | selftest (now : Instant)
  /-- UNKNOWN_CODE (R174): a code in neither table, or code 0x04 with a page above 7. -/
  | unknownCode (now : Instant) (code : Byte)
  /-- ALERT_DELAY_EXPIRY (R179). -/
  | alertDelayExpiry (now : Instant)
  /-- STATUS_REPETITION (R180). -/
  | statusRepetition (now : Instant)
  /-- OSC_GAP_WHILE_DOWN (R18). -/
  | oscGapWhileDown (now : Instant)
  /-- RECORD_START (R29). -/
  | recordStart (now : Instant)
  deriving DecidableEq, Repr

/-- The clock readings a command carries. -/
def Instr.now : Instr → Instant
  | .reset now => now
  | .resetEnd now _ _ => now
  | .settlingEnd now => now
  | .imageHeaderCheck now _ => now
  | .imageReadEnd now _ => now
  | .loadCompletion now => now
  | .oscMonitorUp now => now
  | .oscillatorLoss now => now
  | .epoch now => now
  | .driveInstant now => now
  | .reductionRelease now => now
  | .readback now => now
  | .rescueGraceExpiry now => now
  | .decisionPoint now => now
  | .recordClose now => now
  | .filterFirstLevel now _ => now
  | .keyFall now => now
  | .keyRise now => now
  | .fallSettled now => now
  | .markRecognised now => now
  | .overlong now => now
  | .spacingWindowClose now => now
  | .silence now => now
  | .secInPulse now => now
  | .refWindowClose now => now
  | .acquireTimeout now => now
  | .referenceRecord now _ => now
  | .recordByteGap now _ => now
  | .recordLowStopBit now => now
  | .recordStale now => now
  | .status now => now
  | .counters now => now
  | .schedule now => now
  | .observations now _ => now
  | .currentFrame now => now
  | .lineFrame now => now
  | .alarms now => now
  | .ackAlarms now => now
  | .withdraw now => now
  | .rejoin now => now
  | .selftest now => now
  | .unknownCode now _ => now
  | .alertDelayExpiry now => now
  | .statusRepetition now => now
  | .oscGapWhileDown now => now
  | .recordStart now => now

end Sys2Proof
end

