-- ==== Sys2Proof/Config.lean ====
section
/-!
DEFINITION. The fixed numbers of the Z460, each with the rule that states it. Ticks are 100 ns; the internal clock has
periods of 1 µs. Nothing here is left open by the spec, so there is no free value.
-/

namespace Sys2Proof.Config

/-- A nominal second in ticks (R17, R25). -/
def nominalSecond : Int := 10000000

/-- The ticks of a stable run after which the oscillator monitor goes UP (R18). -/
def stableRun : Int := 10000000

/-- The limit of F in either direction (R27). -/
def fLimit : Int := 3276800

/-- The unit of F and A: 65,536 to a tick (R25). -/
def fUnit : Int := 65536

/-- The largest phase correction P of one second, in ticks (R25). -/
def pLimit : Int := 20

/-- A sample with a larger error is taken as a step while not ACTIVE (R26). -/
def stepLimit : Int := 1000

/-- The most epochs since a line sample for which line samples count as arriving (R23), and the most seconds over which
a sample corrects frequency (R24). -/
def lineEpochs : Nat := 120

/-- The last count of the range, 2099-12-31 23:59:59 UTC (R44). -/
def lastCount : Int := 3155759999

/-- The latest instant an entry may have (R62). -/
def lastInstant : Int := 3155760000

/-- The time age stays at this value (R50). -/
def ageLimit : Nat := 4294967295

/-- Half a nominal second, the reach of an attribution window before its instant (R28, R95). -/
def halfWindow : Int := 5000000

/-- The least spacing of accepted reference pulses (R28). -/
def pulseSpacing : Int := 9990000

/-- SEC_IN is accepted once it has been high for this long; the pulse is timestamped at the start of that run (R28). -/
def secHigh : Int := 10

/-- A streak's pulse comes at least this long after the last (R33). -/
def streakLeast : Int := 9990000

/-- A streak's pulse comes at most this long after the last (R33). -/
def streakMost : Int := 10010000

/-- The ACQUIRE timeout (R34). -/
def acquireTimeout : Int := 100000000

/-- A record labels a pulse no earlier than this after its time (R31). -/
def labelFrom : Int := 500000

/-- A record labels a pulse no later than this after its time, and is stale after it (R31). -/
def labelTo : Int := 9500000

/-- A longer gap between two bytes abandons a partial record (R29). -/
def byteGap : Int := 50000

/-- The ticks for which KEY holds a level before the edge filter counts it (R94). -/
def filterTicks : Int := 20

/-- The tick of the readback, from the start of a pull (R95, R105). -/
def readbackAt : Int := 10000

/-- The decision point of a second, from its drive instant (R95). -/
def decisionAt : Int := 7000000

/-- The record close of a second, from its drive instant (R95). -/
def recordAt : Int := 12000000

/-- A shorter reduction is a glitch (R2). -/
def glitchBelow : Int := 600000

/-- A reduction shorter than this, and no glitch, is SHORT (R2). -/
def longFrom : Int := 1800000

/-- A reduction of at least this length is a MARK or OVERLONG (R2). -/
def markFrom : Int := 3600000

/-- A reduction longer than this is OVERLONG (R2). -/
def markTo : Int := 7000000

/-- The spacing window of a line second opens this long after the last line second's fall (R146). -/
def spacingFrom : Int := 9900000

/-- The spacing window of a line second closes this long after the last line second's fall (R146). -/
def spacingTo : Int := 10100000

/-- A fall with a larger phase error is not delivered as a line sample (R152). -/
def lineSampleReach : Int := 50000

/-- The silence timer's run (R123). -/
def silenceRun : Int := 25000000

/-- The settling time of the loader, in periods of the internal clock (R160). -/
def settling : Nat := 300000

/-- One period of MEM_CLK, in periods of the internal clock (R161). -/
def memClock : Nat := 50

/-- The bits of the read instruction and the address (R161). -/
def readHeadBits : Nat := 24

/-- The part of a period of MEM_CLK for which it is low before it rises (notes/assumptions/29.md). -/
def memClockLow : Nat := 25

/-- The time from MEM_CS high to completion (R161). -/
def completionDelay : Nat := 1000

/-- The time between two repetitions of the status stream (R180). -/
def repetition : Nat := 125000

/-- One period of STAT_CLK, in periods of the internal clock (R180). -/
def statClock : Nat := 4

/-- The part of a period of STAT_CLK for which it is low before it rises (notes/assumptions/29.md). -/
def statClockLow : Nat := 2

/-- The time from the start of a repetition to its latch pulse: 24 bits of one STAT_CLK period (R180). -/
def latchAfter : Nat := 96

/-- One second of the internal clock (R179). -/
def clockSecond : Nat := 1000000

/-- The repetitions for which an event's lamp is lit (R182). -/
def stretch : Nat := 8

/-- The most entries of the Change Schedule (R60). -/
def scheduleSize : Nat := 8

/-- The most records of the observation ring (R107). -/
def ringSize : Nat := 64

/-- The own seconds kept for the questions asked of past epochs (R44, R125, R150, R155). The model's own bound: a
line frame spans at most 62 s and no second is shorter than half a nominal one. -/
def pastSize : Nat := 128

/-- Edges on KEY older than this are dropped from the model's edge list: no second's window, decision or record reaches
so far back (R95). -/
def edgeReach : Int := 40000000

end Sys2Proof.Config
end

