-- ==== Sys2Proof/Machine/State.lean ====
section
/-!
DEFINITION. The state of the Z460, block by block as 00_scope.md names the blocks and what each owns, the reasons a
step can stop, and the state of reset.
-/

namespace Sys2Proof.Machine

/-! ## Stops -/

/-- Faults of a step: there are none. No rule of the spec stops the part, and every command answers a next state. -/
inductive Fault
  deriving DecidableEq, Repr

/-- Refusals of a step. -/
inductive Refusal where
  /-- A command without a meaning, raised by a rejected arm of `exec` only; safe. No arm raises it. -/
  | notModelled (mnemonic : String)
  deriving DecidableEq, Repr

/-! ## The Second Timer -/

/-- The oscillator monitor (R18). -/
inductive Monitor where
  | down
  | up
  deriving DecidableEq, Repr

/-- The phase source (R23). -/
inductive PhaseSource where
  | noSource
  | ref
  | line
  deriving DecidableEq, Repr

/-- How the epoch of a second took a leap (R45, R46), asked of an epoch by R40. -/
inductive LeapStep where
  | plain
  | inserted
  | deleted
  deriving DecidableEq, Repr

/-- One of the keyer's own seconds whose epoch has come: what R44, R95, R125, R150 and R155 ask of a past epoch. -/
structure PastSecond where
  /-- The drive instant of the second (R3). -/
  t0 : Int
  /-- Its epoch (R17). -/
  epoch : Int
  /-- The own count of the epoch (R44), absent while the time was UNSET. -/
  count : Option Int
  /-- How its epoch took a leap. -/
  leap : LeapStep
  /-- Whether the keyer keyed the second (R150). -/
  keyed : Bool
  /-- Whether the reference window of the epoch has been judged (R39). -/
  refJudged : Bool
  deriving DecidableEq, Repr

/-- The Second Timer: ticks, epochs, F, A and the phase samples (R17 to R27). -/
structure Timer where
  /-- The oscillator monitor (R18). -/
  monitor : Monitor
  /-- The tick reading from which the present stable run is counted while DOWN (R18). -/
  runFrom : Int
  /-- The most recent epoch (R17); absent until the first one. -/
  epoch : Option Int
  /-- The second length L fixed at that epoch (R17). -/
  length : Int
  /-- The next epoch (R17); absent while the monitor is DOWN. -/
  nextEpoch : Option Int
  /-- The drive instant of the second that begins at the next epoch (R3). -/
  nextDrive : Option Int
  /-- Whether that drive instant has been taken. -/
  driveTaken : Bool
  /-- The frequency correction F (R25). -/
  f : Int
  /-- The fractional accumulator A (R25). -/
  a : Int
  /-- The phase source (R23). -/
  source : PhaseSource
  /-- The last phase error (R25). -/
  lastError : Option Int
  /-- The held REF sample, as its phase error (R22, R23). -/
  heldRef : Option Int
  /-- The held LINE sample, as its phase error (R22, R23). -/
  heldLine : Option Int
  /-- The held step, as its phase error (R26). -/
  heldStep : Option Int
  /-- The received marker: epochs since the last line sample delivered (R23). -/
  receivedMarker : Option Nat
  /-- The used marker: epochs since the last line sample used (R23). -/
  usedMarker : Option Nat
  /-- The own seconds whose epochs have come, newest first. -/
  past : List PastSecond
  deriving DecidableEq, Repr

/-! ## The Reference Input Unit -/

/-- The reference state (R32 to R43). -/
inductive RefState where
  | noref
  | acquire
  | locked
  | holdover
  deriving DecidableEq, Repr

/-- An accepted reference record (R30, R184). -/
structure RefRecord where
  /-- N of the next pulse. -/
  n : Int
  /-- The quality, 0 to 15. -/
  quality : Nat
  /-- The leap kind byte: 1 insert, 2 delete. -/
  leapKind : Nat
  /-- The leap day D. -/
  leapDay : Int
  /-- The phase correction in ns. -/
  corrNs : Int
  deriving DecidableEq, Repr

/-- A record that waits to label a pulse, with its time (R31). -/
structure WaitingRecord where
  record : RefRecord
  time : Int
  deriving DecidableEq, Repr

/-- The last pulse of an ACQUIRE streak (R33). -/
structure StreakPulse where
  n : Int
  tick : Int
  deriving DecidableEq, Repr

/-- An accepted pulse as R39 judges it. -/
structure AcceptedPulse where
  tick : Int
  /-- Labelled below Q_MIN, or an unlabelled pulse counted as missing (R38, R39). -/
  missing : Bool
  deriving DecidableEq, Repr

/-- The record receiver on TREC_IN (R29, R184): the character and the record in progress. -/
structure RecordLine where
  /-- The bits of the character in progress after its start bit, in order of time; absent between characters. -/
  bits : Option (List Bool)
  /-- The bytes of the partial record, its 0xC3 first; empty while hunting. -/
  record : List Byte
  /-- The tick at the end of the last byte's stop bit; absent while hunting. -/
  byteEnd : Option Int
  deriving DecidableEq, Repr

/-- The receiver hunting, between characters (R29). -/
def RecordLine.idle : RecordLine := { bits := none, record := [], byteEnd := none }

/-- The Reference Input Unit (R28 to R43). -/
structure RefUnit where
  state : RefState
  /-- TREC_IN as the record receiver hears it (R29, R184). -/
  trec : RecordLine
  /-- Whether the record receiver is assembling a record (R29); otherwise it is hunting. -/
  assembling : Bool
  /-- The record that waits to label a pulse (R31). -/
  waiting : Option WaitingRecord
  /-- The sequence number of the previous record (R30). -/
  prevSeq : Option Nat
  /-- The last record that labelled a pulse (R22). -/
  lastLabel : Option RefRecord
  /-- The ACQUIRE streak (R33). -/
  streak : Nat
  /-- The last pulse of the streak (R33). -/
  streakLast : Option StreakPulse
  /-- The missing/rejected streak (R39). -/
  missingStreak : Nat
  /-- The outlier streak (R37). -/
  outlierStreak : Nat
  /-- The count-conflict streak (R37). -/
  conflictStreak : Nat
  /-- The unlabelled run (R38). -/
  unlabelledRun : Nat
  /-- The none-run (R42). -/
  noneRun : Nat
  /-- The previous accepted pulse (R28). -/
  prevPulse : Option Int
  /-- The tick from which the ACQUIRE timeout is counted (R34); absent when idle. -/
  acquireFrom : Option Int
  /-- The newest accepted pulses, newest first, as R39 judges them. -/
  pulses : List AcceptedPulse
  deriving DecidableEq, Repr

/-! ## The Time Scale Unit -/

/-- Where the count came from (R50); no origin is `none` of an Option. -/
inductive Origin where
  | ref
  | line
  deriving DecidableEq, Repr

/-- The class of the keyer's time (R51). -/
inductive TimeClass where
  | a
  | b
  | c
  | u
  deriving DecidableEq, Repr

/-- A re-set held while ACTIVE (R53). -/
structure PendingReset where
  /-- The count difference. -/
  difference : Option Int
  /-- The phase error in ticks. -/
  phase : Option Int
  deriving DecidableEq, Repr

/-- A count held for an epoch still to come (R47). -/
structure PendingSet where
  count : Int
  epoch : Int
  origin : Origin
  deriving DecidableEq, Repr

/-- The Time Scale Unit (R44 to R59). The time is SET when `n` is present (R44). The class is derived (R51). -/
structure TimeScale where
  /-- N, absent while UNSET (R44). -/
  n : Option Int
  /-- The origin (R50). -/
  origin : Option Origin
  /-- The time age (R50). -/
  age : Option Nat
  /-- The leap-60 flag (R45). -/
  leap60 : Bool
  /-- The current offset in quarter-hours (R59). -/
  offset : Int
  /-- The pending re-set (R53). -/
  pendingReset : Option PendingReset
  /-- The pending SET (R47). -/
  pendingSet : Option PendingSet
  /-- The mark that the count range is ending (R49). -/
  rangeEnding : Bool
  deriving DecidableEq, Repr

/-! ## The Change Schedule -/

/-- The kind of an entry (R60). -/
inductive EntryKind where
  | leapInsert
  | leapDelete
  | offset
  deriving DecidableEq, Repr

/-- The source of an entry (R60). -/
inductive Source where
  | ref
  | rule
  | line
  deriving DecidableEq, Repr

/-- An entry of the Change Schedule (R60). -/
structure Entry where
  instant : Int
  kind : EntryKind
  /-- The new offset in quarter-hours; present for OFFSET only. -/
  newOffset : Option Int
  source : Source
  committed : Bool
  deriving DecidableEq, Repr

/-! ## The Frame Builder -/

/-- A symbol of a frame (R1). -/
inductive Symbol where
  | short
  | long
  | mark
  deriving DecidableEq, Repr

/-- The kind of build (R82, R83). -/
inductive BuildKind where
  | onTime
  | catchUp
  deriving DecidableEq, Repr

/-- A frame record (R81). Its length is the length of its symbol list. -/
structure Frame where
  n0 : Int
  symbols : List Symbol
  noticeWord : BitVec 32
  segment : Nat
  offset : Int
  classAtBuild : TimeClass
  kind : BuildKind
  stale : Bool
  deriving DecidableEq, Repr

/-- The Frame Builder (R80 to R93). -/
structure FrameBuilder where
  current : Option Frame
  next : Option Frame
  /-- The notice latch (R85). -/
  latch : Option (BitVec 32)
  /-- The count of rebuilds since reset (R88). -/
  rebuilds : Nat
  deriving DecidableEq, Repr

/-! ## The Keying Unit -/

/-- The drive state (R96). -/
inductive DriveState where
  | released
  | pulling
  | listening
  | rescuing
  deriving DecidableEq, Repr

/-- A filtered edge on KEY: its timestamp and the new level (R94). -/
structure Edge where
  tick : Int
  level : Level
  deriving DecidableEq, Repr

/-- The run of equal samples that KEY is in: its level, and the moment of its first tick (R94). -/
structure KeyRun where
  level : Level
  first : Instant
  deriving DecidableEq, Repr

/-- The keyer's own action in a second (R108). -/
inductive Action where
  | driven
  | withheld
  | rescued
  | notKeying
  deriving DecidableEq, Repr

/-- The outcome of a second (R99, R104, R105, R109). -/
inductive SecondOutcome where
  | stuck
  | driveFault
  | excessSymbol
  | early
  | lateLong
  | clean
  | peerMatch
  | peerMismatch
  | peerOffset
  | peerAbsent
  | observed
  | silent
  deriving DecidableEq, Repr

/-- The line symbol of an observation record (R108). -/
inductive LineSymbol where
  | noSymbol
  | short
  | long
  | mark
  | overlong
  deriving DecidableEq, Repr

/-- An observation record (R108). -/
structure ObsRecord where
  n0 : Option Int
  index : Option Nat
  action : Action
  fallOffset : Option Int
  riseOffset : Option Int
  symbol : LineSymbol
  outcome : SecondOutcome
  deriving DecidableEq, Repr

/-- A second whose record is not yet closed (R95, R107). -/
structure OpenSecond where
  t0 : Int
  n0 : Option Int
  index : Option Nat
  action : Action
  /-- The symbol the frame gave for the second (R91). -/
  intended : Option Symbol
  /-- Whether it is the listen second of its frame (R104). -/
  listen : Bool
  /-- The taken fall of a listen second (R104). -/
  taken : Option Int
  /-- The level read at the readback (R98, R105); absent before it and while the filter holds no level. -/
  readback : Option Level
  /-- The outcome fixed at the decision point of a keyed second (R99). -/
  outcome : Option SecondOutcome
  /-- Whether line observation is suspended in it by a self-test (R109). -/
  suspended : Bool
  deriving DecidableEq, Repr

/-- The frame tallies (R111). -/
structure Tallies where
  excess : Nat
  early : Nat
  lateLong : Nat
  mismatch : Nat
  offset : Nat
  listen : Option SecondOutcome
  keyed : Nat
  deriving DecidableEq, Repr

/-- Empty tallies (R111). -/
def Tallies.empty : Tallies :=
  { excess := 0, early := 0, lateLong := 0, mismatch := 0, offset := 0, listen := none, keyed := 0 }

/-- A frame verdict (R112). -/
inductive Verdict where
  | quiet
  | disturbed
  | conflict
  deriving DecidableEq, Repr

/-- A verdict with the frame start it was given for (R112). -/
structure FrameVerdict where
  verdict : Verdict
  n0 : Int
  deriving DecidableEq, Repr

/-- The Keying Unit (R94 to R117). -/
structure Keying where
  /-- The filtered level of the edge filter (R94); absent while it holds none. -/
  level : Option Level
  /-- The first tick of the run that gave the filter its level; with no level, the tick from which it takes samples; absent while it has
  taken none since reset or an oscillator loss (R94). -/
  levelFrom : Option Int
  /-- The run that the samples of KEY are in (R94); absent until the first sample. -/
  run : Option KeyRun
  /-- The filtered edges on KEY of the last seconds, newest first (R95). -/
  edges : List Edge
  drive : DriveState
  intended : Option Symbol
  /-- The most recent drive instant. -/
  t0 : Option Int
  /-- Whether the second of that drive instant is keyed (R96). -/
  secondKeyed : Bool
  /-- The seconds whose records are open, oldest first (R95). -/
  opens : List OpenSecond
  /-- The observation ring, oldest first (R107). -/
  ring : List ObsRecord
  tallies : Tallies
  listenIndex : Option Nat
  /-- Whether the keyer keyed the MARK of the current frame (R97). -/
  keyedMark : Bool
  conflictStreak : Nat
  timingStreak : Nat
  /-- The drive-fault run (R100). -/
  faultRun : Nat
  lastVerdict : Option FrameVerdict
  deriving DecidableEq, Repr

/-! ## The Line Reader -/

/-- The decoder state (R143). -/
inductive DecoderState where
  | idle
  | hunting
  | assembling
  deriving DecidableEq, Repr

/-- A reason a line frame broke or failed a check (R148, R149). -/
inductive BreakReason where
  | missing
  | extraFall
  | tooLong
  | overlong
  | length
  | parity
  | range
  | weekday
  | leapMinute
  deriving DecidableEq, Repr

/-- A line frame under assembly (R145, R146). -/
structure Assembly where
  symbols : List Symbol
  markFall : Int
  /-- The falls of the line seconds taken, newest first. -/
  falls : List Int
  /-- The fall p of the last line second taken (R146). -/
  lastFall : Int
  /-- The spacing window has closed while a fall inside it was not yet settled (R146). -/
  windowClosed : Bool
  deriving DecidableEq, Repr

/-- What the decoder does with the reduction in progress (R145, R146). -/
inductive ReductionRole where
  | unsettled
  | hunted
  | taken
  | passed
  deriving DecidableEq, Repr

/-- The reduction in progress as the decoder follows it (R144). -/
structure Reduction where
  fall : Int
  role : ReductionRole
  /-- It has been recognised as a MARK, or passed the MARK point without effect. -/
  markSeen : Bool
  /-- It has been found OVERLONG. -/
  overSeen : Bool
  deriving DecidableEq, Repr

/-- A decoded line frame (R150). The announcement bits and fields are read from the symbols. -/
structure LineFrame where
  n0 : Int
  symbols : List Symbol
  markFall : Int
  /-- MARK fall minus the own drive instant of the second it is attributed to, in ticks. -/
  markTicks : Int
  mixed : Bool
  deriving DecidableEq, Repr

/-- The notice assembly (R156): the cycle start and the segments collected, segment 0 first. -/
structure NoticeAssembly where
  cycleStart : Int
  segments : List Byte
  deriving DecidableEq, Repr

/-- The Line Reader (R143 to R159). The adoption leave is derived (R154). -/
structure LineReader where
  decoder : DecoderState
  assembly : Option Assembly
  reduction : Option Reduction
  /-- The own second whose first non-glitch fall has been seen (R152), by its drive instant. -/
  sampled : Option Int
  last : Option LineFrame
  lastBreak : Option BreakReason
  /-- The N0 of the adoption candidate (R154). -/
  candidate : Option Int
  notice : Option NoticeAssembly
  deriving DecidableEq, Repr

/-! ## The Standing Controller -/

/-- The survey phase (R126). -/
inductive SurveyPhase where
  | watching
  | adopting
  | confirming
  deriving DecidableEq, Repr

/-- The standing (R118), with the survey phase of SURVEY and the fault cause of FAULTED. -/
inductive Standing where
  | loading
  | survey (phase : SurveyPhase)
  | active
  | deferred
  | standby
  | faultedDrive
  | faultedOsc
  deriving DecidableEq, Repr

/-- The result of a comparison, with its difference (R125). -/
inductive Comparison where
  | agree
  | noFrame
  | length
  | symbol (index : Nat)
  | markOffset (us : Int)
  deriving DecidableEq, Repr

/-- The last comparison (R125). -/
structure LastComparison where
  n0 : Int
  result : Comparison
  deriving DecidableEq, Repr

/-- The destination of a yield (R130). -/
inductive YieldTo where
  | deferred
  | survey
  deriving DecidableEq, Repr

/-- The self-test state (R138). -/
inductive TestState where
  | idle
  | waiting
  | running
  deriving DecidableEq, Repr

/-- The self-test result (R138 to R141). -/
inductive TestResult where
  | noResult
  | pass
  | fail
  | noTime
  | aborted
  deriving DecidableEq, Repr

/-- A valid loopback frame handed to the self-test (R158). -/
structure LoopFrame where
  n0 : Int
  symbols : List Symbol
  markFall : Int
  deriving DecidableEq, Repr

/-- The self-test (R138 to R141). -/
structure SelfTest where
  state : TestState
  result : TestResult
  /-- The test reference: the test frame as it became current (R138). -/
  reference : Option Frame
  /-- The test frame's MARK drive instant. -/
  markDrive : Option Int
  /-- The drive instant of the MARK keyed after the test frame; absent until it has come (R139, R140). -/
  closeDrive : Option Int
  /-- The frame the Line Reader handed over (R140). -/
  handed : Option LoopFrame
  /-- Whether the internal loopback is pulled low (R139). -/
  loopLow : Bool
  deriving DecidableEq, Repr

/-- The Standing Controller (R118 to R142). The fault cause is part of the standing. -/
structure Controller where
  standing : Standing
  pendingJoin : Bool
  pendingWithdraw : Bool
  /-- The pending drive-fault report (R133). -/
  faultReport : Bool
  /-- The yield due, with its destination (R130). -/
  yieldDue : Option YieldTo
  /-- The tick from which the silence timer runs (R123); absent when idle. -/
  silenceFrom : Option Int
  silence : Bool
  /-- The comparison copy (R125). -/
  copy : Option Frame
  /-- The comparison floor (R125). -/
  floor : Option Int
  lastComparison : Option LastComparison
  test : SelfTest
  deriving DecidableEq, Repr

/-! ## The Configuration Loader -/

/-- The fields of the SITE record (R166). -/
structure Site where
  announce : Nat
  epochTol : Nat
  rescueGrace : Nat
  conflictLimit : Nat
  holdLimit : Nat
  qMin : Nat
  keyAdvance : Nat
  outlier : Nat
  lineDiscipline : Bool
  deriving DecidableEq, Repr

/-- A rule of the ZONE record (R58, R166). -/
structure OffsetRule where
  month : Nat
  ordinal : Nat
  weekday : Nat
  minute : Nat
  deriving DecidableEq, Repr

/-- The fields of the ZONE record (R166). -/
structure Zone where
  standard : Int
  summer : Int
  startRule : OffsetRule
  endRule : OffsetRule
  deriving DecidableEq, Repr

/-- The fields of the ALERT record (R166). -/
structure Alert where
  count : Nat
  delay : Nat
  deriving DecidableEq, Repr

/-- A parameter set in force (R166): ZONE and TRIM may be absent. -/
structure Params where
  site : Site
  zone : Option Zone
  trim : Option Int
  alert : Alert
  deriving DecidableEq, Repr

/-- The staging set (R165). -/
structure Staging where
  site : Option Site
  zone : Option Zone
  trim : Option Int
  alert : Option Alert
  deriving DecidableEq, Repr

/-- The empty staging set (R160). -/
def Staging.empty : Staging := { site := none, zone := none, trim := none, alert := none }

/-- The default SITE values (R166). -/
def Site.defaults : Site :=
  { announce := 60, epochTol := 200, rescueGrace := 2000, conflictLimit := 2, holdLimit := 3600, qMin := 8,
    keyAdvance := 0, outlier := 20, lineDiscipline := true }

/-- The default ALERT values (R166). -/
def Alert.defaults : Alert := { count := 1, delay := 10 }

/-- DEFAULTS (R166, R167). -/
def Params.defaults : Params :=
  { site := Site.defaults, zone := none, trim := none, alert := Alert.defaults }

/-- The load phase. `held` is the time in which reset is taken, before R160's end of reset; `ending` is the 1 ms between
a failed read or walk and completion (R161), which the spec's table of phases does not name. -/
inductive LoadPhase where
  | held
  | settling
  | reading
  | walking
  | ending
  | done
  deriving DecidableEq, Repr

/-- The load result (R162 to R165). -/
inductive LoadResult where
  | ok
  | signature
  | length
  | format
  | crc
  | chain
  | shortRecord
  | tooManyRecords
  deriving DecidableEq, Repr

/-- The parameter source (R167). -/
inductive ParamSource where
  | image
  | defaults
  deriving DecidableEq, Repr

/-- The Configuration Loader (R160 to R171). -/
structure Loader where
  phase : LoadPhase
  /-- The parameter set in force. -/
  params : Params
  staging : Staging
  source : Option ParamSource
  clamp : Bool
  result : Option LoadResult
  /-- The slot sampled at the end of reset (R160). -/
  slot : Nat
  /-- The internal clock at the end of reset (R160). -/
  resetEndClk : Nat
  /-- The read buffer (R162). -/
  buffer : List Byte
  /-- The image length found in the header (R162). -/
  imageLength : Nat
  /-- The internal clock at completion, once MEM_CS has gone high (R161). -/
  doneClk : Option Nat
  /-- The level of MEM_CS (R160, R161). -/
  memCs : Level
  deriving DecidableEq, Repr

/-! ## The Maintenance and Status Unit -/

/-- The alarm kinds in their fixed order (R177). -/
inductive AlarmKind where
  | refLost
  | timeAged
  | conflict
  | yielded
  | peerTiming
  | lineStuck
  | driveFault
  | oscLost
  | schedFull
  | configDefaults
  | configClamped
  deriving DecidableEq, Repr

/-- An entry of the alarm set (R177). -/
structure AlarmEntry where
  kind : AlarmKind
  firstN : Option Int
  count : Nat
  deriving DecidableEq, Repr

/-- The fifteen counters (R175). -/
structure Counters where
  pulsesGood : Nat
  framesKeyed : Nat
  lineFramesGood : Nat
  pulsesRejected : Nat
  recordsBad : Nat
  recordGaps : Nat
  countConflicts : Nat
  rescues : Nat
  earlySeconds : Nat
  longSeconds : Nat
  excessSeconds : Nat
  listenMismatches : Nat
  lineFramesBad : Nat
  schedDrops : Nat
  leapRefused : Nat
  deriving DecidableEq, Repr

/-- Every counter at 0 (R175, R176). -/
def Counters.zero : Counters :=
  { pulsesGood := 0, framesKeyed := 0, lineFramesGood := 0, pulsesRejected := 0, recordsBad := 0, recordGaps := 0,
    countConflicts := 0, rescues := 0, earlySeconds := 0, longSeconds := 0, excessSeconds := 0,
    listenMismatches := 0, lineFramesBad := 0, schedDrops := 0, leapRefused := 0 }

/-- The result of the last command (R174); NONE is `none` of an Option. -/
inductive CommandResult where
  | accepted
  | ignored
  | unknown
  deriving DecidableEq, Repr

/-- The three words of a repetition of the status stream (R180). -/
structure LampWords where
  reference : Byte
  standing : Byte
  alarm : Byte
  deriving DecidableEq, Repr

/-- A repetition of the status stream as it is shifted out: the internal clock at its start and its words (R180). -/
structure Repetition where
  start : Nat
  words : LampWords
  deriving DecidableEq, Repr

/-- Where the two-wire port stands in a transaction (R172). -/
inductive PortPhase where
  /-- Between transactions, or in one that is not addressed to the part, or has ended for it. -/
  | idle
  /-- The address byte is shifted in. -/
  | address
  /-- The ninth clock of the address byte, with the direction: a read or a write. -/
  | ackAddress (read : Bool)
  /-- A data byte of a write is shifted in. -/
  | receive
  /-- The ninth clock of a data byte of a write. -/
  | ackData
  /-- Byte `position` of a read is shifted out. -/
  | send (position : Nat)
  /-- The ninth clock of that byte, in which the master acknowledges or does not. -/
  | masterAck (position : Nat)
  deriving DecidableEq, Repr

/-- The two-wire port within a transaction (R172). -/
structure PortLine where
  phase : PortPhase
  /-- The bits of the byte in progress sampled so far, in order of time. -/
  bits : List Bool
  /-- The first two data bytes of the write in progress. -/
  data : List Byte
  deriving DecidableEq, Repr

/-- The port between transactions, with MNT_SDA released (R172). -/
def PortLine.idle : PortLine := { phase := .idle, bits := [], data := [] }

/-- The Maintenance and Status Unit (R172 to R182). -/
structure Maintenance where
  counters : Counters
  /-- The alarm set (R177). -/
  alarms : List AlarmEntry
  /-- The raisings since acknowledgement (R177, R179). -/
  raisings : Nat
  /-- The internal clock at the start of the alert delay timer (R179); absent when idle. -/
  alertFrom : Option Nat
  /-- Whether ALERT_N is asserted (R179). -/
  alertN : Bool
  /-- The snapshot buffer (R173). -/
  snapshot : List Byte
  /-- The last command and its result (R174). -/
  lastCommand : Option Byte
  lastResult : Option CommandResult
  /-- The internal clock at the start of the next repetition (R180); absent until completion. -/
  nextRepetition : Option Nat
  /-- The number of the next repetition in its group of four (R181). -/
  groupCount : Nat
  /-- The stretch counts (R182). -/
  rescueStretch : Nat
  peerStretch : Nat
  /-- The last repetition begun since reset, which may still be in progress (R180). -/
  shift : Option Repetition
  /-- The words the external registers latched before that repetition (R180); absent while the part has latched none. They
  stand outside the part and outlast a reset. -/
  latched : Option LampWords
  /-- The two-wire port within a transaction (R172). -/
  port : PortLine
  deriving DecidableEq, Repr

/-! ## The whole -/

/-- The state of the Z460. -/
structure State where
  /-- The tick counter: OSC_IN ticks read at the last command taken (R17). -/
  tick : Int
  /-- The internal clock, in periods of 1 µs, read at the last command taken (R18). -/
  clk : Nat
  timer : Timer
  ref : RefUnit
  time : TimeScale
  /-- The Change Schedule's list (R60). -/
  schedule : List Entry
  frames : FrameBuilder
  key : Keying
  line : LineReader
  ctl : Controller
  load : Loader
  maint : Maintenance
  /-- The commands that wait, first in, first out: the model's own field. -/
  pending : List Instr
  deriving DecidableEq, Repr

/-! ## Reset -/

/-- The Second Timer after reset (R18, R21). -/
def Timer.reset : Timer :=
  { monitor := .down, runFrom := 0, epoch := none, length := 0, nextEpoch := none, nextDrive := none,
    driveTaken := false, f := 0, a := 0, source := .noSource, lastError := none, heldRef := none, heldLine := none,
    heldStep := none, receivedMarker := none, usedMarker := none, past := [] }

/-- The Reference Input Unit after reset and after an oscillator loss (R43). -/
def RefUnit.reset : RefUnit :=
  { state := .noref, trec := RecordLine.idle, assembling := false, waiting := none, prevSeq := none, lastLabel := none, streak := 0,
    streakLast := none, missingStreak := 0, outlierStreak := 0, conflictStreak := 0, unlabelledRun := 0,
    noneRun := 0, prevPulse := none, acquireFrom := none, pulses := [] }

/-- The Time Scale Unit after reset (R48). -/
def TimeScale.reset : TimeScale :=
  { n := none, origin := none, age := none, leap60 := false, offset := 0, pendingReset := none, pendingSet := none,
    rangeEnding := false }

/-- The Frame Builder after reset (R80, R88). -/
def FrameBuilder.reset : FrameBuilder := { current := none, next := none, latch := none, rebuilds := 0 }

/-- The Keying Unit after reset (R116). -/
def Keying.reset : Keying :=
  { level := none, levelFrom := none, run := none, edges := [], drive := .released, intended := none, t0 := none
    secondKeyed := false, opens := [], ring := [], tallies := Tallies.empty, listenIndex := none, keyedMark := false, conflictStreak := 0,
    timingStreak := 0, faultRun := 0, lastVerdict := none }

/-- The Line Reader after reset (R143). -/
def LineReader.reset : LineReader :=
  { decoder := .idle, assembly := none, reduction := none, sampled := none, last := none, lastBreak := none,
    candidate := none, notice := none }

/-- The self-test after reset (R122). -/
def SelfTest.reset : SelfTest :=
  { state := .idle, result := .noResult, reference := none, markDrive := none, closeDrive := none, handed := none,
    loopLow := false }

/-- The Standing Controller after reset (R122). -/
def Controller.reset : Controller :=
  { standing := .loading, pendingJoin := false, pendingWithdraw := false, faultReport := false, yieldDue := none,
    silenceFrom := none, silence := false, copy := none, floor := none, lastComparison := none,
    test := SelfTest.reset }

/-- The Configuration Loader in reset (R160). The slot is not sampled before the end of reset. -/
def Loader.reset : Loader :=
  { phase := .held, params := Params.defaults, staging := Staging.empty, source := none, clamp := false,
    result := none, slot := 0, resetEndClk := 0, buffer := [], imageLength := 0, doneClk := none, memCs := .high }

/-- The Maintenance and Status Unit after reset (R173 to R182). -/
def Maintenance.reset : Maintenance :=
  { counters := Counters.zero, alarms := [], raisings := 0, alertFrom := none, alertN := false, snapshot := [],
    lastCommand := none, lastResult := none, nextRepetition := none, groupCount := 0, rescueStretch := 0,
    peerStretch := 0, shift := none, latched := none, port := PortLine.idle }

/-- The machine right after reset is taken. -/
def State.reset : State :=
  { tick := 0, clk := 0, timer := Timer.reset, ref := RefUnit.reset, time := TimeScale.reset, schedule := [],
    frames := FrameBuilder.reset, key := Keying.reset, line := LineReader.reset, ctl := Controller.reset,
    load := Loader.reset, maint := Maintenance.reset, pending := [] }

end Sys2Proof.Machine
end

