-- ==== Sys2Proof/Machine/Operands.lean ====
section
/-!
DEFINITION. Reading the bytes a command brings and forming the bytes a command leaves: the CRC-16 (R185), big-endian
fields, the reference record (R184), the header and records of the image (R186), and the packing of bit fields (R187).
-/

namespace Sys2Proof.Machine

/-! ## CRC-16 -/

/-- One shift of the CRC register (R185). -/
def crcShift (r : BitVec 16) : BitVec 16 :=
  if r.msb then (r <<< 1) ^^^ 0x1021#16 else r <<< 1

/-- `n` shifts of the CRC register (R185). -/
def crcShifts : Nat → BitVec 16 → BitVec 16
  | 0, r => r
  | n + 1, r => crcShifts n (crcShift r)

/-- One byte run into the CRC register (R185). -/
def crcByte (r : BitVec 16) (b : Byte) : BitVec 16 :=
  crcShifts 8 (r ^^^ (b ++ 0#8))

/-- The CRC-16 of a run of bytes, from 0xFFFF (R185). -/
def crc16 (bytes : List Byte) : BitVec 16 :=
  bytes.foldl crcByte 0xFFFF#16

/-! ## Fields of bytes -/

/-- The byte at an offset; 0 beyond the end. -/
def byteAt (bytes : List Byte) (i : Nat) : Nat := (bytes.getD i 0#8).toNat

/-- `k` bytes from an offset as one big-endian number. -/
def beNat (bytes : List Byte) (i : Nat) : Nat → Nat
  | 0 => 0
  | k + 1 => beNat bytes i k * 256 + byteAt bytes (i + k)

/-- A number of `w` bits read as two's complement. -/
def signedOf (w v : Nat) : Int :=
  if v % 2 ^ w < 2 ^ (w - 1) then ((v % 2 ^ w : Nat) : Int) else ((v % 2 ^ w : Nat) : Int) - (2 ^ w : Nat)

/-- `k` bytes from an offset as one big-endian two's complement number. -/
def beInt (bytes : List Byte) (i k : Nat) : Int := signedOf (8 * k) (beNat bytes i k)

/-- A number limited to a range (Conventions: clamp). -/
def clampInt (x lo hi : Int) : Int := if x < lo then lo else if hi < x then hi else x

/-- The low `w` bits of a signed number, as a layout carries it. -/
def lowBits (w : Nat) (v : Int) : Nat := (v % ((2 ^ w : Nat) : Int)).toNat

/-- Bit fields packed most significant first: each field is its width and its value (R187). -/
def packFields (fields : List (Nat × Int)) : Nat :=
  fields.foldl (fun acc wv => acc * 2 ^ wv.1 + lowBits wv.1 wv.2) 0

/-- A number as `k` big-endian bytes. -/
def beBytes : Nat → Nat → List Byte
  | 0, _ => []
  | k + 1, v => beBytes k (v / 256) ++ [BitVec.ofNat 8 v]

/-- Bit fields packed into `k` bytes (R187). -/
def packBytes (k : Nat) (fields : List (Nat × Int)) : List Byte := beBytes k (packFields fields)

/-- A Boolean as a one-bit field. -/
def bit (b : Bool) : Int := if b then 1 else 0

/-! ## The reference record -/

/-- The sequence number of a record (R184). -/
def recordSeq (bytes : List Byte) : Nat := beNat bytes 12 2

/-- The fields of a record that the Reference Input Unit keeps (R30, R184). -/
def readRecord (bytes : List Byte) : RefRecord :=
  { n := (beNat bytes 2 4 : Nat)
    quality := byteAt bytes 6 % 16
    leapKind := byteAt bytes 7
    leapDay := (beNat bytes 8 2 : Nat)
    corrNs := beInt bytes 10 2 }

/-! ## The image -/

/-- A field compared with its range as it is written: the value kept, and whether it was clamped (R166). -/
def clampField (v lo hi : Int) : Int × Bool := (clampInt v lo hi, decide (v < lo ∨ hi < v))

/-- The fields of a SITE body and whether any was clamped (R166, R186). A LINE_DISCIPLINE byte other than 0 or 1 is
clamped to on. -/
def readSite (body : List Byte) : Site × Bool :=
  let announce := clampField (beNat body 0 2) 1 1440
  let epochTol := clampField (beNat body 2 2) 10 5000
  let rescueGrace := clampField (beNat body 4 2) 500 20000
  let conflictLimit := clampField (beNat body 6 1) 1 8
  let holdLimit := clampField (beNat body 7 4) 60 86400
  let qMin := clampField (beNat body 11 1) 0 15
  let keyAdvance := clampField (beNat body 12 2) 0 2000
  let outlier := clampField (beNat body 14 2) 1 1000
  let line := clampField (beNat body 16 1) 0 1
  ({ announce := announce.1.toNat, epochTol := epochTol.1.toNat, rescueGrace := rescueGrace.1.toNat,
     conflictLimit := conflictLimit.1.toNat, holdLimit := holdLimit.1.toNat, qMin := qMin.1.toNat,
     keyAdvance := keyAdvance.1.toNat, outlier := outlier.1.toNat, lineDiscipline := decide (line.1 = 1) },
   announce.2 || epochTol.2 || rescueGrace.2 || conflictLimit.2 || holdLimit.2 || qMin.2 || keyAdvance.2 ||
     outlier.2 || line.2)

/-- A rule of a ZONE body, from an offset, and whether any field was clamped (R166, R186). -/
def readRule (body : List Byte) (i : Nat) : OffsetRule × Bool :=
  let month := clampField (beNat body i 1) 1 12
  let ordinal := clampField (beNat body (i + 1) 1) 1 5
  let weekday := clampField (beNat body (i + 2) 1) 1 7
  let minute := clampField (beNat body (i + 3) 2) 0 1439
  ({ month := month.1.toNat, ordinal := ordinal.1.toNat, weekday := weekday.1.toNat, minute := minute.1.toNat },
   month.2 || ordinal.2 || weekday.2 || minute.2)

/-- The fields of a ZONE body and whether any was clamped (R166, R186). -/
def readZone (body : List Byte) : Zone × Bool :=
  let standard := clampField (beInt body 0 1) (-48) 56
  let summer := clampField (beInt body 1 1) (-48) 56
  let startRule := readRule body 2
  let endRule := readRule body 7
  ({ standard := standard.1, summer := summer.1, startRule := startRule.1, endRule := endRule.1 },
   standard.2 || summer.2 || startRule.2 || endRule.2)

/-- The initial F of a TRIM body and whether it was clamped (R166, R186). -/
def readTrim (body : List Byte) : Int × Bool :=
  clampField (beInt body 0 4) (-Config.fLimit) Config.fLimit

/-- The fields of an ALERT body and whether any was clamped (R166, R186). -/
def readAlert (body : List Byte) : Alert × Bool :=
  let count := clampField (beNat body 0 1) 1 15
  let delay := clampField (beNat body 1 1) 1 255
  ({ count := count.1.toNat, delay := delay.1.toNat }, count.2 || delay.2)

/-- The body length of a known record type (R164's table); other types have none. -/
def knownLength : Nat → Option Nat
  | 1 => some 17
  | 2 => some 12
  | 3 => some 4
  | 4 => some 2
  | _ => none

/-- What a walk has written so far: the staging set and the clamp flag (R165, R166). -/
structure Walked where
  staging : Staging
  clamp : Bool
  deriving DecidableEq, Repr

/-- A known record's fields written into the staging set, replacing every field of its type; a record of another type
is passed over (R165). -/
def writeRecord (type : Nat) (body : List Byte) (w : Walked) : Walked :=
  match type with
  | 1 => let r := readSite body
         { staging := { w.staging with site := some r.1 }, clamp := w.clamp || r.2 }
  | 2 => let r := readZone body
         { staging := { w.staging with zone := some r.1 }, clamp := w.clamp || r.2 }
  | 3 => let r := readTrim body
         { staging := { w.staging with trim := some r.1 }, clamp := w.clamp || r.2 }
  | 4 => let r := readAlert body
         { staging := { w.staging with alert := some r.1 }, clamp := w.clamp || r.2 }
  | _ => w

/-- How a walk ended. -/
structure WalkEnd where
  result : LoadResult
  walked : Walked
  deriving DecidableEq, Repr

/-- The walk from a nonzero offset (R164, R165). `left` is how many more records may be visited, `least` the smallest
offset allowed, `image` the whole image. -/
def walkFrom (image : List Byte) : (left : Nat) → (least offset : Nat) → Walked → WalkEnd
  | 0, _, _, w => { result := .tooManyRecords, walked := w }
  | left + 1, least, offset, w =>
    let areaEnd := image.length - 2
    let bodyLength := byteAt image (offset + 1)
    let recordEnd := offset + 4 + bodyLength
    if offset < least ∨ areaEnd < offset + 4 ∨ areaEnd < recordEnd then
      { result := .chain, walked := w }
    else
      let type := byteAt image offset
      let body := (image.drop (offset + 4)).take bodyLength
      match knownLength type with
      | some least' =>
        if bodyLength < least' then { result := .shortRecord, walked := w }
        else
          let w' := writeRecord type body w
          let next := beNat image (offset + 2) 2
          if next = 0 then { result := .ok, walked := w' } else walkFrom image left recordEnd next w'
      | none =>
        let next := beNat image (offset + 2) 2
        if next = 0 then { result := .ok, walked := w } else walkFrom image left recordEnd next w

/-- R168: EPOCH_TOL limited to half of RESCUE_GRACE, in whole µs. An absent SITE record has the default pair, which
meets the limit. -/
def limitEpochTol (w : Walked) : Walked :=
  match w.staging.site with
  | some site =>
    if site.rescueGrace / 2 < site.epochTol then
      { staging := { w.staging with site := some { site with epochTol := site.rescueGrace / 2 } }, clamp := true }
    else w
  | none => w

/-- The walk of a whole image (R164, R168): an image with first-record offset 0 has no records. -/
def walkImage (image : List Byte) : WalkEnd :=
  let start : Walked := { staging := Staging.empty, clamp := false }
  let first := beNat image 5 2
  let walkEnd := if first = 0 then { result := .ok, walked := start } else walkFrom image 16 7 first start
  match walkEnd.result with
  | .ok => { walkEnd with walked := limitEpochTol walkEnd.walked }
  | _ => walkEnd

/-- The parameter set of a staging set with its defaults (R166, R170). -/
def Staging.params (g : Staging) : Params :=
  { site := g.site.getD Site.defaults, zone := g.zone, trim := g.trim, alert := g.alert.getD Alert.defaults }

end Sys2Proof.Machine
end

