-- ==== Sys2Proof/Machine/Calendar.lean ====
section
/-!
DEFINITION. The calendar arithmetic of the Time Scale Unit (R54 to R58): counts to fields, fields to counts, and the
instants of the offset rules. Division and remainder are the floor operations of the Conventions.
-/

namespace Sys2Proof.Machine

/-- The day number of a count (R54). -/
def dayOf (c : Int) : Int := c / 86400

/-- The second of day of a count (R54). -/
def secondOfDay (c : Int) : Int := c % 86400

/-- r of R54: the day within its four-year period. -/
def quadDay (d : Int) : Int := d % 1461

/-- The year offset of R54. -/
def yearOffset (d : Int) : Int := if quadDay d < 366 then 0 else 1 + (quadDay d - 366) / 365

/-- The year of a day (R54). -/
def yearOf (d : Int) : Int := 2000 + 4 * (d / 1461) + yearOffset d

/-- The day of year of a day (R54). -/
def dayOfYear (d : Int) : Int := if quadDay d < 366 then quadDay d + 1 else (quadDay d - 366) % 365 + 1

/-- Whether a year has 366 days, in the range of R54. -/
def leapYear (y : Int) : Bool := decide (y % 4 = 0)

/-- The weekday of a day, Monday = 1 (R55). -/
def weekdayOf (d : Int) : Int := (d + 5) % 7 + 1

/-- The day of year on which each month starts (R55). -/
def monthStarts (leap : Bool) : List Int :=
  if leap then [1, 32, 61, 92, 122, 153, 183, 214, 245, 275, 306, 336]
  else [1, 32, 60, 91, 121, 152, 182, 213, 244, 274, 305, 335]

/-- The day of year on which a month (1 to 12) starts (R55). -/
def monthStart (leap : Bool) (month : Nat) : Int := (monthStarts leap).getD (month - 1) 1

/-- The last day of a month, as a day of month (R55). -/
def monthLength (leap : Bool) (month : Nat) : Int :=
  (if month = 12 then (if leap then 367 else 366) else monthStart leap (month + 1)) - monthStart leap month

/-- Whether a day is the last day of its month (R41, R55): the day after it starts a month or the next year. -/
def monthEnd (d : Int) : Bool :=
  let leap := leapYear (yearOf d)
  let doy := dayOfYear d
  (monthStarts leap).contains (doy + 1) || decide (doy = if leap then 366 else 365)

/-- The day number of a year and day of year (R57); the ceiling is written with the floor. -/
def dayNumber (y doy : Int) : Int := 365 * (y - 2000) + (y - 2000 + 3) / 4 + doy - 1

/-- The frame start of local fields by the inverse calendar (R57). -/
def frameStartOf (y doy hour minute offset : Int) : Int :=
  dayNumber y doy * 86400 + hour * 3600 + minute * 60 - 900 * offset

/-- The day of month a rule names in a year (R58 steps 2 and 3). -/
def ruleDayOfMonth (rule : OffsetRule) (y : Int) : Int :=
  let first := dayNumber y (monthStart (leapYear y) rule.month)
  let w : Int := rule.weekday
  if rule.ordinal = 5 then
    let last := monthLength (leapYear y) rule.month
    last - (weekdayOf (first + last - 1) - w + 7) % 7
  else
    1 + (w - weekdayOf first + 7) % 7 + 7 * ((rule.ordinal : Int) - 1)

/-- The instant of a rule in a year (R58). -/
def ruleInstant (rule : OffsetRule) (y : Int) : Int :=
  let first := dayNumber y (monthStart (leapYear y) rule.month)
  (first + ruleDayOfMonth rule y - 1) * 86400 + 60 * (rule.minute : Int)

/-- The local fields a frame carries (R56). -/
structure LocalFields where
  minute : Nat
  hour : Nat
  dayOfYear : Nat
  yearOfCentury : Nat
  weekday : Nat
  deriving DecidableEq, Repr

/-- The local fields of a local count, with the wrap at 2100 and the pin of a negative count (R56). -/
def localFields (localCount : Int) : LocalFields :=
  if localCount < 0 then
    let s := secondOfDay (localCount + 86400)
    { minute := (s % 3600 / 60).toNat, hour := (s / 3600).toNat, dayOfYear := 365, yearOfCentury := 99, weekday := 5 }
  else
    let d := dayOf localCount
    let s := secondOfDay localCount
    { minute := (s % 3600 / 60).toNat, hour := (s / 3600).toNat, dayOfYear := (dayOfYear d).toNat,
      yearOfCentury := (yearOf d % 100).toNat, weekday := (weekdayOf d).toNat }

/-- Whether a count is the first second of a UTC year (R66). -/
def yearStart (n : Int) : Bool := decide (secondOfDay n = 0) && decide (dayOfYear (dayOf n) = 1)

/-- The UTC minute of day of a frame start (R14). -/
def minuteOfDay (n0 : Int) : Int := secondOfDay n0 / 60

end Sys2Proof.Machine
end

