-- ==== Sys2Proof/Machine/Flags.lean ====
section
/-!
DEFINITION. What the spec derives from other state and does not store: the class (R51), the adoption leave (R154), the
listening and output lines, and the questions one block asks of another.
-/

namespace Sys2Proof.Machine

/-- Whether the time is SET (R44). -/
def State.timeSet (s : State) : Bool := s.time.n.isSome

/-- The class of a time scale under a reference state and a HOLD_LIMIT (R51, first row that holds). -/
def timeClass (time : TimeScale) (ref : RefState) (holdLimit : Nat) : TimeClass :=
  match time.n with
  | none => .u
  | some _ =>
    if ref = .locked then .a
    else if time.origin = some .ref ∧ time.age.any (fun age => decide (age ≤ holdLimit)) then .b
    else .c

/-- The class (R51). -/
def State.cls (s : State) : TimeClass := timeClass s.time s.ref.state s.load.params.site.holdLimit

/-- Whether the Line Reader holds adoption leave: the survey phase is ADOPTING (R127, R154). -/
def State.leave (s : State) : Bool := s.ctl.standing == .survey .adopting

/-- Whether the standing is SURVEY, in any phase. -/
def Standing.isSurvey : Standing → Bool
  | .survey _ => true
  | _ => false

/-- Whether line frames are compared and silence is acted on: SURVEY or DEFERRED (R123, R125). -/
def Standing.surveys (st : Standing) : Bool := st.isSurvey || st == .deferred

/-- Whether the self-test is running: the loopback stands in place of KEY (R139). -/
def State.testRunning (s : State) : Bool := s.ctl.test.state == .running

/-- Whether the part pulls KEY low (R96). -/
def State.keyPulled (s : State) : Bool := s.key.drive == .pulling || s.key.drive == .rescuing

/-- The level of KEY on a sound wire, where any keyer that pulls it low pulls it low for all (06): what the peers leave it at, and low
while the part pulls. A sample of it at every tick makes the part's own pull register as a fall (R94); a wire that a pull does not bring
low (R100) is the sender's (notes/assumptions/32.md). -/
def State.keyOnWire (peers : Level) (s : State) : Level := if s.keyPulled then .low else peers

/-- Whether a running self-test keys its test frame: from its MARK until the drive instant of the MARK keyed after it
(R139, R141). -/
def State.testFrameKeyed (s : State) : Bool := s.testRunning && s.ctl.test.closeDrive.isNone

/-- Whether the loopback is keyed at a drive instant (R139): while the test frame is, and for the MARK after it. -/
def State.loopKeyed (s : State) : Bool := s.testFrameKeyed || (s.testRunning && s.ctl.test.closeDrive == some s.tick)

/-- Whether the present second is an inserted one, by how its epoch took a leap (R45). The leap-60 flag tells it until a
re-set clears the flag (notes/assumptions/19.md). -/
def State.secondInserted (s : State) : Bool := s.timer.past.head?.any (fun p => p.leap == .inserted)

/-- The words the external registers show (R180): those of the last repetition from its latch pulse on, and before it the
words latched before. -/
def Maintenance.registers (clk : Nat) (m : Maintenance) : Option LampWords :=
  match m.shift with
  | some r => if r.start + Config.latchAfter ≤ clk then some r.words else m.latched
  | none => m.latched

/-- KEY_ADVANCE in ticks (R3). -/
def State.keyAdvance (s : State) : Int := 10 * (s.load.params.site.keyAdvance : Int)

/-- EPOCH_TOL in ticks (R99). -/
def State.epochTol (s : State) : Int := 10 * (s.load.params.site.epochTol : Int)

/-- RESCUE_GRACE in ticks (R104). -/
def State.rescueGrace (s : State) : Int := 10 * (s.load.params.site.rescueGrace : Int)

/-- OUTLIER in ticks (R37). -/
def State.outlier (s : State) : Int := 10 * (s.load.params.site.outlier : Int)

/-- The standard offset: 0 without a ZONE record (R48, R166). -/
def Params.standardOffset (p : Params) : Int :=
  match p.zone with
  | some zone => zone.standard
  | none => 0

/-- Whether the load has completed: the port and the status stream are in service and ALERT_N is judged (R170). -/
def State.loaded (s : State) : Bool := s.load.phase == .done

/-- The nominal length D of a symbol (R1). -/
def Symbol.ticks : Symbol → Int
  | .short => 1200000
  | .long => 2400000
  | .mark => 4800000

/-- The class of a reduction (R2). -/
inductive ReductionClass where
  | glitch
  | short
  | long
  | mark
  | overlong
  deriving DecidableEq, Repr

/-- The class of a reduction of length `d` (R2). -/
def classifyReduction (d : Int) : ReductionClass :=
  if d < Config.glitchBelow then .glitch
  else if d < Config.longFrom then .short
  else if d < Config.markFrom then .long
  else if d ≤ Config.markTo then .mark
  else .overlong

/-- Whether a class is a symbol's own (R99, R104): a glitch or OVERLONG differs from every symbol. -/
def ReductionClass.isSymbol (c : ReductionClass) (y : Symbol) : Bool :=
  match c, y with
  | .short, .short => true
  | .long, .long => true
  | .mark, .mark => true
  | _, _ => false

/-- The line symbol of a class (R108): a glitch gives NONE. -/
def ReductionClass.lineSymbol : ReductionClass → LineSymbol
  | .glitch => .noSymbol
  | .short => .short
  | .long => .long
  | .mark => .mark
  | .overlong => .overlong

end Sys2Proof.Machine
end

