-- ==== Sys2Proof/Machine/Ops.lean ====
section
/-!
DEFINITION. The shared operations on State: the clocks a command brings, the counters (R175), the alarm set and ALERT_N
(R177, R179), the keyer's own seconds (R44, R95), the edges on KEY (R95), the entry into each standing (R123, R126) and
the ways out of a self-test (R140, R141).
-/

namespace Sys2Proof.Machine

/-! ## Clocks -/

/-- The state with the clock readings of a command. -/
def State.at (s : State) (now : Instant) : State := { s with tick := now.tick, clk := now.clk }

/-- Answer a next state: an event whose time has not come, or that its guard shuts out, leaves everything as it is. -/
def State.onEvent (s : State) (now : Instant) (due : Bool) (effect : State → State) :
    Host.Outcome State Fault Refusal :=
  if due then .next (effect (s.at now)) else .next s

/-! ## Counters -/

/-- One count of a saturating counter (R175). -/
def bumpSat (n : Nat) : Nat := if n < 255 then n + 1 else 255

/-- One count of a wrapping counter (R175). -/
def bumpWrap (n : Nat) : Nat := if n < 9999 then n + 1 else 0

/-- The state with its counters changed. -/
def State.count (s : State) (bump : Counters → Counters) : State :=
  { s with maint := { s.maint with counters := bump s.maint.counters } }

/-- PULSES_GOOD + 1 (R31). -/
def Counters.addPulseGood (c : Counters) : Counters := { c with pulsesGood := bumpWrap c.pulsesGood }
/-- FRAMES_KEYED + 1 (R112). -/
def Counters.addFrameKeyed (c : Counters) : Counters := { c with framesKeyed := bumpWrap c.framesKeyed }
/-- LINE_FRAMES_GOOD + 1 (R149). -/
def Counters.addLineFrameGood (c : Counters) : Counters := { c with lineFramesGood := bumpWrap c.lineFramesGood }
/-- PULSES_REJECTED + 1 (R28, R31, R37). -/
def Counters.addPulseRejected (c : Counters) : Counters := { c with pulsesRejected := bumpSat c.pulsesRejected }
/-- RECORDS_BAD + 1 (R29, R30, R31). -/
def Counters.addRecordBad (c : Counters) : Counters := { c with recordsBad := bumpSat c.recordsBad }
/-- RECORD_GAPS + 1 (R30). -/
def Counters.addRecordGap (c : Counters) : Counters := { c with recordGaps := bumpSat c.recordGaps }
/-- COUNT_CONFLICTS + 1 (R33, R37). -/
def Counters.addCountConflict (c : Counters) : Counters := { c with countConflicts := bumpSat c.countConflicts }
/-- RESCUES + 1 (R105). -/
def Counters.addRescue (c : Counters) : Counters := { c with rescues := bumpSat c.rescues }
/-- EARLY_SECONDS + 1 (R102). -/
def Counters.addEarly (c : Counters) : Counters := { c with earlySeconds := bumpSat c.earlySeconds }
/-- LONG_SECONDS + 1 (R102). -/
def Counters.addLong (c : Counters) : Counters := { c with longSeconds := bumpSat c.longSeconds }
/-- EXCESS_SECONDS + 1 (R102). -/
def Counters.addExcess (c : Counters) : Counters := { c with excessSeconds := bumpSat c.excessSeconds }
/-- LISTEN_MISMATCHES + 1 (R102). -/
def Counters.addListenMismatch (c : Counters) : Counters :=
  { c with listenMismatches := bumpSat c.listenMismatches }
/-- LINE_FRAMES_BAD + 1 (R148, R149). -/
def Counters.addLineFrameBad (c : Counters) : Counters := { c with lineFramesBad := bumpSat c.lineFramesBad }
/-- SCHED_DROPS + 1 (R65). -/
def Counters.addSchedDrop (c : Counters) : Counters := { c with schedDrops := bumpSat c.schedDrops }
/-- LEAP_REFUSED + 1 (R30, R41, R62, R64). -/
def Counters.addLeapRefused (c : Counters) : Counters := { c with leapRefused := bumpSat c.leapRefused }

/-! ## Alarms -/

/-- The alarm set after a raising at count `n` (R177). -/
def raiseIn (k : AlarmKind) (n : Option Int) : List AlarmEntry → List AlarmEntry
  | [] => [{ kind := k, firstN := n, count := 1 }]
  | e :: rest => if e.kind = k then { e with count := bumpSat e.count } :: rest else e :: raiseIn k n rest

/-- A raising (R177): the entry, the raisings, the delay timer's start at the first, and the judgement of ALERT_N by
ALERT_COUNT, which waits for load completion (R179). -/
def State.raise (k : AlarmKind) (s : State) : State :=
  let raisings := bumpSat s.maint.raisings
  { s with maint := { s.maint with
      alarms := raiseIn k s.time.n s.maint.alarms
      raisings := raisings
      alertFrom := some (s.maint.alertFrom.getD s.clk)
      alertN := s.maint.alertN || (s.loaded && decide (s.load.params.alert.count ≤ raisings)) } }

/-- Whether an alarm kind is held (R177). -/
def State.holds (s : State) (k : AlarmKind) : Bool := s.maint.alarms.any (fun e => e.kind == k)

/-! ## Own seconds -/

/-- The drive instants the keyer knows: the coming one, the most recent one and those of past seconds. -/
def State.driveInstants (s : State) : List Int :=
  s.timer.nextDrive.toList ++ s.key.t0.toList ++ s.timer.past.map (fun p => p.t0)

/-- The later of an instant and an optional one. -/
def laterOf (x : Int) : Option Int → Option Int
  | none => some x
  | some y => some (if y < x then x else y)

/-- The earlier of an instant and an optional one. -/
def earlierOf (x : Int) : Option Int → Option Int
  | none => some x
  | some y => some (if x < y then x else y)

/-- The own second to whose window a tick belongs, by its drive instant (R95): the latest second whose window has begun
by that tick. -/
def State.secondOf (s : State) (t : Int) : Option Int :=
  s.driveInstants.foldr (fun t0 acc => if t0 - Config.halfWindow ≤ t then laterOf t0 acc else acc) none

/-- The drive instant after a given one, where it is known (R95). -/
def State.driveAfter (s : State) (t : Int) : Option Int :=
  s.driveInstants.foldr (fun t0 acc => if t < t0 then earlierOf t0 acc else acc) none

/-- The past second with a given drive instant, and how many epochs have come since its own. -/
def pastAt (t0 : Int) : List PastSecond → Nat → Option (PastSecond × Nat)
  | [], _ => none
  | p :: rest, k => if p.t0 = t0 then some (p, k) else pastAt t0 rest (k + 1)

/-- Whether the keyer keyed the second with a given drive instant (R150). -/
def State.keyedAt (s : State) (t0 : Int) : Bool :=
  match pastAt t0 s.timer.past 0 with
  | some (p, _) => p.keyed
  | none => decide (s.key.t0 = some t0) && s.key.secondKeyed

/-- The newest past second with its count replaced: the own count of the present second follows N (R44). -/
def withPresentCount (n : Option Int) : List PastSecond → List PastSecond
  | [] => []
  | p :: rest => { p with count := n } :: rest

/-! ## Edges on KEY -/

/-- The edge filter with no level, taking samples of KEY from the present tick on (R94, R140, R158). -/
def State.startFilter (s : State) : State :=
  { s with key := { s.key with level := none, levelFrom := some s.tick, run := none } }

/-- Whether a filtered edge can have come at a tick, or the first level have stood its 20 ticks by then (R94): a run of 20 ticks has gone
by since the last edge, or since the filter began to take samples. -/
def Keying.filterReady (k : Keying) (t : Int) : Bool := k.levelFrom.any (fun b => decide (b + Config.filterTicks ≤ t))

/-- A filtered edge (R94): the filter takes its level from its tick on, and it joins the edge list, less the edges beyond reach. -/
def Keying.addEdge (k : Keying) (e : Edge) : Keying :=
  { k with level := some e.level
           levelFrom := some e.tick
           edges := e :: k.edges.filter (fun x => decide (e.tick - Config.edgeReach ≤ x.tick)) }

/-- The falls from `lo` to `hi`, in order of time. -/
def Keying.fallsIn (k : Keying) (lo hi : Int) : List Int :=
  (k.edges.reverse.filter (fun e => e.level == .low && decide (lo ≤ e.tick) && decide (e.tick ≤ hi))).map
    (fun e => e.tick)

/-- The first rise after a tick (R98). -/
def Keying.riseAfter (k : Keying) (t : Int) : Option Int :=
  (k.edges.reverse.find? (fun e => e.level == .high && decide (t < e.tick))).map (fun e => e.tick)

/-- Whether the line was low just before a tick: the first edge from there on is a rise, or there is none and the line is
low. -/
def Keying.lowBefore (k : Keying) (t : Int) : Bool :=
  match k.edges.reverse.find? (fun e => decide (t ≤ e.tick)) with
  | some e => e.level == .high
  | none => k.level == some .low

/-- Whether the reduction from a fall ended as a glitch by a tick (R104, R109). -/
def Keying.glitchBy (k : Keying) (fall by_ : Int) : Bool :=
  match k.riseAfter fall with
  | some rise => decide (rise ≤ by_) && decide (rise - fall < Config.glitchBelow)
  | none => false

/-! ## Standings -/

/-- The Standing Controller's state on leaving the standing it has, for a standing that does not watch the line
(R123, R127, R129): silence timer idle, pending join cleared. -/
def State.enterQuiet (st : Standing) (s : State) : State :=
  { s with
    ctl := { s.ctl with standing := st, pendingJoin := false, silenceFrom := none, silence := false }
    line := { s.line with candidate := none } }

/-- The entry into a standing that watches the line: pending join cleared, silence timer from zero (R123, R126). -/
def State.enterWatch (st : Standing) (s : State) : State :=
  { s with
    ctl := { s.ctl with standing := st, pendingJoin := false, silenceFrom := some s.tick, silence := false }
    line := { s.line with candidate := none } }

/-- The entry actions of SURVEY (R126). -/
def State.enterSurvey (s : State) : State := s.enterWatch (.survey .watching)

/-- The entry into DEFERRED (R123, R134). -/
def State.enterDeferred (s : State) : State := s.enterWatch .deferred

/-- A change of survey phase within SURVEY; the candidate is cleared when ADOPTING is left (R154). -/
def State.setPhase (phase : SurveyPhase) (s : State) : State :=
  { s with ctl := { s.ctl with standing := .survey phase }, line := { s.line with candidate := none } }

/-- What leaving ACTIVE empties in the Keying Unit (R100, R113, R114, R115). -/
def Keying.leftActive (k : Keying) : Keying :=
  { k with tallies := Tallies.empty, conflictStreak := 0, timingStreak := 0, faultRun := 0, keyedMark := false }

/-! ## Self-test -/

/-- The self-test at its end, with a result (R138, R140, R141). When it was running, the loopback is released, the filter
takes KEY again with no level, and the decoder is IDLE until it has one (R158). -/
def State.endTest (result : TestResult) (s : State) : State :=
  let ended := { s with ctl := { s.ctl with test :=
    { s.ctl.test with
        state := .idle, result := result, reference := none, markDrive := none, closeDrive := none, handed := none
        loopLow := false } } }
  if s.testRunning then
    { ended.startFilter with line := { s.line with decoder := .idle, assembly := none, reduction := none } }
  else ended

/-- The abort of a waiting or running self-test (R136, R141). -/
def State.abortTest (s : State) : State :=
  if s.ctl.test.state = .idle then s else s.endTest .aborted

/-- The end of a waiting or running self-test when the time becomes UNSET (R138, R141). -/
def State.endTestUnset (s : State) : State :=
  if s.ctl.test.state = .idle then s else s.endTest .noTime

end Sys2Proof.Machine
end

