-- ==== Sys2Proof/Machine/Schedule.lean ====
section
/-!
DEFINITION. The Change Schedule (R60 to R79): offers, merging, replacement, insertion and eviction, the rule expander,
cancellation, the class-A removal, commitment, retirement, and the answers given to the Frame Builder.
-/

namespace Sys2Proof.Machine

/-- An offer: an entry with the committed flag clear. -/
structure Offer where
  instant : Int
  kind : EntryKind
  newOffset : Option Int
  source : Source
  deriving DecidableEq, Repr

/-- Whether a kind is a leap kind. -/
def EntryKind.isLeap : EntryKind → Bool
  | .leapInsert => true
  | .leapDelete => true
  | .offset => false

/-- The rank of a source: REF, then RULE, then LINE. -/
def Source.rank : Source → Nat
  | .ref => 2
  | .rule => 1
  | .line => 0

/-- The list order: by instant, leap entries before OFFSET entries at an equal instant (R60). -/
def Entry.before (a b : Entry) : Bool :=
  decide (a.instant < b.instant) || (decide (a.instant = b.instant) && a.kind.isLeap && !b.kind.isLeap)

/-- The entry an offer becomes (R65). -/
def Offer.entry (o : Offer) : Entry :=
  { instant := o.instant, kind := o.kind, newOffset := o.newOffset, source := o.source, committed := false }

/-- An entry inserted at its place in the list order (R65). -/
def insertEntry (e : Entry) : List Entry → List Entry
  | [] => [e]
  | x :: rest => if e.before x then e :: x :: rest else x :: insertEntry e rest

/-- The Frame Builder's next frame marked stale, when one is held (R87). -/
def State.markStale (s : State) : State :=
  { s with frames := { s.frames with next := s.frames.next.map (fun f => { f with stale := true }) } }

/-- The list replaced, and the change reported when it is one (R78). -/
def State.setSchedule (entries : List Entry) (s : State) : State :=
  if entries = s.schedule then s else ({ s with schedule := entries }).markStale

/-- What a merge makes of an entry (R63). -/
def mergeEntry (standard : Int) (o : Offer) (e : Entry) : Entry :=
  if e.committed then e
  else if e.source.rank < o.source.rank then
    { e with source := o.source, newOffset := o.newOffset }
  else if o.source.rank < e.source.rank then e
  else
    match o.source with
    | .ref => e
    | .rule => if o.newOffset = some standard ∨ e.newOffset = some standard then { e with newOffset := some standard } else e
    | .line => { e with newOffset := o.newOffset }

/-- A refused offer: a leap kind counts one in LEAP_REFUSED (R62, R64). -/
def State.refuseOffer (o : Offer) (s : State) : State := if o.kind.isLeap then s.count Counters.addLeapRefused else s

/-- A drop or an eviction (R65). -/
def State.schedFull (s : State) : State := (s.count Counters.addSchedDrop).raise .schedFull

/-- The insertion of an offer that matches no entry (R65). -/
def State.insertOffer (o : Offer) (s : State) : State :=
  if s.schedule.length < Config.scheduleSize then s.setSchedule (insertEntry o.entry s.schedule)
  else
    match s.schedule.getLast? with
    | some last =>
      if o.entry.before last then (s.setSchedule (insertEntry o.entry s.schedule.dropLast)).schedFull
      else s.schedFull
    | none => s.schedFull

/-- An offer that has passed its tests: merged (R63), replacing (R64) or inserted (R65). -/
def State.placeOffer (o : Offer) (s : State) : State :=
  if s.schedule.any (fun e => e.instant == o.instant && e.kind == o.kind) then
    s.setSchedule (s.schedule.map (fun e =>
      if e.instant = o.instant ∧ e.kind = o.kind then mergeEntry s.load.params.standardOffset o e else e))
  else if o.kind.isLeap then
    match s.schedule.find? (fun e => e.instant == o.instant && e.kind.isLeap) with
    | some e =>
      if e.committed ∨ o.source.rank < e.source.rank then s.count Counters.addLeapRefused
      else s.setSchedule (s.schedule.map (fun x =>
        if x.instant = o.instant ∧ x.kind.isLeap then o.entry else x))
    | none => s.insertOffer o
  else s.insertOffer o

/-- Whether a leap offer's instant starts the day after the end of a month (R62). -/
def leapInstantOk (t : Int) : Bool := decide (secondOfDay t = 0) && monthEnd (dayOf t - 1)

/-- An offer as it arrives: discarded while UNSET (R61), tested in R62's order, then placed. -/
def State.offer (o : Offer) (s : State) : State :=
  match s.time.n with
  | none => s
  | some n =>
    if o.source = .line ∧ s.cls = .a then s
    else if o.instant ≤ n ∨ Config.lastInstant < o.instant then s.refuseOffer o
    else if o.kind.isLeap then
      if leapInstantOk o.instant then s.placeOffer o else s.refuseOffer o
    else
      match o.newOffset with
      | some q => if -48 ≤ q ∧ q ≤ 56 then s.placeOffer o else s
      | none => s

/-! ## The rule expander -/

/-- The rule instants of a year and the one after: the instant, and the offset it sets (R67). -/
def ruleOffers (zone : Zone) (y : Int) : List Offer :=
  [(ruleInstant zone.startRule y, zone.summer), (ruleInstant zone.endRule y, zone.standard),
   (ruleInstant zone.startRule (y + 1), zone.summer), (ruleInstant zone.endRule (y + 1), zone.standard)].map
    (fun (t, q) => { instant := t, kind := .offset, newOffset := some q, source := .rule })

/-- An offer put into a list in ascending order of instant (R67). -/
def insertOfferByInstant (o : Offer) : List Offer → List Offer
  | [] => [o]
  | x :: rest => if o.instant < x.instant then o :: x :: rest else x :: insertOfferByInstant o rest

/-- A run of the rule expander (R66, R67): nothing while UNSET or without a ZONE record. -/
def State.expandRules (s : State) : State :=
  match s.time.n, s.load.params.zone with
  | some n, some zone =>
    let offers := (ruleOffers zone (yearOf (dayOf n))).filter (fun o => decide (n < o.instant))
    (offers.foldr insertOfferByInstant []).foldl (fun acc o => acc.offer o) s
  | _, _ => s

/-! ## Leaving the list -/

/-- A cancellation: uncommitted REF leap entries leave (R68). -/
def State.cancelRefLeaps (s : State) : State :=
  s.setSchedule (s.schedule.filter (fun e => !(e.kind.isLeap && e.source == .ref && !e.committed)))

/-- The class-A removal: uncommitted LINE entries leave (R70). -/
def State.removeLineEntries (s : State) : State :=
  s.setSchedule (s.schedule.filter (fun e => !(e.source == .line && !e.committed)))

/-- What a count re-set does to the list: overtaken entries leave and commitments are dropped (R75). -/
def State.pruneForReset (n : Int) (s : State) : State :=
  s.setSchedule ((s.schedule.filter (fun e => decide (n < e.instant))).map (fun e => { e with committed := false }))

/-- The commitment of the leap entry of a frame that has just become current, when its length matches (R71). -/
def State.commitLeap (f : Frame) (s : State) : State :=
  s.setSchedule (s.schedule.map (fun e =>
    if e.instant = f.n0 + 60 ∧ ((e.kind = .leapInsert ∧ f.symbols.length = 61) ∨ (e.kind = .leapDelete ∧ f.symbols.length = 59))
    then { e with committed := true } else e))

/-- Retirement at the epoch at which N has become `n` (R72, R73, R74): entries at that instant leave, and an OFFSET
entry that is not a no-op sets the current offset. -/
def State.retire (n : Int) (s : State) : State :=
  let retired := s.setSchedule (s.schedule.filter (fun e => decide (e.instant ≠ n)))
  match s.schedule.find? (fun e => decide (e.instant = n) && e.kind == .offset) with
  | some e =>
    match e.newOffset with
    | some q => if q = s.time.offset then retired else { retired with time := { retired.time with offset := q } }
    | none => retired
  | none => retired

/-! ## Questions -/

/-- The committed leap entry, when one is held (R71). -/
def committedLeap (entries : List Entry) : Option Entry := entries.find? (fun e => e.committed && e.kind.isLeap)

/-- The offset a frame carries (R76). -/
def offsetFor (n0 : Int) (current : Int) (entries : List Entry) : Int :=
  match entries.find? (fun e => decide (e.instant = n0) && e.kind == .offset) with
  | some e => e.newOffset.getD current
  | none => current

/-- Whether an entry's announcement window contains a frame start (R76). -/
def inWindow (announce : Nat) (n0 : Int) (e : Entry) : Bool :=
  decide (e.instant - 60 * (announce : Int) ≤ n0) && decide (n0 < e.instant)

/-- The leap pending at a frame start (R76). -/
def leapPending (announce : Nat) (n0 : Int) (entries : List Entry) : Option Entry :=
  entries.find? (fun e => e.kind.isLeap && inWindow announce n0 e)

/-- Whether an offset change is pending at a frame start, against the offset carried (R76). -/
def offsetPending (announce : Nat) (n0 : Int) (carried : Int) (entries : List Entry) : Bool :=
  entries.any (fun e => e.kind == .offset && inWindow announce n0 e && e.newOffset != some carried)

/-- The entry that a frame's notice word describes (R77): the first later than the frame start, when it is at most 511
days ahead. -/
def noticeEntry (n0 : Int) (entries : List Entry) : Option Entry :=
  match entries.find? (fun e => decide (n0 < e.instant)) with
  | some e => if dayOf e.instant - dayOf n0 ≤ 511 then some e else none
  | none => none

/-- The current offset found from the rules at a count (R59): the offset of the latest of the six instants not after it,
END deciding at an equal instant; the standard offset without a ZONE record. -/
def offsetFromRules (p : Params) (n : Int) : Int :=
  match p.zone with
  | none => p.standardOffset
  | some zone =>
    let y := yearOf (dayOf n)
    let starts := [y - 1, y, y + 1].map (fun k => (ruleInstant zone.startRule k, zone.summer))
    let ends := [y - 1, y, y + 1].map (fun k => (ruleInstant zone.endRule k, zone.standard))
    let latest := ((starts ++ ends).filter (fun tq => decide (tq.1 ≤ n))).foldl
      (fun best tq =>
        match best with
        | none => some tq
        | some b => if b.1 ≤ tq.1 then some tq else some b)
      none
    match latest with
    | some tq => tq.2
    | none => zone.standard

end Sys2Proof.Machine
end

