-- ==== Sys2Proof/Machine/Frames.lean ====
section
/-!
DEFINITION. The Frame Builder (R80 to R93) and the broadcast code it writes (R4 to R16, R183): fields and parity, the
notice word, builds, the notice latch, rebuilds, catch-up builds and the swap.
-/

namespace Sys2Proof.Machine

/-! ## Fields -/

/-- The low `n` bits of a number, most significant first (R183). -/
def bitsOf (n v : Nat) : List Bool := (List.range n).map (fun i => v.testBit (n - 1 - i))

/-- The number that bits spell, most significant first. -/
def ofBits (bits : List Bool) : Nat := bits.foldl (fun acc b => 2 * acc + b.toNat) 0

/-- Whether a group holds an odd number of LONG symbols (R13). -/
def oddParity (group : List Bool) : Bool := group.foldl Bool.xor false

/-- A group followed by its parity symbol (R13). -/
def withParity (group : List Bool) : List Bool := group ++ [oddParity group]

/-- A bit as a symbol (Conventions). -/
def symbolOf (b : Bool) : Symbol := if b then .long else .short

/-- The announcement bits of a frame (R8, R9, R10). -/
structure Announcement where
  lp : Bool
  oc : Bool
  ls : Bool
  su : Bool
  deriving DecidableEq, Repr

/-- The symbol list of a frame's fields (R81, R183): 60 symbols, SHORT appended at index 60 of a 61-symbol frame, and the
notice parity left out of a 59-symbol frame. -/
def frameSymbols (length : Nat) (ann : Announcement) (l : LocalFields) (offset : Int) (segmentByte segment : Nat) :
    List Symbol :=
  let body :=
    withParity [ann.lp, ann.oc, ann.ls, ann.su] ++ withParity (bitsOf 6 l.minute) ++ withParity (bitsOf 5 l.hour) ++
      withParity (bitsOf 9 l.dayOfYear) ++ withParity (bitsOf 7 l.yearOfCentury) ++ withParity (bitsOf 3 l.weekday) ++
      withParity (bitsOf 7 (lowBits7 offset)) ++ withParity (bitsOf 8 segmentByte ++ bitsOf 2 segment)
  let symbols := Symbol.mark :: body.map symbolOf
  if length = 61 then symbols ++ [.short] else if length = 59 then symbols.take 59 else symbols
where
  /-- A signed offset as 7 bits of two's complement (R12). -/
  lowBits7 (v : Int) : Nat := (v % 128).toNat

/-! ## The notice word -/

/-- The number of one bits among the low `n` bits of a number. -/
def onesIn : Nat → Nat → Nat
  | 0, _ => 0
  | n + 1, v => v % 2 + onesIn n (v / 2)

/-- The check of a word: the one bits among bits 31 to 3, modulo 8 (R16). -/
def noticeCheck (word : BitVec 32) : Nat := onesIn 29 (word.toNat / 8) % 8

/-- The kind field of an entry (R15). -/
def EntryKind.code : EntryKind → Nat
  | .leapInsert => 1
  | .leapDelete => 2
  | .offset => 3

/-- The notice word of an entry for a frame start, check included (R15, R16). -/
def wordOf (n0 : Int) (e : Entry) : BitVec 32 :=
  let off := frameSymbols.lowBits7 (e.newOffset.getD 0)
  let days := (dayOf e.instant - dayOf n0).toNat
  let minute := (secondOfDay e.instant / 60).toNat
  let high := e.kind.code * 2 ^ 30 + off * 2 ^ 23 + days * 2 ^ 14 + minute * 2 ^ 3
  BitVec.ofNat 32 (high + noticeCheck (BitVec.ofNat 32 high))

/-- The notice word computed for a frame start (R15, R77): 0 when there is no event to describe. -/
def noticeWordFor (n0 : Int) (entries : List Entry) : BitVec 32 :=
  match noticeEntry n0 entries with
  | some e => wordOf n0 e
  | none => 0#32

/-- Segment k of a word: bits 31 − 8k down to 24 − 8k (R14). -/
def segmentOf (word : BitVec 32) (k : Nat) : Nat := word.toNat / 2 ^ (24 - 8 * k) % 256

/-- The segment index of a frame start: its UTC minute of day modulo 4 (R14, R81). -/
def segmentIndex (n0 : Int) : Nat := (minuteOfDay n0 % 4).toNat

/-! ## Builds -/

/-- The length of a frame (R84): a leap entry at its end counts, committed or not for an ON_TIME build, committed only for
a CATCH_UP build. -/
def frameLength (n0 : Int) (kind : BuildKind) (entries : List Entry) : Nat :=
  match entries.find? (fun e =>
    decide (e.instant = n0 + 60) && e.kind.isLeap && (kind == .onTime || e.committed)) with
  | some e => if e.kind = .leapInsert then 61 else 59
  | none => 60

/-- A frame with the notice word it records (R81). -/
def frameFor (n0 : Int) (kind : BuildKind) (word : BitVec 32) (s : State) : Frame :=
  let announce := s.load.params.site.announce
  let carried := offsetFor n0 s.time.offset s.schedule
  let leap := leapPending announce n0 s.schedule
  let ann : Announcement :=
    { lp := leap.isSome
      oc := offsetPending announce n0 carried s.schedule
      ls := match leap with
            | some e => e.kind == .leapDelete
            | none => false
      su := decide (carried ≠ s.load.params.standardOffset) }
  let k := segmentIndex n0
  { n0 := n0
    symbols := frameSymbols (frameLength n0 kind s.schedule) ann (localFields (n0 + 900 * carried)) carried
      (segmentOf word k) k
    noticeWord := word
    segment := k
    offset := carried
    classAtBuild := s.cls
    kind := kind
    stale := false }

/-- The notice word of a build (R85): computed afresh for segment 0 or an empty latch, otherwise the latched one. -/
def buildWord (n0 : Int) (s : State) : BitVec 32 :=
  match s.frames.latch with
  | some w => if segmentIndex n0 = 0 then noticeWordFor n0 s.schedule else w
  | none => noticeWordFor n0 s.schedule

/-- The next frame built for a start (R83, R85). -/
def State.buildNext (n0 : Int) (s : State) : State :=
  let word := buildWord n0 s
  { s with frames := { s.frames with next := some (frameFor n0 .onTime word s), latch := some word } }

/-- The current frame built for a start, as a catch-up build makes it (R82, R85). -/
def State.buildCurrent (n0 : Int) (s : State) : State :=
  let word := buildWord n0 s
  { s with frames := { s.frames with current := some (frameFor n0 .catchUp word s), latch := some word } }

/-- The rebuild of a stale next frame (R88); a next frame that is not stale stands. -/
def State.rebuildStale (s : State) : State :=
  match s.frames.next with
  | some f =>
    if f.stale then
      let built := s.buildNext f.n0
      { built with frames := { built.frames with rebuilds := bumpSat s.frames.rebuilds } }
    else s
  | none => s

/-- The listen index of a frame (R103). -/
def listenIndexOf (slot : Nat) (n0 : Int) : Nat := 3 + 15 * slot + 2 * (n0 % 3600 / 60 % 6).toNat

/-- What the Keying Unit does when a frame becomes current: tallies emptied, listen index found (R103, R111). -/
def State.frameBecameCurrent (s : State) : State :=
  { s with key := { s.key with
      tallies := Tallies.empty
      keyedMark := false
      listenIndex := s.frames.current.map (fun f => listenIndexOf s.load.slot f.n0) } }

/-- The index of the present second within a frame (R91): 60 in an inserted second. -/
def indexIn (f : Frame) (n : Int) (leap60 : Bool) : Nat := if leap60 then 60 else (n - f.n0).toNat

/-- Both frames discarded and the notice latch emptied (R80, R82). -/
def State.discardFrames (s : State) : State :=
  { s with frames := { s.frames with current := none, next := none, latch := none } }

/-- A catch-up build, whatever the standing (R82): nothing is built while the time is UNSET (R80). -/
def State.catchUpNow (s : State) : State :=
  let s := s.discardFrames
  match s.time.n with
  | some n =>
    let n0 := n - n % 60
    let s := s.buildCurrent n0
    let s := if s.time.leap60 ∨ n0 + 45 ≤ n then s.buildNext (n0 + 60) else s
    s.frameBecameCurrent
  | none => s.frameBecameCurrent

/-- A catch-up build: none is made while the standing is LOADING (R80). -/
def State.catchUp (s : State) : State :=
  if s.ctl.standing = .loading then s.discardFrames.frameBecameCurrent else s.catchUpNow

/-- The build point, at the epoch of index 45 of the current frame, unless a next frame is already held (R83). -/
def State.buildPoint (s : State) : State :=
  match s.time.n, s.frames.current, s.frames.next with
  | some n, some f, none =>
    if s.ctl.standing ≠ .loading ∧ indexIn f n s.time.leap60 = 45 then s.buildNext (f.n0 + 60) else s
  | _, _, _ => s

/-- The swap (R90): the stale next frame rebuilt, the outgoing frame handed over for comparison, the next frame made
current, and its leap entry committed. -/
def State.frameSwap (s : State) : State :=
  let s := s.rebuildStale
  let s := match s.frames.next, s.frames.current with
           | none, some f => s.buildNext (f.n0 + 60)
           | _, _ => s
  let s := { s with ctl := { s.ctl with copy := s.frames.current } }
  let s := { s with frames := { s.frames with current := s.frames.next, next := none } }
  let s := match s.frames.current with
           | some f => s.commitLeap f
           | none => s
  s.frameBecameCurrent

/-- The frame held with a given start, among the current frame and the next (R92). -/
def FrameBuilder.holding (n0 : Int) (b : FrameBuilder) : Option Frame :=
  (b.current.filter (fun f => decide (f.n0 = n0))).or (b.next.filter (fun f => decide (f.n0 = n0)))

/-- A request for the keyer's own frame with a given start (R92): a next frame that is stale at that moment is rebuilt first, whichever
frame answers and also when neither does. -/
def State.ownFrame (n0 : Int) (s : State) : State × Option Frame :=
  let s := s.rebuildStale
  (s, s.frames.holding n0)

end Sys2Proof.Machine
end

