-- ==== Sys2Proof/Machine/TimeScaleOps.lean ====
section
/-!
DEFINITION. The Time Scale Unit (R44 to R59): the per-second advance and its leap cases, time SET and UNSET, re-sets, the
end of the count range, and what a change of class does (R51, R70, R127, R134).
-/

namespace Sys2Proof.Machine

/-! ## Class changes -/

/-- What a change of class does, given the class before (R70, R127, R134): on becoming A, LINE entries leave and ADOPTING
returns to WATCHING; a change out of A to B or C takes DEFERRED to SURVEY. -/
def State.classChanged (before : TimeClass) (s : State) : State :=
  if before ≠ .a ∧ s.cls = .a then
    let s := s.removeLineEntries
    if s.ctl.standing = .survey .adopting then s.setPhase .watching else s
  else if before = .a ∧ (s.cls = .b ∨ s.cls = .c) ∧ s.ctl.standing = .deferred then s.enterSurvey
  else s

/-! ## The advance -/

/-- N after the next per-second advance, and how it takes a leap (R44, R45, R46), with the leap entries committed now.
`inserted` says that the present second is the inserted one already. -/
def advanceOf (n : Int) (inserted : Bool) (entries : List Entry) : Int × LeapStep :=
  match committedLeap entries with
  | some e =>
    if e.kind = .leapInsert ∧ n + 1 = e.instant ∧ inserted = false then (n, .inserted)
    else if e.kind = .leapDelete ∧ n + 2 = e.instant then (n + 2, .deleted)
    else (n + 1, .plain)
  | none => (n + 1, .plain)

/-- The own count of the next epoch and how that epoch takes a leap (R44): none while UNSET. While the range is marked as ending it is
the count the advance would give, 3,155,760,000, although R49 gives N no value there: the spec names no own count for that epoch
(notes/assumptions/17.md). -/
def State.comingCount (s : State) : Option (Int × LeapStep) :=
  s.time.n.map (fun n => advanceOf n s.secondInserted s.schedule)

/-- Whether the second with a count is the last of the count range (R49): the last count, or a count whose advance, a
deletion at the very end of the range, would pass it. -/
def rangeEnds (n : Int) (inserted : Bool) (entries : List Entry) : Bool :=
  decide (n = Config.lastCount) || decide (Config.lastCount < (advanceOf n inserted entries).1)

/-- N set, with the own count of the present second following it and the mark of the range's end (R44, R49): a mark that stands
already stays, whatever N becomes. The mark clears the pending join. -/
def State.setN (n : Int) (s : State) : State :=
  let ending := s.time.rangeEnding || rangeEnds n s.secondInserted s.schedule
  { s with
    time := { s.time with n := some n, rangeEnding := ending }
    timer := { s.timer with past := withPresentCount (some n) s.timer.past }
    ctl := { s.ctl with pendingJoin := s.ctl.pendingJoin && !ending } }

/-- Whether a count lies in the range of N (R44). -/
def countInRange (n : Int) : Bool := decide (0 ≤ n ∧ n ≤ Config.lastCount)

/-! ## UNSET -/

/-- The Time Scale Unit on becoming UNSET (R48): the current offset is kept. -/
def TimeScale.unset (t : TimeScale) : TimeScale :=
  { t with n := none, origin := none, age := none, leap60 := false, pendingReset := none, pendingSet := none,
           rangeEnding := false }

/-- The end of the count range (R49): the time UNSET, frames and schedule emptied, the reference at NOREF, DEFERRED back to
SURVEY, and a self-test ended (R138, R141). -/
def State.endRange (s : State) : State :=
  let s := s.endTestUnset
  let s := { s with time := s.time.unset, schedule := [], ref := RefUnit.reset
                    timer := { s.timer with past := withPresentCount none s.timer.past }
                    ctl := { s.ctl with pendingJoin := false } }
  let s := s.discardFrames.frameBecameCurrent
  if s.ctl.standing = .deferred then s.enterSurvey else s

/-! ## SET -/

/-- The time becoming SET with a count for the present second (R47, R50): origin and age, the current offset, the rule
expander and the catch-up build. -/
def State.setTime (n : Int) (origin : Origin) (s : State) : State :=
  let before := s.cls
  let s := { s with time := { s.time with
      origin := some origin
      age := if origin = Origin.ref then some 0 else none
      leap60 := false
      pendingSet := none
      offset := offsetFromRules s.load.params n } }
  (((s.setN n).expandRules).catchUp).classChanged before

/-! ## Re-sets -/

/-- What every applied re-set does besides (R45, R52, R125, R129, R141): the leap-60 flag cleared, a self-test that keys its test
frame aborted, the catch-up build, the comparison floor, and the pending join cleared. -/
def State.resetApplied (s : State) : State :=
  let s := { s with time := { s.time with leap60 := false } }
  let s := if s.testFrameKeyed then s.endTest .aborted else s
  let s := s.catchUp
  { s with ctl := { s.ctl with
      pendingJoin := false
      floor := match s.frames.current with
               | some f => some f.n0
               | none => s.ctl.floor } }

/-- The N to which a count difference leads (R52); none while UNSET, or when it lies outside the range of N. -/
def State.shiftsTo (difference : Int) (s : State) : Option Int :=
  match s.time.n with
  | some n => if countInRange (n + difference) then some (n + difference) else none
  | none => none

/-- What a count re-set makes of the list (R75): entries overtaken and commitments dropped, and the LINE entries removed when
the class is A. R75 gives that removal no place beside the run of the rule expander; the model makes it before the expander runs
(notes/assumptions/36.md). -/
def State.resetSchedule (n : Int) (s : State) : State :=
  let s := s.pruneForReset n
  if s.cls = .a then s.removeLineEntries else s

/-- A count difference taken into N, the schedule and the offset, without the Frame Builder's part (R52, R75). A result
outside the range of N is not taken. -/
def State.shiftCount (difference : Int) (s : State) : State :=
  match s.shiftsTo difference with
  | some n =>
    let s := { s with time := { s.time with leap60 := false } }
    let s := ((s.resetSchedule n).setN n).expandRules
    { s with time := { s.time with offset := offsetFromRules s.load.params n } }
  | none => s

/-- A count re-set applied at once (R52); a difference of 0 is none, and one that leads out of the range of N is not taken. -/
def State.applyCountReset (difference : Int) (s : State) : State :=
  if difference = 0 ∨ s.shiftsTo difference = none then s else (s.shiftCount difference).resetApplied

/-- A pending re-set dropped: a later one replaces both its parts (R53). -/
def State.dropPendingReset (s : State) : State := { s with time := { s.time with pendingReset := none } }

/-- The age after one more second (R50). -/
def ageLater (t : TimeScale) : Option Nat :=
  t.age.map (fun age => if age < Config.ageLimit then age + 1 else Config.ageLimit)

/-- The newest past second with the way its epoch took a leap. -/
def withPresentLeap (step : LeapStep) : List PastSecond → List PastSecond
  | [] => []
  | p :: rest => { p with leap := step } :: rest

/-- The per-second advance at an epoch to `n'`, taking a leap as `step` says (R44, R45, R46, R50). An N that the advance
would take past the range stands (notes/assumptions/31.md). -/
def State.advanceTo (n' : Int) (step : LeapStep) (s : State) : State :=
  let s := { s with
    time := { s.time with leap60 := step == LeapStep.inserted, age := ageLater s.time }
    timer := { s.timer with past := withPresentLeap step s.timer.past } }
  s.setN (if Config.lastCount < n' then s.time.n.getD n' else n')

/-- The count at the epoch `e` (R44 to R49), with what the advance was to make of it before the epoch: the advance while SET, the
end of a range marked as ending, and a pending SET taken at its epoch. The range ends at its epoch also where a LEAP_INSERT is committed
for that instant and R45 would hold N for one more second: the spec does not say which rule gives way (notes/assumptions/17.md). -/
def State.countAtEpoch (coming : Option (Int × LeapStep)) (e : Int) (s : State) : State :=
  match coming with
  | some (n', step) => if s.time.rangeEnding then s.endRange else s.advanceTo n' step
  | none =>
    match s.time.pendingSet with
    | some p => if p.epoch = e then s.setTime p.count p.origin else s
    | none => s

/-- A pending count difference added to N at an epoch (R49, R53): the count that the epoch begins is the sum, so that a mark of the
range's end set by this epoch's advance is judged again. -/
def State.shiftAtEpoch (difference : Int) (s : State) : State :=
  match s.shiftsTo difference with
  | some _ => ({ s with time := { s.time with rangeEnding := false } } : State).shiftCount difference
  | none => s

/-- The pending re-set at an epoch (R53): at the first epoch at which the standing is not ACTIVE its count difference is
added to N, its phase error becomes a held step for the next epoch, and the re-set has been applied. The Frame Builder's
part follows the retirements of the epoch. The second part of the answer says whether a re-set was applied. -/
def State.takePendingReset (s : State) : State × Bool :=
  match s.time.pendingReset with
  | some r =>
    if s.ctl.standing = .active then (s, false)
    else
      let s := s.dropPendingReset
      let counted := r.difference.any (fun d => (s.shiftsTo d).isSome)
      let s := match r.difference with
               | some d => s.shiftAtEpoch d
               | none => s
      let s := match r.phase with
               | some e => { s with timer := { s.timer with heldStep := some e } }
               | none => s
      (s, counted || r.phase.isSome)
  | none => (s, false)

/-- What retires and falls due with N at an epoch, once N has advanced (R66, R72, R74). -/
def State.entriesAtEpoch (s : State) : State :=
  match s.time.n with
  | some n =>
    let s := s.retire n
    if yearStart n then s.expandRules else s
  | none => s

/-! ## Counts handed over -/

/-- A count handed over for the epoch that comes next, or for one from which `since` epochs have come (R47, R52, R53).
`coming` says which. -/
structure HandedCount where
  count : Int
  origin : Origin
  /-- The epoch the count is given for. -/
  epoch : Int
  /-- The epochs that have come since; absent when the epoch is still to come. -/
  since : Option Nat
  deriving DecidableEq, Repr

/-- The own count of the epoch a count is given for (R44): the advance's for a coming epoch, N for the present second, the
count held then for an earlier one. -/
def State.ownCountFor (h : HandedCount) (s : State) : Option Int :=
  match h.since with
  | none => s.comingCount.map Prod.fst
  | some 0 => s.time.n
  | some k =>
    match (s.timer.past[k]?).bind (fun p => p.count) with
    | some c => some c
    | none => s.time.n.map (fun n => n - k)

/-- A count handed over while the time is UNSET (R47). A count outside the range is not taken. The second part of the answer
says whether it was. -/
def State.handWhileUnset (h : HandedCount) (s : State) : State × Bool :=
  match h.since with
  | none =>
    if countInRange h.count then
      ({ s with time := { s.time with pendingSet := some { count := h.count, epoch := h.epoch, origin := h.origin } } }, true)
    else (s, false)
  | some k =>
    if countInRange h.count ∧ countInRange (h.count + k) then (s.setTime (h.count + k) h.origin, true) else (s, false)

/-- The origin and age a taken count brings while SET (R50). -/
def State.setOrigin (origin : Origin) (s : State) : State :=
  { s with time := { s.time with origin := some origin, age := if origin = Origin.ref then some 0 else none } }

end Sys2Proof.Machine
end

