-- ==== Sys2Proof/Machine/SecondTimer.lean ====
section
/-!
DEFINITION. The Second Timer (R17, R22 to R27): phase errors, the phase source, the second length, steps, and the delivery
of samples.
-/

namespace Sys2Proof.Machine

/-- A difference of ticks wrapped into −5,000,000 to +4,999,999 (R22). -/
def wrapError (d : Int) : Int := (d + Config.halfWindow) % Config.nominalSecond - Config.halfWindow

/-- A phase correction in ns as ticks, rounded half away from zero (R22). -/
def correctionTicks (ns : Int) : Int := if 0 ≤ ns then (ns + 50) / 100 else -((-ns + 50) / 100)

/-- The phase error of a REF sample at a tick against an epoch, with a record's correction subtracted (R22). -/
def refError (tick epoch : Int) (corrNs : Int) : Int := wrapError (tick - epoch) - correctionTicks corrNs

/-- What the Second Timer does with the second that begins at an epoch (R25, R26). -/
inductive Discipline where
  /-- No sample is used: flywheel. -/
  | flywheel
  /-- A sample of error `e` is used, `n` seconds after the last one. -/
  | steer (e : Int) (n : Nat)
  /-- A sample of error `e` is taken as a step. -/
  | sampleStep (e : Int)
  /-- The held step of error `e` is taken. -/
  | heldStep (e : Int)
  deriving DecidableEq, Repr

/-- The phase source set at an epoch (R23). -/
def phaseSource (ref : RefState) (lineDiscipline : Bool) (received : Option Nat) : PhaseSource :=
  if ref = .locked then .ref
  else if lineDiscipline ∧ received.any (fun m => decide (m ≤ Config.lineEpochs)) then .line
  else .noSource

/-- The sample of the source's kind that is held, with n of R24. -/
def heldSample (source : PhaseSource) (t : Timer) : Option (Int × Nat) :=
  match source with
  | .ref => t.heldRef.map (fun e => (e, 1))
  | .line => t.heldLine.map (fun e => (e, t.usedMarker.getD (Config.lineEpochs + 1)))
  | .noSource => none

/-- What is done at an epoch (R25, R26): a held step while not ACTIVE; otherwise a sample, as a step when it is large and
the standing is not ACTIVE; otherwise the flywheel. -/
def disciplineOf (active : Bool) (source : PhaseSource) (t : Timer) : Discipline :=
  match t.heldStep, active with
  | some e, false => .heldStep e
  | _, _ =>
    match heldSample source t with
    | some (e, n) => if active = false ∧ Config.stepLimit < (e.natAbs : Int) then .sampleStep e else .steer e n
    | none => .flywheel

/-- F after step 1 of R25. -/
def steeredF (f e : Int) (n : Nat) : Int :=
  if n ≤ Config.lineEpochs then clampInt (f + (e * 256).tdiv n) (-Config.fLimit) Config.fLimit else f

/-- P of R25. -/
def phaseCorrection (e : Int) : Int := clampInt (e.tdiv 8) (-Config.pLimit) Config.pLimit

/-- Steps 3 to 5 of R25 with F and P given: q, L and A. -/
def Timer.spend (t : Timer) (f p : Int) : Timer :=
  let q := (t.a + f) / Config.fUnit
  { t with f := f, length := Config.nominalSecond + p + q, a := t.a + f - Config.fUnit * q }

/-- The markers one epoch later (R23). -/
def Timer.ageMarkers (t : Timer) : Timer :=
  { t with receivedMarker := t.receivedMarker.map (· + 1), usedMarker := t.usedMarker.map (· + 1) }

/-- The used marker and the last phase error once a sample of the source has been used (R23, R25). -/
def Timer.sampleUsed (source : PhaseSource) (e : Int) (t : Timer) : Timer :=
  { t with lastError := some e, usedMarker := if source = .line then some 0 else t.usedMarker }

/-- The second length fixed at an epoch (R23, R25, R26): phase source, L, F and A, with every held sample and step
spent. The markers have been aged. -/
def Timer.fixLength (active : Bool) (ref : RefState) (lineDiscipline : Bool) (t : Timer) : Timer :=
  let source := phaseSource ref lineDiscipline t.receivedMarker
  let t := { t with source := source }
  let spent : Timer :=
    match disciplineOf active source t with
    | .flywheel => t.spend t.f 0
    | .steer e n => (t.spend (steeredF t.f e n) (phaseCorrection e)).sampleUsed source e
    | .sampleStep e => ({ t with length := Config.nominalSecond + e } : Timer).sampleUsed source e
    | .heldStep e => { t with length := Config.nominalSecond + e }
  { spent with heldRef := none, heldLine := none, heldStep := none }

/-- Whether a step is taken at an epoch (R26). -/
def Timer.steps (active : Bool) (ref : RefState) (lineDiscipline : Bool) (t : Timer) : Bool :=
  match disciplineOf active (phaseSource ref lineDiscipline t.receivedMarker) t with
  | .sampleStep _ => true
  | .heldStep _ => true
  | _ => false

/-- The epoch and the drive instant that follow a second whose length has been fixed (R3, R17). -/
def Timer.beginSecond (keyAdvance e : Int) (t : Timer) : Timer :=
  { t with epoch := some e, nextEpoch := some (e + t.length), nextDrive := some (e + t.length - keyAdvance),
           driveTaken := false }

/-- A line phase sample delivered (R23). -/
def State.deliverLine (e : Int) (s : State) : State :=
  { s with timer := { s.timer with heldLine := some e, receivedMarker := some 0 } }

/-- A REF phase sample held (R23). -/
def State.holdRef (e : Int) (s : State) : State := { s with timer := { s.timer with heldRef := some e } }

/-- A step held (R26). A step held before for the same epoch is replaced: the spec does not say which of two stands
(notes/assumptions/25.md). -/
def State.holdStep (e : Int) (s : State) : State := { s with timer := { s.timer with heldStep := some e } }

/-- The Second Timer at an oscillator loss (R19): F is kept. The tick from which the next stable run is counted is the
present one (R18). -/
def Timer.lost (tick : Int) (t : Timer) : Timer := { Timer.reset with f := t.f, runFrom := tick }

end Sys2Proof.Machine
end

