-- ==== Sys2Proof/Machine/KeyingUnit.lean ====
section
/-!
DEFINITION. The Keying Unit inside a second (R94 to R117): the release, the readback, the listen second, the outcome, the
frame verdict, the yield due on it, and the observation record; the meanings of REDUCTION_RELEASE, READBACK,
RESCUE_GRACE_EXPIRY, DECISION_POINT and RECORD_CLOSE.
-/

namespace Sys2Proof.Machine

/-! ## Open seconds -/

/-- The open second with a given drive instant. -/
def Keying.openAt (k : Keying) (t0 : Int) : Option OpenSecond := k.opens.find? (fun o => decide (o.t0 = t0))

/-- The open second with a given drive instant changed. -/
def Keying.updateOpen (k : Keying) (t0 : Int) (f : OpenSecond → OpenSecond) : Keying :=
  { k with opens := k.opens.map (fun o => if o.t0 = t0 then f o else o) }

/-- Whether the keyer keyed a second (R108). -/
def Action.keyed : Action → Bool
  | .notKeying => false
  | _ => true

/-! ## Release -/

/-- The release of a reduction (R96), or of a loopback reduction (R139): KEY released. -/
def State.releaseEffect (s : State) : State := { s with key := { s.key with drive := .released } }

/-- Whether the reduction in progress ends at a tick: t0 + D of the intended symbol (R1, R96). -/
def State.releaseDue (t : Int) (s : State) : Bool :=
  match s.key.t0, s.key.intended with
  | some t0, some y => decide (t0 + y.ticks = t)
  | _, _ => false

/-! ## Readback -/

/-- The readback tick of a second the keyer pulls in (R95, R105). -/
def State.readbackTick (s : State) (o : OpenSecond) : Option Int :=
  match o.action with
  | .driven => some (o.t0 + Config.readbackAt)
  | .rescued => some (o.t0 + s.rescueGrace + Config.readbackAt)
  | _ => none

/-- The open second whose readback falls at a tick (R95, R105). -/
def State.readbackOf (t : Int) (s : State) : Option OpenSecond :=
  s.key.opens.find? (fun o => s.readbackTick o == some t)

/-- The line sampled at the readback (R98, R100). -/
def State.readbackEffect (s : State) : State :=
  match s.readbackOf s.tick with
  | some o => { s with key := s.key.updateOpen o.t0 (fun o => { o with readback := s.key.level }) }
  | none => s

/-- READBACK (R100): at t0 + 10,000 of a driven second, or 1 ms into a rescue. -/
def execReadback (now : Instant) (s : State) : Host.Outcome State Fault Refusal :=
  s.onEvent now (s.timer.monitor == .up && (s.readbackOf now.tick).isSome) State.readbackEffect

/-! ## The listen second -/

/-- The taken fall of a listen second at t0 + RESCUE_GRACE (R104): the first fall of the second by then whose reduction has
not ended as a glitch. -/
def State.takenFall (t0 : Int) (s : State) : Option Int :=
  let grace := t0 + s.rescueGrace
  (s.key.fallsIn (t0 - Config.halfWindow) grace).find? (fun f => !s.key.glitchBy f grace)

/-- A fall taken in the listen second (R104, R106, R153): WITHHELD, and a fall within EPOCH_TOL is a line phase sample. -/
def State.listenTaken (t0 fall : Int) (s : State) : State :=
  let s := { s with key :=
    { s.key.updateOpen t0 (fun o => { o with taken := some fall }) with drive := .released } }
  if ((fall - t0).natAbs : Int) ≤ s.epochTol then s.deliverLine (wrapError (fall - t0)) else s

/-- A rescue (R105, R182): KEY pulled low, counted, and signalled to the status stream. -/
def State.rescueBegins (t0 : Int) (s : State) : State :=
  let s := { s with key :=
    { s.key.updateOpen t0 (fun o => { o with action := .rescued }) with drive := .rescuing } }
  let s := s.count Counters.addRescue
  { s with maint := { s.maint with rescueStretch := Config.stretch } }

/-- t0 + RESCUE_GRACE of the listen second (R104, R105, R106). -/
def State.graceEffect (s : State) : State :=
  match s.key.t0 with
  | some t0 =>
    match s.takenFall t0 with
    | some fall => s.listenTaken t0 fall
    | none => s.rescueBegins t0
  | none => s

/-- RESCUE_GRACE_EXPIRY (R105): while LISTENING. -/
def execRescueGraceExpiry (now : Instant) (s : State) : Host.Outcome State Fault Refusal :=
  s.onEvent now
    (s.timer.monitor == .up && s.key.drive == .listening && s.key.t0 == some (now.tick - s.rescueGrace))
    State.graceEffect

/-! ## Outcomes -/

/-- The fall of the measured reduction of a driven second (R98). -/
def Keying.drivenFall (k : Keying) (t0 : Int) : Option Int :=
  (k.fallsIn (t0 - Config.halfWindow) (t0 + Config.readbackAt)).getLast?

/-- The class of the reduction from a fall, where it has risen (R2). -/
def Keying.classFrom (k : Keying) (fall : Int) : Option ReductionClass :=
  (k.riseAfter fall).map (fun rise => classifyReduction (rise - fall))

/-- The outcome of a driven second, by the tests of R99 in order. -/
def drivenOutcome (k : Keying) (tol : Int) (o : OpenSecond) (y : Symbol) : SecondOutcome :=
  if k.level = some .low then .stuck
  else if o.readback = some .high then .driveFault
  else
    match k.drivenFall o.t0 with
    | none => .excessSymbol
    | some fall =>
      match k.riseAfter fall with
      | none => .excessSymbol
      | some rise =>
        if !(classifyReduction (rise - fall)).isSymbol y then .excessSymbol
        else if fall < o.t0 - tol then .early
        else if o.t0 + y.ticks + tol < rise then .lateLong
        else .clean

/-- The outcome of a withheld second (R104). -/
def withheldOutcome (k : Keying) (tol : Int) (o : OpenSecond) (y : Symbol) : SecondOutcome :=
  if k.level = some .low then .stuck
  else
    match o.taken with
    | some fall =>
      if tol < ((fall - o.t0).natAbs : Int) then .peerOffset
      else
        match k.classFrom fall with
        | some c => if c.isSymbol y then .peerMatch else .peerMismatch
        | none => .peerMismatch
    | none => .peerAbsent

/-- The outcome of a rescued second (R105). -/
def rescuedOutcome (k : Keying) (o : OpenSecond) : SecondOutcome :=
  if k.level = some .low then .stuck else if o.readback = some .high then .driveFault else .peerAbsent

/-- The outcome of a keyed second at its decision point; none for a second that is not keyed. -/
def decidedOutcome (k : Keying) (tol : Int) (o : OpenSecond) : Option SecondOutcome :=
  match o.action, o.intended with
  | .driven, some y => some (drivenOutcome k tol o y)
  | .withheld, some y => some (withheldOutcome k tol o y)
  | .rescued, some _ => some (rescuedOutcome k o)
  | _, _ => none

/-- The tallies after one more keyed second (R111). -/
def Tallies.add (t : Tallies) (listen : Bool) (outcome : SecondOutcome) : Tallies :=
  let t := { t with keyed := t.keyed + 1, listen := if listen then some outcome else t.listen }
  match outcome with
  | .excessSymbol => { t with excess := t.excess + 1 }
  | .early => { t with early := t.early + 1 }
  | .lateLong => { t with lateLong := t.lateLong + 1 }
  | .peerMismatch => { t with mismatch := t.mismatch + 1 }
  | .peerOffset => { t with offset := t.offset + 1 }
  | _ => t

/-- The verdict of the tallies (R112): the first condition that holds. -/
def Tallies.verdict (t : Tallies) : Verdict :=
  if 0 < t.mismatch ∨ 0 < t.offset ∨ 2 ≤ t.excess then .conflict
  else if 0 < t.early ∨ 0 < t.lateLong ∨ t.excess = 1 then .disturbed
  else .quiet

/-- The counter of an outcome (R102); a rescue has been counted when it began. -/
def State.countOutcome (outcome : SecondOutcome) (s : State) : State :=
  match outcome with
  | .early => s.count Counters.addEarly
  | .lateLong => s.count Counters.addLong
  | .excessSymbol => s.count Counters.addExcess
  | .peerMismatch => s.count Counters.addListenMismatch
  | .peerOffset => s.count Counters.addListenMismatch
  | _ => s

/-- The alarm of an outcome (R100, R101). -/
def State.alarmOutcome (outcome : SecondOutcome) (s : State) : State :=
  match outcome with
  | .stuck => s.raise .lineStuck
  | .driveFault => s.raise .driveFault
  | _ => s

/-- The drive-fault run after a second in which the keyer pulled KEY, and the report at 2 (R100, R133). -/
def State.runDriveFault (action : Action) (outcome : SecondOutcome) (s : State) : State :=
  match action with
  | .driven => pulled
  | .rescued => pulled
  | _ => s
where
  /-- A second in which the keyer pulled. -/
  pulled : State :=
    if outcome = .driveFault then
      let run := s.key.faultRun + 1
      { s with key := { s.key with faultRun := run }
               ctl := { s.ctl with faultReport := s.ctl.faultReport || decide (2 ≤ run) } }
    else { s with key := { s.key with faultRun := 0 } }

/-! ## Verdict and yield -/

/-- The yield threshold of a class and the destination of a yield (R130). -/
def yieldRule (conflictLimit slot : Nat) : TimeClass → Nat × YieldTo
  | .a => (conflictLimit + 2 * (3 - slot), .deferred)
  | .b => (conflictLimit, .survey)
  | .c => (1, .survey)
  | .u => (1, .survey)

/-- Whether a yield is due on a streak and a listen outcome (R130). -/
def yieldIsDue (conflictLimit threshold streak : Nat) (listen : Option SecondOutcome) : Bool :=
  if listen = some .peerAbsent then decide (conflictLimit + 6 ≤ streak) else decide (threshold ≤ streak)

/-- The verdict of the current frame (R112 to R114, R130): streaks, PEER_TIMING, FRAMES_KEYED, the last verdict and the
yield due. -/
def State.giveVerdict (n0 : Int) (s : State) : State :=
  let v := s.key.tallies.verdict
  let conflict := if v = .conflict then s.key.conflictStreak + 1 else 0
  let timing := if v = .disturbed then s.key.timingStreak + 1 else 0
  let limit := s.load.params.site.conflictLimit
  let rule := yieldRule limit s.load.slot s.cls
  let due := yieldIsDue limit rule.1 conflict s.key.tallies.listen
  let s := { s with
    key := { s.key with conflictStreak := conflict, timingStreak := if timing = 3 then 0 else timing
                        lastVerdict := some { verdict := v, n0 := n0 } }
    ctl := { s.ctl with yieldDue := if due then some rule.2 else none } }
  let s := if s.key.keyedMark then s.count Counters.addFrameKeyed else s
  if timing = 3 then
    let s := s.raise .peerTiming
    { s with maint := { s.maint with peerStretch := Config.stretch } }
  else s

/-- The verdict, when the second decided is the last index of the current frame and the standing is ACTIVE (R112). -/
def State.verdictAt (o : OpenSecond) (s : State) : State :=
  match s.frames.current with
  | some f =>
    if s.ctl.standing = .active ∧ o.n0 = some f.n0 ∧ o.index = some (f.symbols.length - 1) then s.giveVerdict f.n0 else s
  | none => s

/-! ## The self-test's end -/

/-- Whether the self-test passes (R140). -/
def State.testPasses (s : State) : Bool :=
  match s.ctl.test.handed, s.ctl.test.reference, s.ctl.test.markDrive with
  | some f, some r, some t0 =>
    f.n0 == r.n0 && f.symbols == r.symbols && decide (((f.markFall - t0).natAbs : Int) ≤ s.epochTol)
  | _, _, _ => false

/-- The end of a running self-test at the decision point of the MARK after the test frame (R140). -/
def State.testAt (o : OpenSecond) (s : State) : State :=
  if s.testRunning ∧ s.ctl.test.closeDrive = some o.t0 then s.endTest (if s.testPasses then .pass else .fail) else s

/-! ## The decision point -/

/-- A keyed second with its outcome fixed (R99, R100, R101, R102, R111, R112). -/
def State.decideKeyed (o : OpenSecond) (outcome : SecondOutcome) (s : State) : State :=
  let s := { s with key :=
    { s.key.updateOpen o.t0 (fun o => { o with outcome := some outcome }) with
        tallies := s.key.tallies.add o.listen outcome } }
  (((s.countOutcome outcome).alarmOutcome outcome).runDriveFault o.action outcome).verdictAt o

/-- t0 + 700 ms (R95, R99). -/
def State.decisionEffect (s : State) : State :=
  match s.key.openAt (s.tick - Config.decisionAt) with
  | some o =>
    match decidedOutcome s.key s.epochTol o with
    | some outcome => s.decideKeyed o outcome
    | none => s.testAt o
  | none => s

/-- DECISION_POINT (R99): of an open second that has not been decided. -/
def execDecisionPoint (now : Instant) (s : State) : Host.Outcome State Fault Refusal :=
  s.onEvent now
    (s.timer.monitor == .up &&
      (s.key.openAt (now.tick - Config.decisionAt)).any (fun o => o.outcome.isNone))
    State.decisionEffect

/-! ## The observation record -/

/-- A difference of ticks in µs, truncated toward zero (R108). -/
def microseconds (d : Int) : Int := d.tdiv 10

/-- The fall offset, rise offset and line symbol of a second whose fall is known (R108): a reduction still low at the
record close has no rise offset and is OVERLONG. -/
def fallFields (k : Keying) (t0 fall : Int) : Option Int × Option Int × LineSymbol :=
  match k.riseAfter fall with
  | some rise =>
    (some (microseconds (fall - t0)), some (microseconds (rise - t0)), (classifyReduction (rise - fall)).lineSymbol)
  | none => (some (microseconds (fall - t0)), none, .overlong)

/-- The same for a second in which the keyer pulled and no fall was its own (R108): the interval from the window's start
to the rise when the line was low there, and otherwise no reduction. -/
def noFallFields (k : Keying) (t0 : Int) : Option Int × Option Int × LineSymbol :=
  let start := t0 - Config.halfWindow
  if k.lowBefore start then
    match k.riseAfter (start - 1) with
    | some rise => (none, some (microseconds (rise - t0)), (classifyReduction (rise - start)).lineSymbol)
    | none => (none, none, .overlong)
  else (none, none, .noSymbol)

/-- The fall of a rescued second (R108): the rescue's own fall at t0 + RESCUE_GRACE. Where the line did not fall at that tick, the
first fall within the 1 ms to the readback stands for it: the spec names no other fall (notes/assumptions/22.md). -/
def State.rescueFall (t0 : Int) (s : State) : Option Int :=
  (s.key.fallsIn (t0 + s.rescueGrace) (t0 + s.rescueGrace + Config.readbackAt)).head?

/-- The first fall of a second that is not keyed whose reduction is no glitch (R109). -/
def State.observedFall (t0 : Int) (s : State) : Option Int :=
  let windowEnd := match s.driveAfter t0 with
                   | some next => next - Config.halfWindow - 1
                   | none => s.tick
  (s.key.fallsIn (t0 - Config.halfWindow) windowEnd).find? (fun f => !s.key.glitchBy f s.tick)

/-- The outcome, fall offset, rise offset and line symbol of a second at its record close (R108, R109). -/
def State.recordFields (o : OpenSecond) (s : State) : SecondOutcome × Option Int × Option Int × LineSymbol :=
  if o.suspended then (.silent, none, none, .noSymbol)
  else
    match o.action with
    | .driven =>
      (o.outcome.getD .silent,
        match s.key.drivenFall o.t0 with
        | some fall => fallFields s.key o.t0 fall
        | none => noFallFields s.key o.t0)
    | .withheld =>
      (o.outcome.getD .silent,
        match o.taken with
        | some fall => fallFields s.key o.t0 fall
        | none => noFallFields s.key o.t0)
    | .rescued =>
      (o.outcome.getD .silent,
        match s.rescueFall o.t0 with
        | some fall => fallFields s.key o.t0 fall
        | none => noFallFields s.key o.t0)
    | .notKeying =>
      match s.observedFall o.t0 with
      | some fall => (.observed, fallFields s.key o.t0 fall)
      | none => (.silent, none, none, .noSymbol)

/-- The observation record of a second (R108). -/
def State.recordOf (o : OpenSecond) (s : State) : ObsRecord :=
  let (outcome, fall, rise, symbol) := s.recordFields o
  { n0 := o.n0, index := o.index, action := o.action, fallOffset := fall, riseOffset := rise, symbol := symbol,
    outcome := outcome }

/-- A record appended to the ring; of 64 held the oldest is removed (R107). -/
def appendRecord (r : ObsRecord) (ring : List ObsRecord) : List ObsRecord :=
  (if ring.length < Config.ringSize then ring else ring.drop (ring.length + 1 - Config.ringSize)) ++ [r]

/-- t0 + 1,200 ms (R95, R107). -/
def State.recordCloseEffect (s : State) : State :=
  match s.key.openAt (s.tick - Config.recordAt) with
  | some o =>
    { s with key := { s.key with
        ring := appendRecord (s.recordOf o) s.key.ring
        opens := s.key.opens.filter (fun x => decide (x.t0 ≠ o.t0)) } }
  | none => s

/-- RECORD_CLOSE (R107): of an open second; a keyed one has been decided. -/
def execRecordClose (now : Instant) (s : State) : Host.Outcome State Fault Refusal :=
  s.onEvent now
    (s.timer.monitor == .up &&
      (s.key.openAt (now.tick - Config.recordAt)).any (fun o => !o.action.keyed || o.outcome.isSome))
    State.recordCloseEffect

end Sys2Proof.Machine
end

