-- ==== Sys2Proof/Machine/LineFrames.lean ====
section
/-!
DEFINITION. The line frame as the Line Reader reads it (R149, R150): fields, the checks of validity, and the word of a notice
assembly (R156, R157).
-/

namespace Sys2Proof.Machine

/-- The bits of a frame from index `i`, `k` of them (R149): LONG is one. -/
def bitsAt (symbols : List Symbol) (i k : Nat) : List Bool :=
  ((symbols.drop i).take k).map (fun y => y == .long)

/-- The field of a frame from index `i`, `k` symbols wide (R149, R183). -/
def fieldAt (symbols : List Symbol) (i k : Nat) : Nat := ofBits (bitsAt symbols i k)

/-- LP of a line frame. -/
def lineLP (symbols : List Symbol) : Bool := fieldAt symbols 1 1 == 1
/-- LS of a line frame. -/
def lineLS (symbols : List Symbol) : Bool := fieldAt symbols 3 1 == 1
/-- The local minute of a line frame. -/
def lineMinute (symbols : List Symbol) : Nat := fieldAt symbols 6 6
/-- The local hour of a line frame. -/
def lineHour (symbols : List Symbol) : Nat := fieldAt symbols 13 5
/-- The local day of year of a line frame. -/
def lineDay (symbols : List Symbol) : Nat := fieldAt symbols 19 9
/-- The local year of century of a line frame. -/
def lineYear (symbols : List Symbol) : Nat := fieldAt symbols 29 7
/-- The local weekday of a line frame. -/
def lineWeekday (symbols : List Symbol) : Nat := fieldAt symbols 37 3
/-- The offset of a line frame, 7 symbols of two's complement. -/
def lineOffset (symbols : List Symbol) : Int := signedOf 7 (fieldAt symbols 41 7)
/-- The notice segment of a line frame. -/
def lineSegment (symbols : List Symbol) : Nat := fieldAt symbols 49 8
/-- The segment index of a line frame. -/
def lineSegmentIndex (symbols : List Symbol) : Nat := fieldAt symbols 57 2

/-- The local day of a line frame by the inverse calendar (R57). -/
def lineLocalDay (symbols : List Symbol) : Int := dayNumber (2000 + lineYear symbols) (lineDay symbols)

/-- N0 of a line frame by the inverse calendar (R57, R149). -/
def lineN0 (symbols : List Symbol) : Int :=
  frameStartOf (2000 + lineYear symbols) (lineDay symbols) (lineHour symbols) (lineMinute symbols) (lineOffset symbols)

/-- The groups with their parity symbols, as index and width (R13, R183). -/
def parityGroups : List (Nat × Nat) := [(1, 5), (6, 7), (13, 6), (19, 10), (29, 8), (37, 4), (41, 8)]

/-- Check 1 of R149. -/
def lengthOk (symbols : List Symbol) : Bool :=
  if symbols.length = 60 then true
  else if symbols.length = 61 then
    symbols.getLast? == some .short && lineLP symbols && !lineLS symbols
  else if symbols.length = 59 then lineLP symbols && lineLS symbols
  else false

/-- Check 2 of R149: a 59-symbol frame has no notice parity. -/
def parityOk (symbols : List Symbol) : Bool :=
  (if symbols.length = 59 then parityGroups else parityGroups ++ [(49, 11)]).all
    (fun iw => !oddParity (bitsAt symbols iw.1 iw.2))

/-- Check 3 of R149. -/
def rangeOk (symbols : List Symbol) : Bool :=
  decide (lineMinute symbols ≤ 59) && decide (lineHour symbols ≤ 23) && decide (1 ≤ lineDay symbols) &&
    decide (lineDay symbols ≤ if (2000 + lineYear symbols) % 4 = 0 then 366 else 365) &&
    decide (-48 ≤ lineOffset symbols) && decide (lineOffset symbols ≤ 56)

/-- Check 4 of R149. -/
def weekdayOk (symbols : List Symbol) : Bool := decide ((lineWeekday symbols : Int) = weekdayOf (lineLocalDay symbols))

/-- Check 5 of R149. -/
def leapMinuteOk (symbols : List Symbol) : Bool :=
  decide (symbols.length = 60) || decide (secondOfDay (lineN0 symbols) = 86340)

/-- The first check of R149 that fails; none for a valid line frame. -/
def frameFault (symbols : List Symbol) : Option BreakReason :=
  if !lengthOk symbols then some .length
  else if !parityOk symbols then some .parity
  else if !rangeOk symbols then some .range
  else if !weekdayOk symbols then some .weekday
  else if !leapMinuteOk symbols then some .leapMinute
  else none

/-- The notice word formed by four segments, segment 0 first (R156). -/
def wordOfSegments (segments : List Byte) : BitVec 32 := BitVec.ofNat 32 (beNat segments 0 4)

/-- The kind a word names (R157); NONE is no kind. -/
def kindOfWord (word : BitVec 32) : Option EntryKind :=
  match word.toNat / 2 ^ 30 with
  | 1 => some .leapInsert
  | 2 => some .leapDelete
  | 3 => some .offset
  | _ => none

/-- The offer a word makes for a cycle start (R157): none when its check disagrees, its kind is NONE, or its minute of day
is above 1,439. -/
def offerOfWord (cycleStart : Int) (word : BitVec 32) : Option Offer :=
  let w : Nat := word.toNat
  let minute : Nat := w / 2 ^ 3 % 2 ^ 11
  if w % 8 ≠ noticeCheck word ∨ 1439 < minute then none
  else
    (kindOfWord word).map (fun kind =>
      { instant := (dayOf cycleStart + Int.ofNat (w / 2 ^ 14 % 2 ^ 9)) * 86400 + 60 * Int.ofNat minute
        kind := kind
        newOffset := if kind = .offset then some (signedOf 7 (w / 2 ^ 23)) else none
        source := .line })

end Sys2Proof.Machine
end

