-- ==== Sys2Proof/Machine/LineReader.lean ====
section
/-!
DEFINITION. The Line Reader (R143 to R159) with what the Standing Controller does with a line frame (R125 to R128, R134), and
the meanings of FILTER_FIRST_LEVEL, KEY_FALL, KEY_RISE, FALL_SETTLED, MARK_RECOGNISED, OVERLONG, SPACING_WINDOW_CLOSE and
SILENCE.
-/

namespace Sys2Proof.Machine

/-! ## Comparison -/

/-- The first index at which two symbol lists differ (R125). -/
def firstDifference : List Symbol → List Symbol → Nat → Option Nat
  | x :: xs, y :: ys, i => if x = y then firstDifference xs ys (i + 1) else some i
  | [], [], _ => none
  | _, _, i => some i

/-- The seconds from the coming one to the one whose epoch begins the count `n`, by the advance (R44) with the leap committed now: an
insertion between them gives one more, a deletion one less (R45, R46). -/
def secondsAhead (coming : Int × LeapStep) (entries : List Entry) (n : Int) : Int :=
  match committedLeap entries with
  | some e =>
    if coming.2 = .plain ∧ coming.1 < e.instant ∧ e.instant ≤ n then
      n - coming.1 + (if e.kind = .leapInsert then 1 else -1)
    else n - coming.1
  | none => n - coming.1

/-- The own drive instant of an epoch still to come, the one that begins the count `n` (R125): the coming drive instant moved on by
seconds of nominal length (notes/assumptions/20.md). -/
def State.driveAhead (n : Int) (s : State) : Option Int :=
  match s.timer.nextDrive, s.comingCount with
  | some t, some coming => some (t + Config.nominalSecond * secondsAhead coming s.schedule n)
  | _, _ => none

/-- The own drive instant of the epoch that began, or will begin, the second with count `n` (R125): that of a count later than N is
still to come; that of an earlier one is the latest second that held it, or, of seconds that held no count, the one as many epochs
back (notes/assumptions/20.md). -/
def State.driveOfCount (s : State) (n : Int) : Option Int :=
  match s.time.n with
  | some now =>
    if now < n then s.driveAhead n
    else
      match s.timer.past.find? (fun p => p.count == some n) with
      | some p => some p.t0
      | none => ((s.timer.past[(now - n).toNat]?).filter (fun p => p.count.isNone)).map (fun p => p.t0)
  | none => none

/-- A line frame held up against the keyer's own (R125): the MARK fall is measured from the drive instant of the epoch that begins the
count N0, or from the drive instant of its own second when no such epoch is known. The spec gives a MARK offset "in µs" and no rounding;
the model truncates it toward zero (notes/assumptions/20.md). -/
def compareFrames (own : Frame) (f : LineFrame) (t0 : Option Int) (tol : Int) : Comparison :=
  if own.symbols.length ≠ f.symbols.length then .length
  else
    match firstDifference own.symbols f.symbols 0 with
    | some i => .symbol i
    | none =>
      let off := match t0 with
                 | some t => f.markFall - t
                 | none => f.markTicks
      if tol < (off.natAbs : Int) then .markOffset (off.tdiv 10) else .agree

/-- The keyer's own frame with a start: the comparison copy, the current frame or the next frame (R92, R125). Where the copy holds the
start, nothing is requested of the Frame Builder: the spec does not say that it is asked then too (notes/assumptions/33.md). -/
def State.frameToCompare (n0 : Int) (s : State) : State × Option Frame :=
  match s.ctl.copy with
  | some f => if f.n0 = n0 then (s, some f) else s.ownFrame n0
  | none => s.ownFrame n0

/-- The comparison of a line frame, recorded as the last comparison (R125). -/
def State.compareLine (f : LineFrame) (s : State) : State × Comparison :=
  let (s, own) := if s.timeSet then s.frameToCompare f.n0 else (s, none)
  let result := match own with
                | some o => compareFrames o f (s.driveOfCount f.n0) s.epochTol
                | none => .noFrame
  ({ s with ctl := { s.ctl with lastComparison := some { n0 := f.n0, result := result } } }, result)

/-- The pending join set or cleared (R129). -/
def State.setJoin (join : Bool) (s : State) : State := { s with ctl := { s.ctl with pendingJoin := join } }

/-- A move into DEFERRED by disagreement (R126, R128). -/
def State.deferByConflict (s : State) : State := s.enterDeferred.raise .conflict

/-- What a comparison's result does (R126, R128, R129, R134). An AGREE while the range is marked as ending sets the pending join, which
no drive instant takes before the next epoch: R49 has the join cleared while the mark stands, R126 sets it at every AGREE, and the spec
does not say which gives way (notes/assumptions/17.md). -/
def State.actOnComparison (f : LineFrame) (result : Comparison) (s : State) : State :=
  if result = .agree then s.setJoin true
  else if s.ctl.pendingJoin then s.setJoin false
  else
    match s.ctl.standing with
    | .survey .watching =>
      if s.cls = .a then s.deferByConflict
      else
        let s := s.setPhase .adopting
        { s with line := { s.line with candidate := some f.n0 } }
    | .survey .confirming => s.deferByConflict
    | _ => s

/-- A line frame handed to the Standing Controller (R125, R151): compared in SURVEY or DEFERRED when it is later than the
comparison floor. -/
def State.handFrame (f : LineFrame) (s : State) : State :=
  if s.ctl.standing.surveys ∧ s.ctl.floor.all (fun n => decide (n < f.n0)) then
    let (s, result) := s.compareLine f
    s.actOnComparison f result
  else s

/-! ## Adoption -/

/-- An adoption handed to the Time Scale Unit (R47, R50, R53, R155), for the second whose drive instant is `t0`. The second part
says whether it was taken. -/
def State.takeAdoption (f : LineFrame) (p : PastSecond) (since : Nat) (s : State) : State × Bool :=
  let h : HandedCount := { count := f.n0, origin := .line, epoch := p.epoch, since := some since }
  if s.ref.state = .locked ∨ !countInRange f.n0 then (s, false)
  else if s.timeSet then
    let difference := match s.ownCountFor h with
                      | some own => f.n0 - own
                      | none => 0
    (((s.setOrigin .line).dropPendingReset).applyCountReset difference, true)
  else s.handWhileUnset h

/-- A frame delivered while leave is held (R154, R155). -/
def State.adoptFrame (f : LineFrame) (s : State) : State :=
  let asCandidate : State := { s with line := { s.line with candidate := some f.n0 } }
  if s.line.candidate = some (f.n0 - 60) ∧ f.symbols.length = 60 then
    match (s.secondOf f.markFall).bind (fun t0 => pastAt t0 s.timer.past 0) with
    | some (p, since) =>
      let (s', taken) := s.takeAdoption f p since
      if taken then (s'.holdStep (f.markFall - p.t0)).setPhase .confirming else asCandidate
    | none => asCandidate
  else asCandidate

/-! ## The notice -/

/-- The notice assembly emptied (R156). -/
def State.emptyNotice (s : State) : State := { s with line := { s.line with notice := none } }

/-- A line frame offered to the notice assembly (R156, R157). -/
def State.noticeFrame (f : LineFrame) (s : State) : State :=
  let k := lineSegmentIndex f.symbols
  let segment : Byte := BitVec.ofNat 8 (lineSegment f.symbols)
  if s.cls = .a ∨ k ≠ segmentIndex f.n0 then s.emptyNotice
  else if k = 0 then
    { s with line := { s.line with notice := some { cycleStart := f.n0, segments := [segment] } } }
  else
    match s.line.notice with
    | some a =>
      if a.segments.length = k ∧ f.n0 = a.cycleStart + 60 * (k : Int) then
        let segments := a.segments ++ [segment]
        if segments.length = 4 then
          let s := s.emptyNotice
          match offerOfWord a.cycleStart (wordOfSegments segments) with
          | some o => s.offer o
          | none => s
        else { s with line := { s.line with notice := some { a with segments := segments } } }
      else s.emptyNotice
    | none => s.emptyNotice

/-! ## Frames -/

/-- A broken or invalid frame on KEY (R148, R149): counted, with its reason, and the candidate and the notice assembly
cleared. -/
def State.badFrame (reason : BreakReason) (s : State) : State :=
  ({ s with line := { s.line with lastBreak := some reason, candidate := none, notice := none } } : State).count
    Counters.addLineFrameBad

/-- The frame under assembly breaks (R148): discarded, and the decoder HUNTING. A loopback frame changes no counter, break
reason, candidate or notice assembly (R158). -/
def State.breakFrame (reason : BreakReason) (s : State) : State :=
  let s := { s with line := { s.line with assembly := none, decoder := .hunting } }
  if s.testRunning then s else s.badFrame reason

/-- The delivery of a valid line frame (R151): a mixed frame only empties the notice assembly. -/
def State.deliverFrame (f : LineFrame) (s : State) : State :=
  if f.mixed then s.emptyNotice
  else (if s.leave then s.adoptFrame f else s.handFrame f).noticeFrame f

/-- The record of a valid line frame (R150). -/
def State.lineRecord (a : Assembly) (falls : List Int) (s : State) : LineFrame :=
  { n0 := lineN0 a.symbols
    symbols := a.symbols
    markFall := a.markFall
    markTicks := a.markFall - (s.secondOf a.markFall).getD a.markFall
    mixed := falls.any (fun t => ((s.secondOf t).map s.keyedAt).getD false) }

/-- A line frame that closes (R147, R149 to R151): `falls` are the falls of its own line seconds. In a self-test it is
handed to the test, if it is valid (R158). -/
def State.closeFrame (a : Assembly) (falls : List Int) (s : State) : State :=
  if s.testRunning then
    let handed : Option LoopFrame :=
      match frameFault a.symbols with
      | none => some { n0 := lineN0 a.symbols, symbols := a.symbols, markFall := a.markFall }
      | some _ => none
    { s with ctl := { s.ctl with test := { s.ctl.test with handed := handed } } }
  else
    match frameFault a.symbols with
    | some reason => s.badFrame reason
    | none =>
      let f := s.lineRecord a falls
      let s := s.count Counters.addLineFrameGood
      ({ s with line := { s.line with last := some f } } : State).deliverFrame f

/-! ## The decoder -/

/-- The role of the reduction in progress set. -/
def State.setRole (role : ReductionRole) (s : State) : State :=
  { s with line := { s.line with reduction := s.line.reduction.map (fun r => { r with role := role }) } }

/-- A line phase sample (R152): the first non-glitch fall of an own second, within 5 ms of its drive instant, in SURVEY,
DEFERRED or STANDBY with no self-test running. -/
def State.sampleLine (fall : Int) (s : State) : State :=
  if s.testRunning then s
  else
    match s.secondOf fall with
    | some t0 =>
      if s.line.sampled = some t0 then s
      else
        let s := { s with line := { s.line with sampled := some t0 } }
        let e := wrapError (fall - t0)
        if (s.ctl.standing.surveys ∨ s.ctl.standing = .standby) ∧ (e.natAbs : Int) ≤ Config.lineSampleReach then
          s.deliverLine e
        else s
    | none => s

/-- What the decoder makes of a fall that has settled as no glitch (R145, R146). -/
def State.decodeFall (fall : Int) (s : State) : State :=
  match s.line.decoder, s.line.assembly with
  | .assembling, some a =>
    if fall < a.lastFall + Config.spacingFrom then (s.breakFrame .extraFall).setRole .hunted
    else if fall ≤ a.lastFall + Config.spacingTo then
      ({ s with line := { s.line with
          assembly := some { a with falls := fall :: a.falls, lastFall := fall, windowClosed := false } } } : State).setRole
        .taken
    else (s.breakFrame .missing).setRole .hunted
  | .hunting, _ => s.setRole .hunted
  | _, _ => s.setRole .passed

/-- A fall settled as no glitch: the sample and the decoder (R144, R152). -/
def State.settleFall (fall : Int) (s : State) : State := (s.sampleLine fall).decodeFall fall

/-- The fall of the reduction in progress settled, if it was not. -/
def State.settleNow (s : State) : State :=
  match s.line.reduction with
  | some r => if r.role = .unsettled then s.settleFall r.fall else s
  | none => s

/-- A new line frame started by a MARK fall (R145, R147). -/
def State.startFrame (fall : Int) (s : State) : State :=
  { s with line := { s.line with
      decoder := .assembling
      assembly := some { symbols := [.mark], markFall := fall, falls := [fall], lastFall := fall, windowClosed := false } } }

/-- The reduction in progress recognised as a MARK (R145, R147): a taken one closes the frame under assembly, and in either
case a new frame starts. -/
def State.recogniseMark (s : State) : State :=
  let s := s.settleNow
  match s.line.reduction with
  | some r =>
    let s := { s with line := { s.line with reduction := some { r with markSeen := true } } }
    match r.role, s.line.assembly with
    | .taken, some a => (s.startFrame r.fall).closeFrame a (a.falls.drop 1)
    | .hunted, _ => s.startFrame r.fall
    | _, _ => s
  | none => s

/-- The MARK recognised, if it was not (R144). -/
def State.markNow (s : State) : State :=
  match s.line.reduction with
  | some r => if r.markSeen then s else s.recogniseMark
  | none => s

/-- The reduction in progress found OVERLONG (R147): the frame its MARK started breaks. -/
def State.overlongNow (s : State) : State :=
  let s := s.markNow
  match s.line.reduction with
  | some r =>
    if r.overSeen then s
    else
      let s := { s with line := { s.line with reduction := some { r with overSeen := true } } }
      match s.line.assembly with
      | some a => if a.markFall = r.fall then s.breakFrame .overlong else s
      | none => s
  | none => s

/-- A SHORT or LONG of a taken line second (R147). -/
def State.takeSymbol (y : Symbol) (s : State) : State :=
  match s.line.assembly with
  | some a =>
    if 61 ≤ a.symbols.length then s.breakFrame .tooLong
    else { s with line := { s.line with assembly := some { a with symbols := a.symbols ++ [y] } } }
  | none => s

/-- A glitch settled at its rise (R144, R146): it breaks the frame when the window has closed meanwhile. -/
def State.settleGlitch (s : State) : State :=
  match s.line.assembly with
  | some a => if a.windowClosed then s.breakFrame .missing else s
  | none => s

/-- A fall as the decoder sees it: taken unless it is IDLE (R143). -/
def State.decoderFall (fall : Int) (s : State) : State :=
  if s.line.decoder = .idle then s
  else { s with line := { s.line with
      reduction := some { fall := fall, role := .unsettled, markSeen := false, overSeen := false } } }

/-- A taken reduction's class at its rise (R147). -/
def State.riseTaken (y : Symbol) (s : State) : State :=
  match s.line.reduction with
  | some r => if r.role = .taken then s.takeSymbol y else s
  | none => s

/-- A rise as the decoder sees it: it ends the reduction in progress, which is then classed (R2, R144, R147). -/
def State.decoderRise (rise : Int) (s : State) : State :=
  match s.line.reduction with
  | some r =>
    let s := match classifyReduction (rise - r.fall) with
             | .glitch => s.settleGlitch
             | .short => s.settleNow.riseTaken .short
             | .long => s.settleNow.riseTaken .long
             | .mark => s.markNow
             | .overlong => s.overlongNow
    { s with line := { s.line with reduction := none } }
  | none => s

/-- The decoder becomes HUNTING when it is IDLE, the standing is not LOADING, the monitor is UP and the filter holds a level
(R143). -/
def State.wakeDecoder (s : State) : State :=
  if s.line.decoder = .idle ∧ s.ctl.standing ≠ .loading ∧ s.timer.monitor = .up ∧ s.key.level.isSome then
    { s with line := { s.line with decoder := .hunting } }
  else s

/-! ## KEY

What the pin carries reaches the edge commands through these functions, which no row of the opcode table stands for
(notes/assumptions/7.md). -/

/-- A command put among the waiting ones at its place in time: before those of its tick and of later ticks. -/
def placeByTick (c : Instr) : List Instr → List Instr
  | [] => [c]
  | d :: rest => if c.now.tick ≤ d.now.tick then c :: d :: rest else d :: placeByTick c rest

/-- What the edge filter counts when KEY has held the level of a run for 20 ticks (R94): the first level, once it has stood them, or an
edge timestamped at the first tick of the run; nothing where the filter holds that level already. -/
def filterEvent (now : Instant) (r : KeyRun) : Option Level → Option Instr
  | none => some (.filterFirstLevel now r.level)
  | some l => if l = r.level then none else some (match r.level with
    | .low => .keyFall r.first
    | .high => .keyRise r.first)

/-- The run of samples after one more (R94): a sample of the other level begins a new run. -/
def KeyRun.next (now : Instant) (level : Level) : Option KeyRun → KeyRun
  | some r => if r.level = level then r else { level := level, first := now }
  | none => { level := level, first := now }

/-- One sample of KEY (R94), of which the part takes one at every tick while the monitor is UP and no loopback stands in place of KEY. A
run that has lasted 20 ticks by now puts what the filter counts among the waiting commands, and a run that ends earlier counts nothing;
then the sample continues the run or begins the next. -/
def State.sampleKey (now : Instant) (level : Level) (s : State) : State :=
  if s.timer.monitor = .up ∧ s.testRunning = false then
    let held := s.key.run.filter (fun r => decide (r.first.tick + Config.filterTicks = now.tick))
    let counted := held.bind (fun r => filterEvent now r s.key.level)
    { s with
      key := { s.key with run := some (KeyRun.next now level s.key.run) }
      pending := counted.elim s.pending (fun c => placeByTick c s.pending) }
  else s

/-! ## Meanings -/

/-- The first level of the filter, which KEY has held for 20 ticks (R94). -/
def State.firstLevelEffect (level : Level) (s : State) : State :=
  ({ s with key := { s.key with level := some level, levelFrom := some (s.tick - Config.filterTicks) } } : State).wakeDecoder

/-- FILTER_FIRST_LEVEL (R94): taken while the monitor is UP, the filter holds no level and no loopback stands in place of
KEY, once the filter has taken samples for 20 ticks. -/
def execFilterFirstLevel (now : Instant) (level : Level) (s : State) : Host.Outcome State Fault Refusal :=
  s.onEvent now (s.timer.monitor == .up && s.key.level.isNone && s.key.filterReady now.tick && !s.testRunning)
    (State.firstLevelEffect level)

/-- A fall on KEY (R94, R123, R144). -/
def State.keyFallEffect (s : State) : State :=
  let s := { s with
    key := s.key.addEdge { tick := s.tick, level := .low }
    ctl := if s.ctl.standing.surveys then { s.ctl with silenceFrom := some s.tick, silence := false } else s.ctl }
  s.decoderFall s.tick

/-- KEY_FALL (R94): an edge only from a filtered high level that has stood for 20 ticks; in a self-test a fall on KEY reaches no unit
(R139). -/
def execKeyFall (now : Instant) (s : State) : Host.Outcome State Fault Refusal :=
  s.onEvent now (s.timer.monitor == .up && s.key.level == some .high && s.key.filterReady now.tick && !s.testRunning)
    State.keyFallEffect

/-- A rise on KEY (R94, R144). -/
def State.keyRiseEffect (s : State) : State :=
  ({ s with key := s.key.addEdge { tick := s.tick, level := .high } } : State).decoderRise s.tick

/-- KEY_RISE (R94): an edge only from a filtered low level that has stood for 20 ticks; in a self-test a rise on KEY reaches no unit
(R139). -/
def execKeyRise (now : Instant) (s : State) : Host.Outcome State Fault Refusal :=
  s.onEvent now (s.timer.monitor == .up && s.key.level == some .low && s.key.filterReady now.tick && !s.testRunning)
    State.keyRiseEffect

/-- FALL_SETTLED (R144): the line still low 60 ms after a fall. -/
def execFallSettled (now : Instant) (s : State) : Host.Outcome State Fault Refusal :=
  s.onEvent now
    (s.timer.monitor == .up &&
      s.line.reduction.any (fun r => r.role == .unsettled && decide (r.fall + Config.glitchBelow = now.tick)))
    State.settleNow

/-- MARK_RECOGNISED (R147): the line still low 360 ms after a fall. -/
def execMarkRecognised (now : Instant) (s : State) : Host.Outcome State Fault Refusal :=
  s.onEvent now
    (s.timer.monitor == .up &&
      s.line.reduction.any (fun r => !r.markSeen && decide (r.fall + Config.markFrom = now.tick)))
    State.recogniseMark

/-- OVERLONG (R147): the line still low 700 ms after a fall. -/
def execOverlong (now : Instant) (s : State) : Host.Outcome State Fault Refusal :=
  s.onEvent now
    (s.timer.monitor == .up &&
      s.line.reduction.any (fun r => !r.overSeen && decide (r.fall + Config.markTo = now.tick)))
    State.overlongNow

/-- Whether a fall inside a spacing window is not yet settled (R146). -/
def State.unsettledFrom (lo : Int) (s : State) : Bool :=
  s.line.reduction.any (fun r => r.role == .unsettled && decide (lo ≤ r.fall))

/-- The close of a spacing window (R146): MISSING, unless a fall inside it is not yet settled. A fall less than 60 ms old that came before
the window opened breaks no frame until it settles, which is not before the close: R146's third part gives MISSING there and its first
part EXTRA_FALL, and the spec does not say which stands. The model breaks with MISSING at the close, and the fall, once settled, is a
hunting fall (notes/assumptions/35.md). -/
def State.spacingEffect (s : State) : State :=
  match s.line.assembly with
  | some a =>
    if s.unsettledFrom (a.lastFall + Config.spacingFrom) then
      { s with line := { s.line with assembly := some { a with windowClosed := true } } }
    else s.breakFrame .missing
  | none => s

/-- SPACING_WINDOW_CLOSE (R146): 1,010 ms after the fall of the last line second taken. -/
def execSpacingWindowClose (now : Instant) (s : State) : Host.Outcome State Fault Refusal :=
  s.onEvent now
    (s.timer.monitor == .up && s.line.decoder == .assembling &&
      s.line.assembly.any (fun a => !a.windowClosed && decide (a.lastFall + Config.spacingTo = now.tick)))
    State.spacingEffect

/-- SILENCE (R123): the silence timer has run 2.5 s of ticks. -/
def execSilence (now : Instant) (s : State) : Host.Outcome State Fault Refusal :=
  s.onEvent now
    (s.timer.monitor == .up && s.ctl.standing.surveys && s.ctl.silenceFrom == some (now.tick - Config.silenceRun))
    (fun s => { s with ctl := { s.ctl with silence := true } })

end Sys2Proof.Machine
end

