-- ==== Sys2Proof/Machine/Reference.lean ====
section
/-!
DEFINITION. The Reference Input Unit (R28 to R43): pulses, records, labels, the reference state machine, and the meanings of
SEC_IN_PULSE, REF_WINDOW_CLOSE, ACQUIRE_TIMEOUT, REFERENCE_RECORD, RECORD_START, RECORD_BYTE_GAP, RECORD_LOW_STOP_BIT and
RECORD_STALE; and what TREC_IN carries.
-/

namespace Sys2Proof.Machine

/-! ## Attribution -/

/-- The timestamp of a pulse that is accepted at a tick: the first tick of its high run (R28). -/
def pulseTime (accepted : Int) : Int := accepted - Config.secHigh

/-- A pulse with the own epoch it is attributed to (R28). -/
structure PulseEpoch where
  /-- The timestamp of the pulse. -/
  tick : Int
  epoch : Int
  /-- 0 for the present second's epoch; absent for the coming one. -/
  since : Option Nat
  /-- How the epoch takes a leap (R40). -/
  leap : LeapStep
  deriving DecidableEq, Repr

/-- The own epoch nearest to a pulse's timestamp, of the present epoch and the coming one; half-way it is the coming one (R28). -/
def State.pulseEpoch (t : Int) (s : State) : Option PulseEpoch :=
  match s.timer.nextEpoch, s.timer.past with
  | some next, p :: _ =>
    if next - t ≤ t - p.epoch then
      some { tick := t, epoch := next, since := none, leap := (s.comingCount.map Prod.snd).getD .plain }
    else some { tick := t, epoch := p.epoch, since := some 0, leap := p.leap }
  | some next, [] => some { tick := t, epoch := next, since := none, leap := (s.comingCount.map Prod.snd).getD .plain }
  | none, _ => none

/-- The count that a record's N hands over for an epoch (R35). -/
def handed (n : Int) (pe : PulseEpoch) : HandedCount :=
  { count := n, origin := .ref, epoch := pe.epoch, since := pe.since }

/-! ## Entering and leaving LOCKED -/

/-- Every streak and run of LOCKED at 0 (R35, R39, R42). -/
def RefUnit.clearLocked (r : RefUnit) : RefUnit :=
  { r with missingStreak := 0, outlierStreak := 0, conflictStreak := 0, unlabelledRun := 0, noneRun := 0 }

/-- The entry into LOCKED (R35). -/
def RefUnit.enterLocked (r : RefUnit) : RefUnit :=
  { r.clearLocked with state := .locked, streak := 0, streakLast := none, acquireFrom := none }

/-- The entry into ACQUIRE from LOCKED, with a streak of 0 (R37); the timeout is counted from there (R34). -/
def RefUnit.lockedToAcquire (t : Int) (r : RefUnit) : RefUnit :=
  { r.clearLocked with state := .acquire, streak := 0, streakLast := none, acquireFrom := some t }

/-- The entry into HOLDOVER from LOCKED, every streak at 0 (R39). -/
def RefUnit.lockedToHoldover (r : RefUnit) : RefUnit :=
  { r.clearLocked with state := .holdover, streak := 0, streakLast := none, acquireFrom := none }

/-- What follows for the class when the reference has left LOCKED (R51): C reached by age raises TIME_AGED. -/
def State.leftLocked (before : TimeClass) (s : State) : State :=
  let s := if before = .a ∧ s.cls = .c then s.raise .timeAged else s
  s.classChanged before

/-- LOCKED left for ACQUIRE (R37). -/
def State.lockedToAcquire (s : State) : State :=
  ({ s with ref := s.ref.lockedToAcquire s.tick } : State).leftLocked s.cls

/-- LOCKED left for HOLDOVER, REF_LOST raised (R39). -/
def State.lockedToHoldover (s : State) : State :=
  (({ s with ref := s.ref.lockedToHoldover } : State).raise .refLost).leftLocked s.cls

/-! ## Leap offers -/

/-- A leap offer of a used pulse (R41): refused when the day is no month end or the instant is not later than the pulse's
N. Other leap kinds make none. -/
def State.leapOffer (r : RefRecord) (s : State) : State :=
  if (r.leapKind = 1 ∨ r.leapKind = 2) ∧ s.timeSet then
    let t := (r.leapDay + 1) * 86400
    if monthEnd r.leapDay ∧ r.n < t then
      s.offer { instant := t, kind := if r.leapKind = 1 then .leapInsert else .leapDelete, newOffset := none,
                source := .ref }
    else s.count Counters.addLeapRefused
  else s

/-- The none-run after a REF sample's record (R42): at 60 a cancellation is handed over. -/
def State.countNone (r : RefRecord) (s : State) : State :=
  if r.leapKind = 0 ∨ r.leapKind = 3 then
    if s.ref.noneRun + 1 = 60 then ({ s with ref := { s.ref with noneRun := 0 } } : State).cancelRefLeaps
    else { s with ref := { s.ref with noneRun := s.ref.noneRun + 1 } }
  else if r.leapKind = 1 ∨ r.leapKind = 2 then { s with ref := { s.ref with noneRun := 0 } }
  else s

/-! ## ACQUIRE -/

/-- A streak begun by a good labelled pulse, in ACQUIRE from here on; the timeout starts again (R32, R33, R34, R43). -/
def State.beginStreak (r : RefRecord) (pe : PulseEpoch) (s : State) : State :=
  { s with ref := { s.ref with state := .acquire, streak := 1, streakLast := some { n := r.n, tick := pe.tick },
                               acquireFrom := some s.tick } }

/-- The streak broken by an unlabelled pulse or one below Q_MIN (R33). -/
def State.breakStreak (s : State) : State := { s with ref := { s.ref with streak := 0, streakLast := none } }

/-- Whether a pulse's N follows the last one's at its epoch (R33, R40). -/
def followsOn (last : StreakPulse) (n : Int) (leap : LeapStep) : Bool :=
  decide (n = last.n + 1) || (leap == .inserted && decide (n = last.n)) || (leap == .deleted && decide (n = last.n + 2))

/-- Whether a pulse's spacing from the last one allows the streak to grow (R33). -/
def spacedOn (last : StreakPulse) (t : Int) : Bool :=
  decide (Config.streakLeast ≤ t - last.tick ∧ t - last.tick ≤ Config.streakMost)

/-- The completion of ACQUIRE (R35, R36, R50, R53): LOCKED, the count for the pulse's epoch with origin REF, and the
completion error as a held step, or both as a pending re-set while ACTIVE. Either replaces a pending re-set held before. -/
def State.completeAcquire (n : Int) (pe : PulseEpoch) (e : Int) (s : State) : State :=
  let before := s.cls
  let s := { s with ref := s.ref.enterLocked }
  let active := s.ctl.standing == .active
  if s.timeSet then
    let difference := match s.ownCountFor (handed n pe) with
                      | some own => n - own
                      | none => 0
    let s := (s.setOrigin .ref).classChanged before
    if active then
      let r : PendingReset :=
        { difference := if difference = 0 then none else some difference
          phase := if (e.natAbs : Int) ≤ s.outlier then none else some e }
      { s with time := { s.time with
          pendingReset := if r.difference = none ∧ r.phase = none then none else some r } }
    else (s.dropPendingReset.holdStep e).applyCountReset difference
  else
    let s := if active then s else s.holdStep e
    (s.handWhileUnset (handed n pe)).1

/-- A good labelled pulse in ACQUIRE (R33, R34, R35, R41). -/
def State.acquirePulse (r : RefRecord) (pe : PulseEpoch) (s : State) : State :=
  match s.ref.streakLast with
  | some last =>
    if followsOn last r.n pe.leap ∧ spacedOn last pe.tick then
      if s.ref.streak + 1 = 4 then
        (s.completeAcquire r.n pe (refError pe.tick pe.epoch r.corrNs)).leapOffer r
      else
        ({ s with ref := { s.ref with streak := s.ref.streak + 1, streakLast := some { n := r.n, tick := pe.tick },
                                      acquireFrom := some s.tick } } : State).leapOffer r
    else
      let s := if followsOn last r.n pe.leap then s else s.count Counters.addCountConflict
      (s.beginStreak r pe).leapOffer r
  | none => (s.beginStreak r pe).leapOffer r

/-! ## LOCKED -/

/-- An outlier (R37 step 2, R38): four in a row return the unit to ACQUIRE. -/
def State.outlierPulse (s : State) : State :=
  let s := s.count Counters.addPulseRejected
  let s := { s with ref := { s.ref with outlierStreak := s.ref.outlierStreak + 1, conflictStreak := 0 } }
  if s.ref.outlierStreak = 4 then s.lockedToAcquire else s

/-- A REF phase sample (R37 step 3, R38): held, the missing/rejected, outlier and conflict streaks at 0. -/
def State.samplePulse (e : Int) (s : State) : State :=
  ({ s with ref := { s.ref with missingStreak := 0, outlierStreak := 0, conflictStreak := 0 } } : State).holdRef e

/-- A count conflict (R37 step 1): three in a row return the unit to ACQUIRE. -/
def State.conflictPulse (s : State) : State :=
  let s := s.count Counters.addCountConflict
  let s := { s with ref := { s.ref with conflictStreak := s.ref.conflictStreak + 1, outlierStreak := 0 } }
  if s.ref.conflictStreak = 3 then s.lockedToAcquire else s

/-- A good labelled pulse in LOCKED (R37, R41, R42, R50): the unlabelled run returns to 0 in every case. -/
def State.lockedGood (r : RefRecord) (pe : PulseEpoch) (s : State) : State :=
  let s := { s with ref := { s.ref with unlabelledRun := 0 } }
  let e := refError pe.tick pe.epoch r.corrNs
  if s.ownCountFor (handed r.n pe) ≠ some r.n then s.conflictPulse
  else if s.outlier < (e.natAbs : Int) then s.outlierPulse
  else
    let s := s.samplePulse e
    let s := { s with time := { s.time with age := s.time.age.map (fun _ => 0) } }
    (s.countNone r).leapOffer r

/-- An unlabelled pulse in LOCKED (R38). A pulse past the tenth is only counted as missing, when its epoch is judged. -/
def State.lockedUnlabelled (pe : PulseEpoch) (s : State) : State :=
  if s.ref.unlabelledRun < 10 then
    let corr := match s.ref.lastLabel with
                | some r => r.corrNs
                | none => 0
    let e := refError pe.tick pe.epoch corr
    let s := { s with ref := { s.ref with unlabelledRun := s.ref.unlabelledRun + 1 } }
    if s.outlier < (e.natAbs : Int) then s.outlierPulse else s.samplePulse e
  else { s with ref := { s.ref with outlierStreak := 0, conflictStreak := 0 } }

/-- A labelled pulse below Q_MIN in LOCKED: no count conflict and no outlier (R37). -/
def State.lockedLow (s : State) : State := { s with ref := { s.ref with outlierStreak := 0, conflictStreak := 0 } }

/-! ## Pulses -/

/-- The label of a pulse (R31). -/
inductive PulseLabel where
  | unlabelled
  | low (r : RefRecord)
  | good (r : RefRecord)
  deriving DecidableEq, Repr

/-- The label a pulse takes at a tick (R31): the waiting record's, from 50 ms to 950 ms after its time. -/
def pulseLabel (qMin : Nat) (t : Int) (waiting : Option WaitingRecord) : PulseLabel :=
  match waiting with
  | some w =>
    if Config.labelFrom ≤ t - w.time ∧ t - w.time ≤ Config.labelTo then
      if qMin ≤ w.record.quality then .good w.record else .low w.record
    else .unlabelled
  | none => .unlabelled

/-- The record of a label. -/
def PulseLabel.record : PulseLabel → Option RefRecord
  | .unlabelled => none
  | .low r => some r
  | .good r => some r

/-- Whether R39 counts the second of a pulse as missing or rejected, by the unlabelled run before the pulse. -/
def PulseLabel.missing (unlabelledRun : Nat) : PulseLabel → Bool
  | .unlabelled => decide (10 ≤ unlabelledRun)
  | .low _ => true
  | .good _ => false

/-- What accepting a pulse records, whatever the state (R28, R31): the pulse itself by its timestamp, its label taken from the
waiting record, and its count. -/
def State.acceptPulse (label : PulseLabel) (t : Int) (s : State) : State :=
  let s := { s with ref := { s.ref with
      prevPulse := some t
      pulses := { tick := t, missing := label.missing s.ref.unlabelledRun } :: s.ref.pulses.take 3
      waiting := if label.record.isSome then none else s.ref.waiting
      lastLabel := if label.record.isSome then label.record else s.ref.lastLabel } }
  match label with
  | .good _ => s.count Counters.addPulseGood
  | .low _ => s.count Counters.addPulseRejected
  | .unlabelled => s

/-- A pulse handled by the rule of the state it arrives in (R32, R33, R37, R38, R43). -/
def State.handlePulse (label : PulseLabel) (pe : PulseEpoch) (s : State) : State :=
  match s.ref.state, label with
  | .noref, .good r => s.beginStreak r pe
  | .noref, .low _ => s
  | .noref, .unlabelled => s
  | .holdover, .good r => s.beginStreak r pe
  | .holdover, .low _ => s
  | .holdover, .unlabelled => s
  | .acquire, .good r => s.acquirePulse r pe
  | .acquire, .low _ => s.breakStreak
  | .acquire, .unlabelled => s.breakStreak
  | .locked, .good r => s.lockedGood r pe
  | .locked, .low _ => s.lockedLow
  | .locked, .unlabelled => s.lockedUnlabelled pe

/-- Whether an edge comes too soon after the previous accepted pulse (R28). -/
def RefUnit.tooSoon (t : Int) (r : RefUnit) : Bool :=
  match r.prevPulse with
  | some p => decide (t - p < Config.pulseSpacing)
  | none => false

/-- The effect of an edge on SEC_IN at the tick at which it is accepted, while the monitor is UP (R28): the label goes by that tick
(R31), the spacing, the attribution and the phase error by the timestamp. -/
def State.secInEffect (s : State) : State :=
  let t := pulseTime s.tick
  if s.ref.tooSoon t then s.count Counters.addPulseRejected
  else
    match s.pulseEpoch t with
    | some pe =>
      let label := pulseLabel s.load.params.site.qMin s.tick s.ref.waiting
      (s.acceptPulse label t).handlePulse label pe
    | none => s

/-- SEC_IN_PULSE (R28): 10 ticks into the high run, taken while the monitor is UP. A high run that began while it was DOWN is a pulse
like any other: the spec does not say what such an edge is (notes/assumptions/7.md). -/
def execSecInPulse (now : Instant) (s : State) : Host.Outcome State Fault Refusal :=
  s.onEvent now (s.timer.monitor == .up) State.secInEffect

/-! ## Windows and timeouts -/

/-- Whether an own epoch's reference window closes at a tick and has not been judged (R39). -/
def windowDue (t : Int) (p : PastSecond) : Bool := decide (p.epoch + Config.halfWindow = t) && !p.refJudged

/-- Whether the second of an epoch counts as missing or rejected (R39). Where two accepted pulses lie in one window, the second
counts when any one of them does: the spec speaks of one pulse (notes/assumptions/13.md). -/
def secondMissing (e : Int) (pulses : List AcceptedPulse) : Bool :=
  let inside := pulses.filter (fun p => decide (e - Config.halfWindow ≤ p.tick ∧ p.tick < e + Config.halfWindow))
  inside.isEmpty || inside.any (fun p => p.missing)

/-- The judgement of the epoch whose window closes (R39): at 3 the unit enters HOLDOVER and REF_LOST is raised. -/
def State.windowEffect (s : State) : State :=
  let e := s.tick - Config.halfWindow
  let s := { s with timer := { s.timer with
      past := s.timer.past.map (fun p => if windowDue s.tick p then { p with refJudged := true } else p) } }
  if secondMissing e s.ref.pulses then
    if s.ref.missingStreak + 1 = 3 then s.lockedToHoldover
    else { s with ref := { s.ref with missingStreak := s.ref.missingStreak + 1 } }
  else s

/-- REF_WINDOW_CLOSE (R39): in LOCKED, at the close of an own epoch's window. -/
def execRefWindowClose (now : Instant) (s : State) : Host.Outcome State Fault Refusal :=
  s.onEvent now
    (s.timer.monitor == .up && s.ref.state == .locked && s.timer.past.any (windowDue now.tick)) State.windowEffect

/-- The end of the ACQUIRE timeout (R34): HOLDOVER when the origin is REF, NOREF otherwise. -/
def State.acquireTimeoutEffect (s : State) : State :=
  { s with ref := { s.ref with
      state := if s.time.origin = some .ref then .holdover else .noref
      streak := 0, streakLast := none, acquireFrom := none } }

/-- ACQUIRE_TIMEOUT (R34): 10 s after the last good labelled pulse. -/
def execAcquireTimeout (now : Instant) (s : State) : Host.Outcome State Fault Refusal :=
  s.onEvent now
    (s.timer.monitor == .up && s.ref.state == .acquire &&
      s.ref.acquireFrom == some (now.tick - Config.acquireTimeout))
    State.acquireTimeoutEffect

/-! ## Records -/

/-- A waiting record dropped as stale (R31). -/
def State.dropWaiting (s : State) : State :=
  ({ s with ref := { s.ref with waiting := none } } : State).count Counters.addRecordBad

/-- The sequence comparison of a record that passed the CRC and type checks (R30). -/
def State.compareSeq (seq : Nat) (s : State) : State :=
  let s := match s.ref.prevSeq with
           | some p => if seq = (p + 1) % 65536 then s else s.count Counters.addRecordGap
           | none => s
  { s with ref := { s.ref with prevSeq := some seq } }

/-- An accepted record (R30, R31): leap kind 3 counts one in LEAP_REFUSED, and a record still waiting is stale. -/
def State.acceptRecord (r : RefRecord) (s : State) : State :=
  let s := if r.leapKind = 3 then s.count Counters.addLeapRefused else s
  let s := if s.ref.waiting.isSome then s.dropWaiting else s
  { s with ref := { s.ref with waiting := some { record := r, time := s.tick } } }

/-- A complete record checked in R30's order; the receiver returns to hunting (R29). -/
def State.recordEffect (bytes : List Byte) (s : State) : State :=
  let s := { s with ref := { s.ref with assembling := false } }
  if crc16 bytes ≠ 0#16 then s.count Counters.addRecordBad
  else if byteAt bytes 1 ≠ 0x01 then s.count Counters.addRecordBad
  else
    let s := s.compareSeq (recordSeq bytes)
    let r := readRecord bytes
    if countInRange r.n then s.acceptRecord r else s.count Counters.addRecordBad

/-- REFERENCE_RECORD (R30): a record complete at its 16th byte, begun by 0xC3 while the monitor is UP. -/
def execReferenceRecord (now : Instant) (bytes : List Byte) (s : State) : Host.Outcome State Fault Refusal :=
  s.onEvent now
    (s.timer.monitor == .up && s.ref.assembling && bytes.length == 16 && bytes.head? == some 0xC3#8)
    (State.recordEffect bytes)

/-- RECORD_START (R29): 0xC3 while hunting; inside a record it is plain data. -/
def execRecordStart (now : Instant) (s : State) : Host.Outcome State Fault Refusal :=
  s.onEvent now (s.timer.monitor == .up && !s.ref.assembling)
    (fun s => { s with ref := { s.ref with assembling := true } })

/-- A partial record abandoned (R29). -/
def State.abandonRecord (s : State) : State :=
  ({ s with ref := { s.ref with assembling := false } } : State).count Counters.addRecordBad

/-- RECORD_BYTE_GAP (R29): more than 5 ms since the stop bit of the last byte. -/
def execRecordByteGap (now : Instant) (lastByteEnd : Int) (s : State) : Host.Outcome State Fault Refusal :=
  s.onEvent now
    (s.timer.monitor == .up && s.ref.assembling && decide (Config.byteGap < now.tick - lastByteEnd))
    State.abandonRecord

/-- RECORD_LOW_STOP_BIT (R29): while hunting the byte is only discarded. -/
def execRecordLowStopBit (now : Instant) (s : State) : Host.Outcome State Fault Refusal :=
  s.onEvent now (s.timer.monitor == .up && s.ref.assembling) State.abandonRecord

/-! ## TREC_IN

What the pin carries reaches the record commands through these functions, which no row of the opcode table stands for
(notes/assumptions/16.md): a byte, a gap or a low stop bit that a command speaks of puts that command at the end of the queue. -/

/-- What the receiver hears on TREC_IN (R29, R184): the fall with which a start bit begins, and then the level of each of the eight data
bits and of the stop bit, the stop bit's at its end. -/
inductive RecordLineEvent where
  | startBit
  | bit (level : Level)
  deriving DecidableEq, Repr

/-- The tick at which bit `i` of a character ends at 19,200 baud, counted from the start bit as bit 0, for a start bit that begins at
`start` (R29). -/
def serialBitEnd (start : Int) (i : Nat) : Int := start + 10000000 * ((i : Int) + 1) / 19200

/-- The byte that eight data bits spell, in order of time: least significant bit first (R184). -/
def serialByte (bits : List Bool) : Byte := BitVec.ofNat 8 (ofBits bits.reverse)

/-- The receiver's line replaced. -/
def State.setRecordLine (l : RecordLine) (s : State) : State := { s with ref := { s.ref with trec := l } }

/-- A command put at the end of the queue. -/
def State.queue (c : Instr) (s : State) : State := { s with pending := s.pending ++ [c] }

/-- A byte received with its stop bit high (R29): 0xC3 begins a record while hunting and any other byte is discarded; inside a record
every byte is appended, and the 16th completes it. -/
def State.recordByte (now : Instant) (b : Byte) (s : State) : State :=
  let record := s.ref.trec.record ++ [b]
  if record.length = 1 ∧ b ≠ 0xC3#8 then s.setRecordLine RecordLine.idle
  else if record.length = 16 then (s.queue (.referenceRecord now record)).setRecordLine RecordLine.idle
  else
    (if record.length = 1 then s.queue (.recordStart now) else s).setRecordLine
      { bits := none, record := record, byteEnd := some now.tick }

/-- A byte received with its stop bit low (R29): discarded, with the partial record abandoned. -/
def State.lowStopBit (now : Instant) (s : State) : State :=
  (if s.ref.trec.record = [] then s else s.queue (.recordLowStopBit now)).setRecordLine RecordLine.idle

/-- A start bit (R29): one that begins more than 5 ms after the last byte's stop bit abandons the partial record, and its byte is
examined as a hunting byte. -/
def State.startBit (now : Instant) (s : State) : State :=
  match s.ref.trec.byteEnd with
  | some e =>
    if Config.byteGap < now.tick - e then (s.queue (.recordByteGap now e)).setRecordLine { RecordLine.idle with bits := some [] }
    else s.setRecordLine { s.ref.trec with bits := some [] }
  | none => s.setRecordLine { s.ref.trec with bits := some [] }

/-- What an event on TREC_IN does while the monitor is UP (R29, R184); while it is DOWN the receiver takes nothing. The fall of a data
bit is no start bit. -/
def State.onRecordLine (now : Instant) (e : RecordLineEvent) (s : State) : State :=
  if s.timer.monitor = .up then
    match e, s.ref.trec.bits with
    | .startBit, none => s.startBit now
    | .startBit, some _ => s
    | .bit _, none => s
    | .bit level, some bits =>
      if bits.length = 8 then
        if level = .high then s.recordByte now (serialByte bits) else s.lowStopBit now
      else s.setRecordLine { s.ref.trec with bits := some (bits ++ [level == .high]) }
  else s

/-- RECORD_STALE (R31): 950 ms after the waiting record's time. -/
def execRecordStale (now : Instant) (s : State) : Host.Outcome State Fault Refusal :=
  s.onEvent now
    (s.timer.monitor == .up && s.ref.waiting.any (fun w => decide (w.time + Config.labelTo = now.tick)))
    State.dropWaiting

end Sys2Proof.Machine
end

