-- ==== Sys2Proof/Machine/Seconds.lean ====
section
/-!
DEFINITION. The turn of a second: the epoch with all that falls due there (R17), the drive instant with the standing changes,
the frame swap and the start of a reduction (R90, R96, R120, R124, R129, R138), and the release of a reduction (R96); the
meanings of EPOCH, DRIVE_INSTANT and REDUCTION_RELEASE.
-/

namespace Sys2Proof.Machine

/-! ## The release -/

/-- The release of a loopback reduction (R139): the filter, which takes the loopback, sees a rise. -/
def State.loopRelease (s : State) : State :=
  let s := { s with ctl := { s.ctl with test := { s.ctl.test with loopLow := false } }
                    key := { s.key with level := some .high } }
  s.decoderRise s.tick

/-- The release of the reduction in progress (R96, R139). -/
def State.releaseNow (s : State) : State := if s.testRunning then s.loopRelease else s.releaseEffect

/-- Whether a reduction is in progress: KEY pulled, or the loopback low in a self-test (R96, R139). -/
def State.reducing (s : State) : Bool := if s.testRunning then s.ctl.test.loopLow else s.keyPulled

/-- REDUCTION_RELEASE (R96): at t0 + D of a reduction in progress. -/
def execReductionRelease (now : Instant) (s : State) : Host.Outcome State Fault Refusal :=
  s.onEvent now (s.timer.monitor == .up && s.reducing && s.releaseDue now.tick) State.releaseNow

/-! ## The epoch -/

/-- The Second Timer's part of an epoch (R17, R23 to R26): the second length and the next epoch and drive instant. -/
def State.timeSecond (s : State) : State :=
  { s with timer := ((s.timer.ageMarkers.fixLength (s.ctl.standing == .active) s.ref.state
      s.load.params.site.lineDiscipline).beginSecond s.keyAdvance s.tick) }

/-- Whether the epoch takes a step (R26), asked before its length is fixed. -/
def State.epochSteps (s : State) : Bool :=
  s.timer.ageMarkers.steps (s.ctl.standing == .active) s.ref.state s.load.params.site.lineDiscipline

/-- The second that begins at the present epoch put in front of the past ones, known by its drive instant (R3). -/
def State.openEpoch (t0 : Int) (s : State) : State :=
  let p : PastSecond := { t0 := t0, epoch := s.tick, count := none, leap := .plain, keyed := s.key.secondKeyed,
                          refJudged := false }
  { s with timer := { s.timer with past := (p :: s.timer.past).take Config.pastSize } }

/-- TIME_AGED at an epoch (R51): the class has gone from B to C as the age grew. -/
def State.ageAlarm (before : TimeClass) (s : State) : State :=
  if before = .b ∧ s.cls = .c then s.raise .timeAged else s

/-- What the Frame Builder does at an epoch, after the count, the re-set and the retirements (R82, R83, R88): a catch-up
build for an applied re-set, otherwise the rebuild of a stale next frame; then the build point. A stale next frame at an epoch that applies
a re-set is discarded without a rebuild, which is not counted: the spec does not order the two (notes/assumptions/33.md). -/
def State.buildAtEpoch (reset : Bool) (s : State) : State :=
  (if reset then s.resetApplied else s.rebuildStale).buildPoint

/-- The drive instant of the second that begins at the present epoch (R3). -/
def State.presentDrive (s : State) : Int := s.timer.nextDrive.getD (s.tick - s.keyAdvance)

/-- The epoch of a second (R17): its length, its count, the pending re-set, the entries that fall due, and the frames. -/
def State.epochEffect (s : State) : State :=
  let before := s.cls
  let stepped := s.epochSteps
  let coming := s.comingCount
  let s := s.timeSecond.openEpoch s.presentDrive
  let s := (s.countAtEpoch coming s.tick).ageAlarm before
  let (s, reset) := s.takePendingReset
  s.entriesAtEpoch.buildAtEpoch (stepped || reset)

/-- EPOCH (R17): L ticks after the last epoch. The drive instant of the second comes first (R3). -/
def execEpoch (now : Instant) (s : State) : Host.Outcome State Fault Refusal :=
  s.onEvent now (s.timer.monitor == .up && s.timer.nextEpoch == some now.tick && s.timer.driveTaken) State.epochEffect

/-! ## The drive instant -/

/-- The index within the current frame of the second that a coming count begins (R91, R183): the count less N0, and 60 when the epoch
begins an inserted second. -/
def State.indexAt (coming : Option (Int × LeapStep)) (s : State) : Option Nat :=
  match s.frames.current, coming with
  | some f, some (n, step) => some (if step = .inserted then 60 else (n - f.n0).toNat)
  | _, _ => none

/-- Whether the swap falls at a drive instant (R90): the coming second lies past the current frame's last index. A catch-up build between
the MARK drive instant of a second and its epoch makes a frame current whose swap has been missed (a load that completes there, or a
re-set or a count applied at once); the spec does not say where that swap falls. The model makes it at the next drive instant, a second
later (notes/assumptions/34.md). -/
def State.swapDue (s : State) : Bool :=
  match s.frames.current, s.comingCount with
  | some f, some (n, step) => step != .inserted && decide (f.n0 + 60 ≤ n)
  | _, _ => false

/-- Whether a coming count begins the current frame's MARK (R90, R183): it is the frame's N0. -/
def State.beginsFrame (coming : Option (Int × LeapStep)) (s : State) : Bool :=
  match s.frames.current, coming with
  | some f, some (n, _) => decide (n = f.n0)
  | _, _ => false

/-- What follows in every exit from ACTIVE: the causes held are taken or dropped, and the Keying Unit's streaks, tallies and
drive-fault run return to 0 (R115, R120). -/
def State.leftActive (s : State) : State :=
  { s with ctl := { s.ctl with pendingWithdraw := false, faultReport := false, yieldDue := none }
           key := s.key.leftActive }

/-- The exit of a yield to its destination, with YIELDED (R131). -/
def State.yieldExit (dest : YieldTo) (s : State) : State :=
  match dest with
  | .deferred => s.enterDeferred.leftActive.raise .yielded
  | .survey => s.enterSurvey.leftActive.raise .yielded

/-- The causes that take a keyer out of ACTIVE at a drive instant, in order (R120): the first row that applies. -/
def State.activeExits (mark : Bool) (s : State) : State :=
  if s.ctl.faultReport then (s.enterQuiet .faultedDrive).leftActive
  else if s.ctl.pendingWithdraw then (s.enterQuiet .standby).leftActive
  else if s.time.rangeEnding then s.enterSurvey.leftActive
  else if mark then
    match s.ctl.yieldDue with
    | some dest => s.yieldExit dest
    | none => if s.time.pendingReset.isSome then s.enterSurvey.leftActive else s
  else s

/-- Whether a keyer in SURVEY or DEFERRED joins at a drive instant: on silence, or by a pending join at a MARK (R124, R129),
with the time SET and the range not marked as ending. -/
def State.joins (mark : Bool) (s : State) : Bool :=
  s.ctl.standing.surveys && s.timeSet && !s.time.rangeEnding && (s.ctl.silence || (mark && s.ctl.pendingJoin))

/-- The standing at a drive instant (R120, R124, R129). -/
def State.standingAtDrive (mark : Bool) (s : State) : State :=
  if s.ctl.standing = .active then s.activeExits mark
  else if s.joins mark then s.enterQuiet .active
  else s

/-- The start of a waiting self-test at a MARK drive instant (R138, R158): the frame that has become current is the test
reference, and the loopback replaces KEY with the filter's level high. -/
def State.startTest (mark : Bool) (s : State) : State :=
  if mark ∧ s.ctl.test.state = .waiting ∧ s.ctl.standing = .standby then
    { s with
      ctl := { s.ctl with test := { s.ctl.test with
        state := .running, reference := s.frames.current, markDrive := some s.tick, closeDrive := none, handed := none
        loopLow := false } }
      key := { s.key with level := some .high }
      line := { s.line with decoder := .hunting, assembly := none, reduction := none, notice := none } }
  else s

/-- The MARK that follows the test frame of a running self-test, at its drive instant (R139, R140). -/
def State.closeTest (mark : Bool) (s : State) : State :=
  if mark ∧ s.testRunning then
    { s with ctl := { s.ctl with test := { s.ctl.test with closeDrive := some s.tick } } }
  else s

/-- A loopback reduction begun (R139): the filter sees a fall. -/
def State.loopPull (s : State) : State :=
  let s := { s with ctl := { s.ctl with test := { s.ctl.test with loopLow := true } }
                    key := { s.key with level := some .low } }
  s.decoderFall s.tick

/-- The symbol of the second that begins at the coming epoch (R91). -/
def State.symbolAt (index : Option Nat) (s : State) : Option Symbol :=
  match s.frames.current, index with
  | some f, some i => f.symbols[i]?
  | _, _ => none

/-- Whether the second that begins is keyed (R96). -/
def State.keysSecond (index : Option Nat) (s : State) : Bool :=
  s.ctl.standing == .active && (s.symbolAt index).isSome

/-- Whether the second that begins is the listen second of the current frame (R96, R104). -/
def State.listensAt (index : Option Nat) (s : State) : Bool := index.isSome && decide (index = s.key.listenIndex)

/-- The second that begins at a drive instant, as it is written into the ring later (R107, R108). Its observation is suspended when a
self-test runs at that instant (R109), for the whole second: R140 resumes observation from the drive instant after a normal end, and for
an aborted test, where the spec is silent, the model does the same (notes/assumptions/23.md). -/
def State.openSecondAt (index : Option Nat) (s : State) : OpenSecond :=
  { t0 := s.tick
    n0 := if index.isSome then s.frames.current.map (fun f => f.n0) else none
    index := index
    action := if s.keysSecond index then (if s.listensAt index then .withheld else .driven) else .notKeying
    intended := s.symbolAt index
    listen := s.keysSecond index && s.listensAt index
    taken := none
    readback := none
    outcome := none
    suspended := s.testRunning }

/-- Whether the second that begins gets an observation record (R107). -/
def State.recordsSecond (s : State) : Bool := s.ctl.standing != .loading && s.ctl.standing != .faultedOsc

/-- The Keying Unit at a drive instant, once the swap and the standing are taken (R96, R97): intended symbol, drive state,
and the second opened. -/
def State.keySecond (mark : Bool) (index : Option Nat) (s : State) : State :=
  let keys := s.keysSecond index
  let drive : DriveState := if keys then (if s.listensAt index then .listening else .pulling) else .released
  { s with
    timer := { s.timer with driveTaken := true }
    key := { s.key with
      intended := s.symbolAt index
      t0 := some s.tick
      drive := drive
      secondKeyed := keys
      keyedMark := if mark then keys else s.key.keyedMark
      opens := if s.recordsSecond then s.key.opens ++ [s.openSecondAt index] else s.key.opens } }

/-- The swap, where it falls at a drive instant (R90). -/
def State.swapIf (swap : Bool) (s : State) : State := if swap then s.frameSwap else s

/-- A loopback reduction for the second that begins while a self-test runs (R139): none follows the MARK after the test frame. -/
def State.loopSecond (s : State) : State := if s.loopKeyed ∧ s.key.intended.isSome then s.loopPull else s

/-- A drive instant (R90, R96, R120, R124, R129, R138, R139): the swap, the standing, a self-test's start and its last MARK, and the
keying of the second by its index in the frame that is then current (R91). It is a MARK drive instant when the second is the incoming
frame's second 0, which it is not where the swap comes a second late (notes/assumptions/34.md). -/
def State.driveEffect (s : State) : State :=
  let coming := s.comingCount
  let swap := s.swapDue
  let s := s.swapIf swap
  let mark := swap && s.beginsFrame coming
  let index := s.indexAt coming
  let s := ((s.standingAtDrive mark).closeTest mark).startTest mark
  (s.keySecond mark index).loopSecond

/-- DRIVE_INSTANT (R96): KEY_ADVANCE before the next epoch, once. -/
def execDriveInstant (now : Instant) (s : State) : Host.Outcome State Fault Refusal :=
  s.onEvent now (s.timer.monitor == .up && s.timer.nextDrive == some now.tick && !s.timer.driveTaken) State.driveEffect

end Sys2Proof.Machine
end

