-- ==== Sys2Proof/Machine/Oscillator.lean ====
section
/-!
DEFINITION. The oscillator monitor (R18, R19, R20): the meanings of OSC_MONITOR_UP, OSCILLATOR_LOSS and OSC_GAP_WHILE_DOWN.
-/

namespace Sys2Proof.Machine

/-! ## UP -/

/-- The first epoch of a series (R18, R20, R25): its length is the flywheel's, and its second is the first own second. -/
def State.firstEpoch (s : State) : State :=
  ({ s with timer := { s.timer with monitor := .up } } : State).timeSecond.openEpoch (s.tick - s.keyAdvance)

/-- The standing at the first epoch (R20, R119, R121, R123): FAULTED(OSC) becomes SURVEY, or LOADING while the load goes on; in
SURVEY the silence timer runs from here, since it has not advanced before. -/
def State.standingAtUp (s : State) : State :=
  if s.ctl.standing = .faultedOsc then
    if s.loaded then s.enterSurvey else s.enterQuiet .loading
  else if s.ctl.standing.surveys then
    { s with ctl := { s.ctl with silenceFrom := some s.tick, silence := false } }
  else s

/-- The monitor going UP (R18, R20): the edge filter takes samples from here on, with no level (R94). -/
def State.monitorUpEffect (s : State) : State := s.firstEpoch.standingAtUp.startFilter

/-- OSC_MONITOR_UP (R18): a run of 10,000,000 ticks complete, out of reset. -/
def execOscMonitorUp (now : Instant) (s : State) : Host.Outcome State Fault Refusal :=
  s.onEvent now
    (s.load.phase != .held && s.timer.monitor == .down && decide (s.timer.runFrom + Config.stableRun = now.tick))
    State.monitorUpEffect

/-! ## Loss -/

/-- The Keying Unit at an oscillator loss (R19, R94, R116): the ring and the last verdict are kept. -/
def Keying.lost (k : Keying) : Keying := { Keying.reset with ring := k.ring, lastVerdict := k.lastVerdict }

/-- The Line Reader at an oscillator loss (R143, R154, R156): the last decoded frame and the last break reason are kept. -/
def LineReader.lost (l : LineReader) : LineReader := { LineReader.reset with last := l.last, lastBreak := l.lastBreak }

/-- The Standing Controller at an oscillator loss (R121, R122): the last comparison and the self-test, which has been
aborted, are kept. -/
def Controller.lost (c : Controller) : Controller :=
  { Controller.reset with standing := .faultedOsc, lastComparison := c.lastComparison, test := c.test }

/-- An oscillator loss (R19): OSC_LOST is raised with the N held at the loss (R177). -/
def State.lossEffect (s : State) : State :=
  let s := s.abortTest.raise .oscLost
  { s with
    timer := s.timer.lost s.tick
    ref := RefUnit.reset
    time := s.time.unset
    schedule := []
    frames := { FrameBuilder.reset with rebuilds := s.frames.rebuilds }
    key := s.key.lost
    line := s.line.lost
    ctl := s.ctl.lost }

/-- OSCILLATOR_LOSS (R18): 10 monitor periods without an edge while UP. -/
def execOscillatorLoss (now : Instant) (s : State) : Host.Outcome State Fault Refusal :=
  s.onEvent now (s.timer.monitor == .up) State.lossEffect

/-- OSC_GAP_WHILE_DOWN (R18): the run starts again from the next edge; out of reset. -/
def execOscGapWhileDown (now : Instant) (s : State) : Host.Outcome State Fault Refusal :=
  s.onEvent now (s.load.phase != .held && s.timer.monitor == .down)
    (fun s => { s with timer := { s.timer with runFrom := s.tick } })

end Sys2Proof.Machine
end

