-- ==== Sys2Proof/Machine/ConfigLoader.lean ====
section
/-!
DEFINITION. Reset and the Configuration Loader (R160 to R171): the meanings of RESET, RESET_END, SETTLING_END,
IMAGE_HEADER_CHECK, IMAGE_READ_END and LOAD_COMPLETION, and the bits the loader shifts out.
-/

namespace Sys2Proof.Machine

/-! ## Reset -/

/-- The state a reset leaves (R122, R160): every block in its reset state, the two clocks running on. The external registers keep
the words they last latched; a repetition in progress is not latched (R180). -/
def State.afterReset (s : State) : State :=
  { State.reset with
    tick := s.tick
    clk := s.clk
    timer := { Timer.reset with runFrom := s.tick }
    maint := { Maintenance.reset with latched := s.maint.registers s.clk }
    pending := s.pending }

/-- RESET (R160): power-on or RESET_N low, at any time. -/
def execReset (now : Instant) (s : State) : Host.Outcome State Fault Refusal := s.onEvent now true State.afterReset

/-- The slot that two straps give (R160). -/
def slotOf (slot1 slot0 : Bool) : Nat := 2 * slot1.toNat + slot0.toNat

/-- The end of reset (R160): the slot sampled, SETTLING entered, and the oscillator run counted from here (R18). -/
def State.resetEndEffect (slot1 slot0 : Bool) (s : State) : State :=
  { s with
    timer := { s.timer with runFrom := s.tick }
    load := { s.load with phase := .settling, slot := slotOf slot1 slot0, resetEndClk := s.clk } }

/-- RESET_END (R160): while reset is held. -/
def execResetEnd (now : Instant) (slot1 slot0 : Bool) (s : State) : Host.Outcome State Fault Refusal :=
  s.onEvent now (s.load.phase == .held) (State.resetEndEffect slot1 slot0)

/-! ## The read -/

/-- The internal clock at which MEM_CS goes low (R160). -/
def Loader.readStart (l : Loader) : Nat := l.resetEndClk + Config.settling

/-- The internal clock at which `k` bytes of the image have been read (R161). -/
def Loader.bytesRead (l : Loader) (k : Nat) : Nat := l.readStart + (Config.readHeadBits + 8 * k) * Config.memClock

/-- The 24 bits shifted out on MEM_DO (R161): the read instruction 0x03 and the address 0x0000, most significant first. -/
def readInstructionBits : List Bool := (List.range 24).map (fun i => Nat.testBit 0x030000 (23 - i))

/-- The output pins of the memory interface (R160, R161). -/
structure MemPins where
  cs : Level
  clock : Level
  dataOut : Level
  deriving DecidableEq, Repr

/-- A level by a bit. -/
def levelOf (b : Bool) : Level := if b then .high else .low

/-- The memory interface at a reading of the internal clock (R160, R161). In READING each bit takes one period of MEM_CLK: MEM_DO
changes as MEM_CLK falls, at the start of the period, and MEM_CLK rises within it; MEM_DO carries the read instruction and the address,
and is low while image bits are read. At all other times MEM_CS is high, and MEM_CLK and MEM_DO are low. -/
def Loader.memPins (clk : Nat) (l : Loader) : MemPins :=
  if l.phase = .reading then
    let past := clk - l.readStart
    { cs := l.memCs
      clock := levelOf (Config.memClockLow ≤ past % Config.memClock)
      dataOut := levelOf (readInstructionBits.getD (past / Config.memClock) false) }
  else { cs := l.memCs, clock := .low, dataOut := .low }

/-- The internal clock at the rise of MEM_CLK that samples image bit `i` on MEM_DI, counted from 0 (R161). -/
def Loader.bitSampled (l : Loader) (i : Nat) : Nat :=
  l.readStart + (Config.readHeadBits + i) * Config.memClock + Config.memClockLow

/-- The image bytes that the bits sampled on MEM_DI spell, most significant bit first, one byte after another (R161). Bits that do not
fill a byte spell none. -/
def imageBytes : List Bool → List Byte
  | b7 :: b6 :: b5 :: b4 :: b3 :: b2 :: b1 :: b0 :: rest =>
    BitVec.ofNat 8 (ofBits [b7, b6, b5, b4, b3, b2, b1, b0]) :: imageBytes rest
  | _ => []

/-- SETTLING_END (R160, R161): 300 ms after the end of reset; MEM_CS goes low. -/
def execSettlingEnd (now : Instant) (s : State) : Host.Outcome State Fault Refusal :=
  s.onEvent now (s.load.phase == .settling && now.clk == s.load.readStart)
    (fun s => { s with load := { s.load with phase := .reading, memCs := .low } })

/-- How the header tests stand on the bytes that have arrived (R162). -/
inductive HeaderTest where
  /-- The bytes do not end a test, or an earlier test had already failed. -/
  | undecided
  /-- The last of the bytes fail a test, with the result given. -/
  | failed (r : LoadResult)
  /-- The header passes, with the image length found in it. -/
  | passed (length : Nat)
  deriving DecidableEq, Repr

/-- The header tests in order, on the bytes by the test that ends them (R162). -/
def headerTest (header : List Byte) : HeaderTest :=
  if byteAt header 0 ≠ 0x5C ∨ byteAt header 1 ≠ 0x3E then
    if header.length = 2 then .failed .signature else .undecided
  else if beNat header 2 2 < 16 ∨ 4096 < beNat header 2 2 then
    if header.length = 4 then .failed .length else .undecided
  else if header.length = 5 then
    if byteAt header 4 = 1 then .passed (beNat header 2 2) else .failed .format
  else .undecided

/-- The end of the memory transaction (R161): MEM_CS high, completion 1 ms later. -/
def State.endRead (phase : LoadPhase) (result : LoadResult) (staging : Staging) (clamp : Bool) (s : State) : State :=
  { s with load := { s.load with
      phase := phase, result := some result, staging := staging, clamp := clamp, memCs := .high
      doneClk := some (s.clk + Config.completionDelay) } }

/-- A load that fails (R162, R163, R165): no field of any record is kept. The clamp flag stands until completion clears it
(R167). -/
def State.failLoad (result : LoadResult) (clamp : Bool) (s : State) : State :=
  s.endRead .ending result Staging.empty clamp

/-- The header tests on the bytes that have arrived (R162). -/
def State.headerEffect (header : List Byte) (s : State) : State :=
  match headerTest header with
  | .undecided => s
  | .failed r => s.failLoad r s.load.clamp
  | .passed length => { s with load := { s.load with buffer := header, imageLength := length } }

/-- IMAGE_HEADER_CHECK (R162): at the last bit of the bytes tested. -/
def execImageHeaderCheck (now : Instant) (header : List Byte) (s : State) : Host.Outcome State Fault Refusal :=
  s.onEvent now
    (s.load.phase == .reading && s.load.imageLength == 0 && now.clk == s.load.bytesRead header.length)
    (State.headerEffect header)

/-- The CRC test and the walk of a whole image (R163, R164, R165). -/
def State.walkEffect (image : List Byte) (s : State) : State :=
  if crc16 image ≠ 0#16 then s.failLoad .crc s.load.clamp
  else
    let w := walkImage image
    if w.result = .ok then s.endRead .walking .ok w.walked.staging w.walked.clamp else s.failLoad w.result w.walked.clamp

/-- The last byte of the image read (R163). -/
def State.readEndEffect (rest : List Byte) (s : State) : State :=
  let image := s.load.buffer ++ rest
  ({ s with load := { s.load with buffer := image } } : State).walkEffect image

/-- IMAGE_READ_END (R163): at the last bit of the image. -/
def execImageReadEnd (now : Instant) (rest : List Byte) (s : State) : Host.Outcome State Fault Refusal :=
  s.onEvent now
    (s.load.phase == .reading && s.load.imageLength != 0 && s.load.buffer.length + rest.length == s.load.imageLength &&
      now.clk == s.load.bytesRead s.load.imageLength)
    (State.readEndEffect rest)

/-! ## Completion -/

/-- The parameter set, its source and the clamp flag a load ends with (R167, R170 step 1). -/
def Loader.complete (l : Loader) : Loader :=
  if l.result = some .ok then
    { l with phase := .done, params := l.staging.params, source := some .image }
  else
    { l with phase := .done, params := Params.defaults, source := some .defaults, clamp := false }

/-- The coming drive instant by the KEY_ADVANCE in force (R3, R170): unchanged when that tick has passed or the drive
instant has been taken. -/
def State.redrive (s : State) : State :=
  match s.timer.nextEpoch with
  | some e =>
    if s.tick ≤ e - s.keyAdvance ∧ s.timer.driveTaken = false then
      { s with timer := { s.timer with nextDrive := some (e - s.keyAdvance) } }
    else s
  | none => s

/-- Steps 1 and 2 of R170: the parameter set in every block, and F from TRIM. -/
def State.takeParams (s : State) : State :=
  let s := { s with load := s.load.complete }
  ({ s with timer := { s.timer with f := s.load.params.trim.getD s.timer.f } } : State).redrive

/-- Step 3 of R170: the current offset, and with the time SET the rules and a catch-up build. -/
def State.offsetAtLoad (s : State) : State :=
  match s.time.n with
  | some n =>
    (({ s with time := { s.time with offset := offsetFromRules s.load.params n } } : State).expandRules).catchUpNow
  | none => { s with time := { s.time with offset := s.load.params.standardOffset } }

/-- Step 4 of R170: CONFIG_DEFAULTS or CONFIG_CLAMPED. -/
def State.raiseConfig (s : State) : State :=
  if s.load.source = some .defaults then s.raise .configDefaults
  else if s.load.clamp then s.raise .configClamped
  else s

/-- Step 5 of R170: SURVEY, unless the standing is FAULTED(OSC). -/
def State.surveyAtLoad (s : State) : State :=
  if s.ctl.standing = .loading then s.enterSurvey.wakeDecoder else s

/-- ALERT_N judged by ALERT_COUNT and ALERT_DELAY (R179). -/
def State.judgeAlert (s : State) : State :=
  let due := decide (s.load.params.alert.count ≤ s.maint.raisings) ||
    s.maint.alertFrom.any (fun t => decide (s.load.params.alert.delay * Config.clockSecond ≤ s.clk - t))
  { s with maint := { s.maint with alertN := s.maint.alertN || due } }

/-- Step 6 of R170: the port acknowledges from here on, the status stream begins, and ALERT_N is judged. -/
def State.serveAtLoad (s : State) : State :=
  ({ s with maint := { s.maint with nextRepetition := some s.clk } } : State).judgeAlert

/-- The completion of a load (R170), its steps in order. -/
def State.completeEffect (s : State) : State :=
  s.takeParams.offsetAtLoad.raiseConfig.surveyAtLoad.serveAtLoad

/-- Whether a load waits to complete. -/
def LoadPhase.closing : LoadPhase → Bool
  | .walking => true
  | .ending => true
  | _ => false

/-- LOAD_COMPLETION (R161, R170): 1 ms after MEM_CS goes high. -/
def execLoadCompletion (now : Instant) (s : State) : Host.Outcome State Fault Refusal :=
  s.onEvent now (s.load.phase.closing && s.load.doneClk == some now.clk) State.completeEffect

end Sys2Proof.Machine
end

