-- ==== Sys2Proof/Machine/Items.lean ====
section
/-!
DEFINITION. The seven items of the maintenance port (R173) with their layouts (R187): saturation, absent markers and relative
fields.
-/

namespace Sys2Proof.Machine

/-! ## Conventions -/

/-- A number limited to a field's reach (R187). -/
def reach (v lo hi : Int) : Int := clampInt v lo hi

/-- An optional count as 4 bytes, 0xFFFFFFFF while absent. -/
def countField (n : Option Int) : Int := n.getD 0xFFFFFFFF

/-- The minutes of a frame start before the current frame, 0 to 14; 15 for more, or absent (R187). -/
def minutesBefore (current : Option Int) (n0 : Option Int) : Int :=
  match current, n0 with
  | some c, some n => reach ((c - n) / 60) 0 15
  | _, _ => 15

/-- The minutes of a frame start after the current frame, ±15; −16 absent (R187). -/
def minutesAfter (current : Option Int) (n0 : Option Int) : Int :=
  match current, n0 with
  | some c, some n => reach ((n - c) / 60) (-15) 15
  | _, _ => -16

/-! ## Codes -/

/-- The class field. -/
def TimeClass.code : TimeClass → Int
  | .a => 0
  | .b => 1
  | .c => 2
  | .u => 3

/-- The phase source field. -/
def PhaseSource.code : PhaseSource → Int
  | .noSource => 0
  | .ref => 1
  | .line => 2

/-- The origin field. -/
def originCode : Option Origin → Int
  | none => 0
  | some .ref => 1
  | some .line => 2

/-- The reference state field. -/
def RefState.code : RefState → Int
  | .noref => 0
  | .acquire => 1
  | .locked => 2
  | .holdover => 3

/-- The load result field. -/
def loadResultCode : Option LoadResult → Int
  | none => 0
  | some .ok => 0
  | some .signature => 1
  | some .length => 2
  | some .format => 3
  | some .crc => 4
  | some .chain => 5
  | some .shortRecord => 6
  | some .tooManyRecords => 7

/-- The drive state field. -/
def DriveState.code : DriveState → Int
  | .released => 0
  | .pulling => 1
  | .listening => 2
  | .rescuing => 3

/-- A symbol field: 0 for none, or for an empty slot. -/
def symbolCode : Option Symbol → Int
  | none => 0
  | some .short => 1
  | some .long => 2
  | some .mark => 3

/-- The last verdict field. -/
def verdictCode : Option FrameVerdict → Int
  | none => 0
  | some v =>
    match v.verdict with
    | .quiet => 1
    | .disturbed => 2
    | .conflict => 3

/-- The standing and survey phase field; LOADING, in which no item can be selected, has no code. -/
def Standing.code : Standing → Int
  | .loading => 0
  | .survey .watching => 1
  | .survey .adopting => 2
  | .survey .confirming => 3
  | .active => 4
  | .deferred => 5
  | .standby => 6
  | .faultedDrive => 7
  | .faultedOsc => 8

/-- The last command result field. -/
def commandResultCode : Option CommandResult → Int
  | none => 0
  | some .accepted => 1
  | some .ignored => 2
  | some .unknown => 3

/-- The self-test field. -/
def SelfTest.code (t : SelfTest) : Int :=
  match t.state with
  | .waiting => 5
  | .running => 6
  | .idle =>
    match t.result with
    | .noResult => 0
    | .pass => 1
    | .fail => 2
    | .noTime => 3
    | .aborted => 4

/-- The last comparison result field and the difference field. -/
def comparisonCode : Option LastComparison → Int × Int
  | none => (0, 0)
  | some c =>
    match c.result with
    | .agree => (1, 0)
    | .noFrame => (2, 0)
    | .length => (3, 0)
    | .symbol i => (4, i)
    | .markOffset us => (5, reach us (-4095) 4095)

/-- The last break reason field. -/
def breakCode : Option BreakReason → Int
  | none => 0
  | some .missing => 1
  | some .extraFall => 2
  | some .tooLong => 3
  | some .overlong => 4
  | some .length => 5
  | some .parity => 6
  | some .range => 7
  | some .weekday => 8
  | some .leapMinute => 9

/-- A frame length field: 0 for no frame. -/
def lengthCode (length : Nat) : Int := if length = 59 then 1 else if length = 60 then 2 else if length = 61 then 3 else 0

/-- The outlier or count-conflict streak field. -/
def streakCode (outlier conflict : Nat) : Int :=
  if 0 < outlier then reach outlier 1 3 else if 0 < conflict then reach (conflict + 3 : Nat) 4 5 else 0

/-- The decoder field: the index the frame under assembly has reached, IDLE or HUNTING. -/
def LineReader.decoderCode (l : LineReader) : Int :=
  match l.decoder, l.assembly with
  | .assembling, some a => reach ((a.symbols.length : Int) - 1) 0 60
  | .idle, _ => 61
  | _, _ => 62

/-- The own action field. -/
def Action.code : Action → Int
  | .driven => 0
  | .withheld => 1
  | .rescued => 2
  | .notKeying => 3

/-- The outcome field. -/
def SecondOutcome.code : SecondOutcome → Int
  | .stuck => 1
  | .driveFault => 2
  | .excessSymbol => 3
  | .early => 4
  | .lateLong => 5
  | .clean => 6
  | .peerMatch => 7
  | .peerMismatch => 8
  | .peerOffset => 9
  | .peerAbsent => 10
  | .observed => 11
  | .silent => 12

/-- The line symbol field. -/
def LineSymbol.code : LineSymbol → Int
  | .noSymbol => 0
  | .short => 1
  | .long => 2
  | .mark => 3
  | .overlong => 4

/-- The kind field of a schedule slot. -/
def EntryKind.slotCode : EntryKind → Int
  | .leapInsert => 0
  | .leapDelete => 1
  | .offset => 2

/-- The source field of a schedule slot. -/
def Source.code : Source → Int
  | .ref => 0
  | .rule => 1
  | .line => 2

/-! ## STATUS -/

/-- The start of the current frame. -/
def State.currentN0 (s : State) : Option Int := s.frames.current.map (fun f => f.n0)

/-- STATUS bytes 0 to 15: count, latch, F, age, phase source, last phase error and offset. -/
def State.statusTime (s : State) : List (Nat × Int) :=
  [(32, countField s.time.n),
   (32, match s.frames.latch with
        | some w => (w.toNat : Int)
        | none => 0xFFFFFFFF),
   (24, s.timer.f),
   (16, match s.time.age with
        | some age => reach age 0 65534
        | none => 0xFFFF),
   (2, s.timer.source.code),
   (14, match s.timer.lastError with
        | some e => reach e (-8191) 8191
        | none => -8192),
   (8, s.time.offset)]

/-- STATUS bytes 16 to 18: origin, pending re-set, class, reference, streaks and load. -/
def State.statusReference (s : State) : List (Nat × Int) :=
  [(2, originCode s.time.origin), (1, bit s.time.leap60),
   (1, bit (s.time.pendingReset.any (fun r => r.difference.isSome))),
   (1, bit (s.time.pendingReset.any (fun r => r.phase.isSome))),
   (2, s.cls.code), (1, bit s.maint.alertN),
   (2, s.ref.state.code), (2, reach s.ref.streak 0 3), (2, reach s.ref.missingStreak 0 2), (2, s.load.slot),
   (3, streakCode s.ref.outlierStreak s.ref.conflictStreak), (3, loadResultCode s.load.result), (1, bit s.load.clamp),
   (1, bit s.ctl.silence)]

/-- Whether the current frame starts one minute after the minute of N. -/
def State.frameAhead (s : State) : Bool :=
  match s.frames.current, s.time.n with
  | some f, some n => decide (f.n0 = n - n % 60 + 60)
  | _, _ => false

/-- STATUS bytes 19 to 23: frames, rebuilds, drive state, streaks and verdict. While no current frame is held, segment index,
class at build and kind of build read 0, for which the table gives no marker (notes/assumptions/26.md). -/
def State.statusFrames (s : State) : List (Nat × Int) :=
  (match s.frames.current with
   | some f => [(2, lengthCode f.symbols.length), (2, (f.segment : Int)), (2, f.classAtBuild.code),
                (1, bit (f.kind == .catchUp))]
   | none => [(2, 0), (2, 0), (2, 0), (1, 0)]) ++
  [(1, bit s.frameAhead),
   (1, bit s.frames.next.isSome), (1, bit (s.frames.next.any (fun f => f.stale))),
   (6, match s.key.listenIndex with
       | some i => (i : Int)
       | none => 63),
   (8, reach s.frames.rebuilds 0 255),
   (2, s.key.drive.code), (2, symbolCode s.key.intended), (2, reach s.key.faultRun 0 2),
   (2, reach s.key.timingStreak 0 2),
   (4, reach s.key.conflictStreak 0 15), (2, verdictCode s.key.lastVerdict), (1, bit s.line.candidate.isSome),
   (1, bit s.ctl.faultReport)]

/-- STATUS bytes 24 to 31: standing, comparison, self-test, decoder, last command and raisings. -/
def State.statusStanding (s : State) : List (Nat × Int) :=
  [(4, s.ctl.standing.code), (1, bit s.ctl.pendingJoin), (1, bit s.ctl.pendingWithdraw),
   (2, commandResultCode s.maint.lastResult),
   (4, minutesBefore s.currentN0 (s.key.lastVerdict.map (fun v => v.n0))), (4, minutesBefore s.currentN0 s.ctl.floor),
   (5, minutesAfter s.currentN0 (s.ctl.lastComparison.map (fun c => c.n0))), (3, s.ctl.test.code),
   (3, (comparisonCode s.ctl.lastComparison).1), (13, (comparisonCode s.ctl.lastComparison).2),
   (6, s.line.decoderCode),
   (2, match s.line.notice with
       | some a => reach a.segments.length 0 3
       | none => 0),
   (8, match s.maint.lastCommand with
       | some c => (c.toNat : Int)
       | none => 0),
   (4, breakCode s.line.lastBreak), (4, reach s.maint.raisings 0 15)]

/-- The STATUS item (R187). -/
def State.statusItem (s : State) : List Byte :=
  packBytes 16 s.statusTime ++ packBytes 3 s.statusReference ++ packBytes 5 s.statusFrames ++
    packBytes 8 s.statusStanding

/-! ## COUNTERS -/

/-- The fifteen counters in their order (R187). -/
def Counters.values (c : Counters) : List Nat :=
  [c.pulsesGood, c.framesKeyed, c.lineFramesGood, c.pulsesRejected, c.recordsBad, c.recordGaps, c.countConflicts,
   c.rescues, c.earlySeconds, c.longSeconds, c.excessSeconds, c.listenMismatches, c.lineFramesBad, c.schedDrops,
   c.leapRefused]

/-- The COUNTERS item (R187). -/
def Counters.item (c : Counters) : List Byte := (c.values ++ [0]).flatMap (beBytes 2)

/-! ## SCHEDULE -/

/-- A filled slot of the SCHEDULE item (R187). -/
def Entry.slot (e : Entry) : List Byte :=
  packBytes 8 [(32, e.instant), (1, 1), (2, e.kind.slotCode), (2, e.source.code), (1, bit e.committed), (2, 0),
    (8, e.newOffset.getD 0), (16, 0)]

/-- The SCHEDULE item (R79, R187): eight slots, filled ones first. -/
def scheduleItem (entries : List Entry) : List Byte :=
  ((entries.flatMap Entry.slot) ++ List.replicate 64 0#8).take 64

/-! ## OBSERVATIONS -/

/-- An offset field of a record: signed µs, 0x800000 absent (R187). -/
def offsetField : Option Int → Int
  | some us => reach us (-8388607) 8388607
  | none => -8388608

/-- A record of the OBSERVATIONS item (R187). -/
def ObsRecord.slot (r : ObsRecord) : List Byte :=
  packBytes 12 [(32, countField r.n0), (2, r.action.code),
    (6, match r.index with
        | some i => (i : Int)
        | none => 63),
    (4, r.outcome.code), (3, r.symbol.code), (1, 0), (24, offsetField r.fallOffset), (24, offsetField r.riseOffset)]

/-- A page of the OBSERVATIONS item (R110, R187): page 0 holds the eight newest records, newest first. -/
def observationsItem (ring : List ObsRecord) (page : Nat) : List Byte :=
  (((ring.reverse.drop (8 * page)).take 8).flatMap ObsRecord.slot ++ List.replicate 96 0#8).take 96

/-! ## CURRENT FRAME -/

/-- The CURRENT FRAME item (R93, R187): 61 symbol slots of two bits, empty beyond the frame's length. -/
def currentFrameItem (current : Option Frame) : List Byte :=
  packBytes 16 ((List.range 64).map (fun i => (2, symbolCode (current.bind (fun f => f.symbols[i]?)))))

/-! ## LINE FRAME -/

/-- The LINE FRAME item (R159, R187): zeros while no frame has been decoded. The MARK fall saturates in both its fields. -/
def lineFrameItem : Option LineFrame → List Byte
  | none => List.replicate 20 0#8
  | some f =>
    packBytes 20 [(32, f.n0), (2, lengthCode f.symbols.length), (1, bit f.mixed), (4, (fieldAt f.symbols 1 4 : Nat)),
      (1, 0), (8, (lineMinute f.symbols : Nat)), (8, (lineHour f.symbols : Nat)), (16, (lineDay f.symbols : Nat)),
      (8, (lineYear f.symbols : Nat)), (8, (lineWeekday f.symbols : Nat)), (8, lineOffset f.symbols),
      (8, (lineSegment f.symbols : Nat)), (8, (lineSegmentIndex f.symbols : Nat)), 
      (24, reach (microseconds f.markTicks) (-8388608) 8388607), (24, reach f.markTicks (-8388608) 8388607)]

/-! ## ALARMS -/

/-- The alarm kinds in their fixed order (R177). -/
def AlarmKind.all : List AlarmKind :=
  [.refLost, .timeAged, .conflict, .yielded, .peerTiming, .lineStuck, .driveFault, .oscLost, .schedFull, .configDefaults,
   .configClamped]

/-- The minute of a first N as 3 bytes, 0xFFFFFF when absent (R187). -/
def firstMinute : Option Int → Int
  | some n => n / 60 % 16777215
  | none => 0xFFFFFF

/-- The slot of an alarm kind: zeros when no entry is held (R187). -/
def alarmSlot (alarms : List AlarmEntry) (k : AlarmKind) : List Byte :=
  match alarms.find? (fun e => e.kind == k) with
  | some e => packBytes 4 [(8, (e.count : Nat)), (24, firstMinute e.firstN)]
  | none => List.replicate 4 0#8

/-- The ALARMS item (R177, R187). -/
def alarmsItem (alarms : List AlarmEntry) : List Byte := AlarmKind.all.flatMap (alarmSlot alarms)

end Sys2Proof.Machine
end

