-- ==== Sys2Proof/WellFormed.lean ====
section
/-!
DEFINITION. Which commands can be sent at all: the checks on a command's own operands that need no state.
-/

namespace Sys2Proof

/-- The codes of the item table (R173). -/
def itemCodes : List Nat := [0x01, 0x02, 0x03, 0x04, 0x05, 0x06, 0x07]

/-- The codes of the command table (R174). -/
def commandCodes : List Nat := [0x81, 0x82, 0x83, 0x84]

/-- A code that is unknown, alone or (0x04, OBSERVATIONS) with a page above 7 (R174). -/
def unknownCodeOk (code : Byte) : Bool :=
  code.toNat == 0x04 || !(itemCodes ++ commandCodes).contains code.toNat

/-- The operands are ones the part's pins can carry: no clock reads below zero; a complete record has 16 bytes and
begins with 0xC3 (R29, R184); a header check has the 2, 4 or 5 bytes of the test that ends it (R162); the last byte
before a gap ended before the gap was seen (R29); an unknown code is in neither table (R174). -/
def Instr.wf (i : Instr) : Bool :=
  decide (0 ≤ i.now.tick) &&
    match i with
    | .imageHeaderCheck _ header => [2, 4, 5].contains header.length
    | .referenceRecord _ bytes => bytes.length == 16 && bytes.head? == some 0xC3#8
    | .recordByteGap now lastByteEnd => decide (0 ≤ lastByteEnd ∧ lastByteEnd ≤ now.tick)
    | .unknownCode _ code => unknownCodeOk code
    | _ => true

end Sys2Proof
end

