-- ==== Sys2Proof/Machine/Port.lean ====
section
/-!
DEFINITION. The maintenance port (R172 to R174, R176, R178) and the commands of the Standing Controller (R135 to R138): the
meanings of the seven selections, the four commands and UNKNOWN_CODE, and what the two-wire transactions carry.
-/

namespace Sys2Proof.Machine

/-! ## Transactions -/

/-- The 7-bit port address (R172). -/
def State.portAddress (s : State) : Nat := 0x4C + s.load.slot

/-- Whether the port acknowledges an address (R172): its own, from load completion on. -/
def State.acknowledges (address : Nat) (s : State) : Bool := s.loaded && address == s.portAddress

/-- The command of a write transaction's data bytes (R172, R173, R174): none without a data byte; the first two bytes
count. -/
def writeCommand (now : Instant) (data : List Byte) : Option Instr :=
  match data with
  | [] => none
  | code :: rest =>
    some (match code.toNat with
      | 0x01 => .status now
      | 0x02 => .counters now
      | 0x03 => .schedule now
      | 0x04 => if rest.head?.all (fun p => decide (p.toNat ≤ 7)) then .observations now rest.head? else .unknownCode now code
      | 0x05 => .currentFrame now
      | 0x06 => .lineFrame now
      | 0x07 => .alarms now
      | 0x81 => .ackAlarms now
      | 0x82 => .withdraw now
      | 0x83 => .rejoin now
      | 0x84 => .selftest now
      | _ => .unknownCode now code)

/-- Byte `i` of a read transaction (R173): the snapshot's, and 0x00 past its end. -/
def State.readByte (s : State) (i : Nat) : Byte := s.maint.snapshot.getD i 0#8

/-! ## The two wires

What the wires do reaches the part's commands through these functions, which no row of the opcode table stands for
(notes/assumptions/29.md): a write that is acted on puts its command at the end of the queue. -/

/-- What the port sees on the bus (R172): a start or repeated start, a stop, or a rise of MNT_SCL with the level of MNT_SDA. -/
inductive BusEvent where
  | start
  | stop
  | clock (sda : Level)
  deriving DecidableEq, Repr

/-- The port's line replaced. -/
def State.setPort (p : PortLine) (s : State) : State := { s with maint := { s.maint with port := p } }

/-- Whether the port pulls MNT_SDA low for the next clock (R172): to acknowledge a byte it has received, and for a 0 of a byte it
sends, most significant bit first. -/
def State.pullsSda (s : State) : Bool :=
  match s.maint.port.phase with
  | .ackAddress _ => true
  | .ackData => true
  | .send position => !(bitsOf 8 (s.readByte position).toNat).getD s.maint.port.bits.length true
  | .idle => false
  | .address => false
  | .receive => false
  | .masterAck _ => false

/-- The end of a transaction for the port, at a stop or a repeated start (R172): a write with a data byte is acted on. -/
def State.endTransaction (now : Instant) (s : State) : State :=
  match writeCommand now s.maint.port.data with
  | some c => { s with pending := s.pending ++ [c] }
  | none => s

/-- The port once the address byte is in (R172): it acknowledges its own address from load completion on, and otherwise stays out of
the transaction. -/
def State.portAddressed (bits : List Bool) (s : State) : PortLine :=
  if s.acknowledges (ofBits (bits.take 7)) then { phase := .ackAddress (bits.getD 7 false), bits := [], data := [] }
  else PortLine.idle

/-- The port after a rise of MNT_SCL (R172): bytes come and go in eight clocks and an acknowledgement, the first two data bytes of a
write are kept, and a read goes on for as long as the master acknowledges. A data byte counts from its eighth clock on, also where the
transaction ends before its acknowledgement: the spec does not say (notes/assumptions/29.md). -/
def State.portClocked (sda : Level) (s : State) : PortLine :=
  let p := s.maint.port
  let bits := p.bits ++ [sda == .high]
  let full := bits.length == 8
  match p.phase with
  | .idle => p
  | .address => if full then s.portAddressed bits else { p with bits := bits }
  | .ackAddress read => if read then { phase := .send 0, bits := [], data := [] } else { p with phase := .receive, bits := [] }
  | .receive =>
    if full then { phase := .ackData, bits := [], data := (p.data ++ [BitVec.ofNat 8 (ofBits bits)]).take 2 }
    else { p with bits := bits }
  | .ackData => { p with phase := .receive, bits := [] }
  | .send position => if full then { p with phase := .masterAck position, bits := [] } else { p with bits := bits }
  | .masterAck position => if sda = .low then { p with phase := .send (position + 1), bits := [] } else PortLine.idle

/-- What an event on the bus does (R172). -/
def State.onBus (now : Instant) (e : BusEvent) (s : State) : State :=
  match e with
  | .start => (s.endTransaction now).setPort { phase := .address, bits := [], data := [] }
  | .stop => (s.endTransaction now).setPort PortLine.idle
  | .clock sda => s.setPort (s.portClocked sda)

/-! ## Selections -/

/-- A selection (R173): the item as it stands becomes the snapshot. -/
def State.select (item : List Byte) (s : State) : State := { s with maint := { s.maint with snapshot := item } }

/-- The last command and its result (R174). -/
def State.recordCommand (code : Byte) (result : CommandResult) (s : State) : State :=
  { s with maint := { s.maint with lastCommand := some code, lastResult := some result } }

/-- An unknown code (R174): the snapshot emptied, the code recorded with UNKNOWN. -/
def State.unknownEffect (code : Byte) (s : State) : State := (s.select []).recordCommand code .unknown

/-- STATUS (R173). -/
def execStatus (now : Instant) (s : State) : Host.Outcome State Fault Refusal :=
  s.onEvent now s.loaded (fun s => s.select s.statusItem)

/-- The selection of COUNTERS, which sets every counter to 0 (R176). -/
def State.countersEffect (s : State) : State :=
  (s.select s.maint.counters.item).count (fun _ => Counters.zero)

/-- COUNTERS (R176). -/
def execCounters (now : Instant) (s : State) : Host.Outcome State Fault Refusal :=
  s.onEvent now s.loaded State.countersEffect

/-- SCHEDULE (R79). -/
def execSchedule (now : Instant) (s : State) : Host.Outcome State Fault Refusal :=
  s.onEvent now s.loaded (fun s => s.select (scheduleItem s.schedule))

/-- The selection of a page of OBSERVATIONS: page 0 when absent; a page above 7 is unknown (R173, R174). -/
def State.observationsEffect (page : Option Byte) (s : State) : State :=
  let p := (page.getD 0#8).toNat
  if p ≤ 7 then s.select (observationsItem s.key.ring p) else s.unknownEffect 0x04#8

/-- OBSERVATIONS (R110). -/
def execObservations (now : Instant) (page : Option Byte) (s : State) : Host.Outcome State Fault Refusal :=
  s.onEvent now s.loaded (State.observationsEffect page)

/-- CURRENT_FRAME (R93). -/
def execCurrentFrame (now : Instant) (s : State) : Host.Outcome State Fault Refusal :=
  s.onEvent now s.loaded (fun s => s.select (currentFrameItem s.frames.current))

/-- LINE_FRAME (R159). -/
def execLineFrame (now : Instant) (s : State) : Host.Outcome State Fault Refusal :=
  s.onEvent now s.loaded (fun s => s.select (lineFrameItem s.line.last))

/-- ALARMS (R177). -/
def execAlarms (now : Instant) (s : State) : Host.Outcome State Fault Refusal :=
  s.onEvent now s.loaded (fun s => s.select (alarmsItem s.maint.alarms))

/-- UNKNOWN_CODE (R174). -/
def execUnknownCode (now : Instant) (code : Byte) (s : State) : Host.Outcome State Fault Refusal :=
  s.onEvent now (s.loaded && unknownCodeOk code) (State.unknownEffect code)

/-! ## Commands -/

/-- ACK_ALARMS handled (R178): the alarm set, the raisings, the delay timer and ALERT_N. -/
def State.clearAlarms (s : State) : State :=
  { s with maint := { s.maint with alarms := [], raisings := 0, alertFrom := none, alertN := false } }

/-- ACK_ALARMS (R178). -/
def execAckAlarms (now : Instant) (s : State) : Host.Outcome State Fault Refusal :=
  s.onEvent now s.loaded (fun s => s.clearAlarms.recordCommand 0x81#8 .accepted)

/-- WITHDRAW handled, with the answer recorded (R135, R137). -/
def State.withdrawEffect (s : State) : State :=
  match s.ctl.standing with
  | .survey _ => (s.enterQuiet .standby).recordCommand 0x82#8 .accepted
  | .deferred => (s.enterQuiet .standby).recordCommand 0x82#8 .accepted
  | .active => ({ s with ctl := { s.ctl with pendingWithdraw := true } } : State).recordCommand 0x82#8 .accepted
  | .loading => s.recordCommand 0x82#8 .ignored
  | .standby => s.recordCommand 0x82#8 .ignored
  | .faultedDrive => s.recordCommand 0x82#8 .ignored
  | .faultedOsc => s.recordCommand 0x82#8 .ignored

/-- WITHDRAW (R135). -/
def execWithdraw (now : Instant) (s : State) : Host.Outcome State Fault Refusal :=
  s.onEvent now s.loaded State.withdrawEffect

/-- REJOIN handled, with the answer recorded (R136, R137, R141). -/
def State.rejoinEffect (s : State) : State :=
  match s.ctl.standing with
  | .standby => s.abortTest.enterSurvey.recordCommand 0x83#8 .accepted
  | .faultedDrive => s.enterSurvey.recordCommand 0x83#8 .accepted
  | .survey _ => s.recordCommand 0x83#8 .ignored
  | .active => s.recordCommand 0x83#8 .ignored
  | .deferred => s.recordCommand 0x83#8 .ignored
  | .loading => s.recordCommand 0x83#8 .ignored
  | .faultedOsc => s.recordCommand 0x83#8 .ignored

/-- REJOIN (R136). -/
def execRejoin (now : Instant) (s : State) : Host.Outcome State Fault Refusal :=
  s.onEvent now s.loaded State.rejoinEffect

/-- A self-test armed, or ended at once with NO_TIME (R138). -/
def State.armTest (s : State) : State :=
  { s with ctl := { s.ctl with test :=
    if s.timeSet then { SelfTest.reset with state := .waiting } else { SelfTest.reset with result := .noTime } } }

/-- SELFTEST handled, with the answer recorded (R137, R138, R141). -/
def State.selftestEffect (s : State) : State :=
  if s.ctl.standing = .standby ∧ s.ctl.test.state = .idle then s.armTest.recordCommand 0x84#8 .accepted
  else s.recordCommand 0x84#8 .ignored

/-- SELFTEST (R138). -/
def execSelftest (now : Instant) (s : State) : Host.Outcome State Fault Refusal :=
  s.onEvent now s.loaded State.selftestEffect

end Sys2Proof.Machine
end

