-- ==== Sys2Proof/Machine/StatusStream.lean ====
section
/-!
DEFINITION. ALERT_N by its delay (R179) and the status stream (R180 to R182, R188): the meanings of ALERT_DELAY_EXPIRY and
STATUS_REPETITION.
-/

namespace Sys2Proof.Machine

/-! ## ALERT_N -/

/-- ALERT_DELAY_EXPIRY (R179): the delay timer reaches ALERT_DELAY seconds, after load completion. -/
def execAlertDelayExpiry (now : Instant) (s : State) : Host.Outcome State Fault Refusal :=
  s.onEvent now
    (s.loaded && s.maint.alertFrom.any (fun t => t + s.load.params.alert.delay * Config.clockSecond == now.clk))
    (fun s => { s with maint := { s.maint with alertN := true } })

/-! ## Lamps -/

/-- The eight bits of a word, bit 7 first, as a byte (R188). -/
def wordOfBits (bits : List Bool) : Byte := BitVec.ofNat 8 (ofBits bits)

/-- Whether a blinking lamp is lit in the present repetition (R181). -/
def State.blinkOn (s : State) : Bool := decide (s.maint.groupCount < 2)

/-- The reference word (R181, R188). -/
def State.referenceWord (s : State) : Byte :=
  wordOfBits [s.ref.state == .noref, s.ref.state == .acquire && s.blinkOn, s.ref.state == .locked,
    s.ref.state == .holdover, s.cls == .a, s.cls == .b, s.cls == .c, s.timer.source == .line]

/-- The SURVEY lamp (R181): lit in WATCHING, blinking in the other phases. -/
def State.surveyLamp (s : State) : Bool :=
  s.ctl.standing == .survey .watching || (s.ctl.standing.isSurvey && s.blinkOn)

/-- The ACTIVE lamp (R181): blinking while a pending re-set is held. -/
def State.activeLamp (s : State) : Bool :=
  s.ctl.standing == .active && (s.time.pendingReset.isNone || s.blinkOn)

/-- The FAULTED lamp (R181). -/
def State.faultedLamp (s : State) : Bool :=
  s.ctl.standing == .faultedDrive || (s.ctl.standing == .faultedOsc && s.blinkOn)

/-- The SELFTEST lamp (R181). -/
def State.selftestLamp (s : State) : Bool :=
  if s.ctl.test.state = .idle then s.ctl.test.result == .fail else s.blinkOn

/-- The standing word (R181, R188). -/
def State.standingWord (s : State) : Byte :=
  wordOfBits [s.surveyLamp, s.activeLamp, s.ctl.standing == .deferred, s.ctl.standing == .standby, s.faultedLamp,
    s.selftestLamp, s.ctl.pendingJoin, false]

/-- The alarm word (R181, R182, R188). -/
def State.alarmWord (s : State) : Byte :=
  wordOfBits [s.maint.alertN, s.holds .refLost || s.holds .timeAged,
    s.holds .conflict || s.holds .yielded || s.holds .peerTiming || s.holds .lineStuck,
    s.holds .driveFault || s.holds .oscLost,
    s.holds .schedFull || s.holds .configDefaults || s.holds .configClamped,
    decide (0 < s.maint.rescueStretch), decide (0 < s.maint.peerStretch), s.blinkOn]

/-- The three words of a repetition (R180). -/
def State.lampWords (s : State) : LampWords :=
  { reference := s.referenceWord, standing := s.standingWord, alarm := s.alarmWord }

/-- The 24 bits of a repetition in the order they are shifted out (R180). -/
def LampWords.bits (w : LampWords) : List Bool :=
  bitsOf 8 w.reference.toNat ++ bitsOf 8 w.standing.toNat ++ bitsOf 8 w.alarm.toNat

/-- The pins of the status stream (R180). -/
structure StatPins where
  clock : Level
  data : Level
  latch : Level
  deriving DecidableEq, Repr

/-- The status stream's pins `past` periods of the internal clock into a repetition (R180): each of the 24 bits stands on STAT_DATA
for one period of STAT_CLK, set while STAT_CLK is low, which then rises; the latch pulse follows for one period, and then the lines
rest low. The spec does not give STAT_DATA and STAT_CLK during the latch pulse; the model has both low there too
(notes/assumptions/29.md). -/
def LampWords.pins (past : Nat) (w : LampWords) : StatPins :=
  if past < Config.latchAfter then
    { clock := levelOf (Config.statClockLow ≤ past % Config.statClock)
      data := levelOf (w.bits.getD (past / Config.statClock) false), latch := .low }
  else { clock := .low, data := .low, latch := levelOf (past < Config.latchAfter + Config.statClock) }

/-- The status stream's pins at a reading of the internal clock: low from reset until the first repetition (R169, R180). -/
def Maintenance.statPins (clk : Nat) (m : Maintenance) : StatPins :=
  match m.shift with
  | some r => r.words.pins (clk - r.start)
  | none => { clock := .low, data := .low, latch := .low }

/-- A repetition (R180, R182): the words taken and their shifting begun, the stretch counts fallen, the next repetition 125 ms on.
The last repetition has been latched, if it was shifted out whole. -/
def State.repetitionEffect (s : State) : State :=
  { s with maint := { s.maint with
      latched := s.maint.registers s.clk
      shift := some { start := s.clk, words := s.lampWords }
      rescueStretch := s.maint.rescueStretch - 1
      peerStretch := s.maint.peerStretch - 1
      groupCount := (s.maint.groupCount + 1) % 4
      nextRepetition := some (s.clk + Config.repetition) } }

/-- STATUS_REPETITION (R180): every 125 ms of the internal clock from load completion. -/
def execStatusRepetition (now : Instant) (s : State) : Host.Outcome State Fault Refusal :=
  s.onEvent now (s.loaded && s.maint.nextRepetition == some now.clk) State.repetitionEffect

end Sys2Proof.Machine
end

