-- ==== Sys2Proof/Machine/Dispatch.lean ====
section
/-!
DEFINITION. The meaning of every command: one arm for each row of spec/opcode_table.json.
-/

namespace Sys2Proof.Machine

/-- The effect of a command on everything but the queue. -/
def exec (i : Instr) (s : State) : Host.Outcome State Fault Refusal :=
  match i with
  | .reset now => Sys2Proof.Machine.execReset now s
  | .resetEnd now slot1 slot0 => Sys2Proof.Machine.execResetEnd now slot1 slot0 s
  | .settlingEnd now => Sys2Proof.Machine.execSettlingEnd now s
  | .imageHeaderCheck now header => Sys2Proof.Machine.execImageHeaderCheck now header s
  | .imageReadEnd now rest => Sys2Proof.Machine.execImageReadEnd now rest s
  | .loadCompletion now => Sys2Proof.Machine.execLoadCompletion now s
  | .oscMonitorUp now => Sys2Proof.Machine.execOscMonitorUp now s
  | .oscillatorLoss now => Sys2Proof.Machine.execOscillatorLoss now s
  | .epoch now => Sys2Proof.Machine.execEpoch now s
  | .driveInstant now => Sys2Proof.Machine.execDriveInstant now s
  | .reductionRelease now => Sys2Proof.Machine.execReductionRelease now s
  | .readback now => Sys2Proof.Machine.execReadback now s
  | .rescueGraceExpiry now => Sys2Proof.Machine.execRescueGraceExpiry now s
  | .decisionPoint now => Sys2Proof.Machine.execDecisionPoint now s
  | .recordClose now => Sys2Proof.Machine.execRecordClose now s
  | .filterFirstLevel now level => Sys2Proof.Machine.execFilterFirstLevel now level s
  | .keyFall now => Sys2Proof.Machine.execKeyFall now s
  | .keyRise now => Sys2Proof.Machine.execKeyRise now s
  | .fallSettled now => Sys2Proof.Machine.execFallSettled now s
  | .markRecognised now => Sys2Proof.Machine.execMarkRecognised now s
  | .overlong now => Sys2Proof.Machine.execOverlong now s
  | .spacingWindowClose now => Sys2Proof.Machine.execSpacingWindowClose now s
  | .silence now => Sys2Proof.Machine.execSilence now s
  | .secInPulse now => Sys2Proof.Machine.execSecInPulse now s
  | .refWindowClose now => Sys2Proof.Machine.execRefWindowClose now s
  | .acquireTimeout now => Sys2Proof.Machine.execAcquireTimeout now s
  | .referenceRecord now bytes => Sys2Proof.Machine.execReferenceRecord now bytes s
  | .recordByteGap now lastByteEnd => Sys2Proof.Machine.execRecordByteGap now lastByteEnd s
  | .recordLowStopBit now => Sys2Proof.Machine.execRecordLowStopBit now s
  | .recordStale now => Sys2Proof.Machine.execRecordStale now s
  | .status now => Sys2Proof.Machine.execStatus now s
  | .counters now => Sys2Proof.Machine.execCounters now s
  | .schedule now => Sys2Proof.Machine.execSchedule now s
  | .observations now page => Sys2Proof.Machine.execObservations now page s
  | .currentFrame now => Sys2Proof.Machine.execCurrentFrame now s
  | .lineFrame now => Sys2Proof.Machine.execLineFrame now s
  | .alarms now => Sys2Proof.Machine.execAlarms now s
  | .ackAlarms now => Sys2Proof.Machine.execAckAlarms now s
  | .withdraw now => Sys2Proof.Machine.execWithdraw now s
  | .rejoin now => Sys2Proof.Machine.execRejoin now s
  | .selftest now => Sys2Proof.Machine.execSelftest now s
  | .unknownCode now code => Sys2Proof.Machine.execUnknownCode now code s
  | .alertDelayExpiry now => Sys2Proof.Machine.execAlertDelayExpiry now s
  | .statusRepetition now => Sys2Proof.Machine.execStatusRepetition now s
  | .oscGapWhileDown now => Sys2Proof.Machine.execOscGapWhileDown now s
  | .recordStart now => Sys2Proof.Machine.execRecordStart now s

end Sys2Proof.Machine
end

