-- ==== Sys2Proof/Machine/Step.lean ====
section
/-!
DEFINITION. One step: the command at the front of the queue, or idling on an empty queue; and the placing of a command by the
word that spells it.
-/

namespace Sys2Proof.Machine

/-- The state with its queue replaced. -/
def State.withPending (queue : List Instr) (s : State) : State := { s with pending := queue }

/-- One step: the command at the front of the queue is taken, with the rest of the queue left; an empty queue idles. -/
def step (s : State) : Host.Outcome State Fault Refusal :=
  match s.pending with
  | c :: rest => exec c (s.withPending rest)
  | [] => .next s

/-- The state with the command that a word spells put at the front of the queue; unchanged where the word spells none. -/
def State.withFetchWord (s : State) (nbits w : Nat) : State :=
  match decodeTableWord nbits w with
  | some c => s.withPending (c :: s.pending)
  | none => s

end Sys2Proof.Machine
end

