-- ==== Sys2Proof/Safety.lean ====
section
/-!
DEFINITION. What the spec promises of every moment, as invariants of the state: the ranges of the second timer's arithmetic
(R25, R27), the bounds of everything counted or stored, the alarm set (R177, R179), who may pull KEY and when the keyer is
ACTIVE (R96, R118), the time scale (R44, R50, R51), and the order of the Change Schedule (R60).
-/

namespace Sys2Proof.Machine

/-- Whether an initial F lies in its range (R166). -/
def trimInRange (trim : Option Int) : Prop := ∀ f ∈ trim, -Config.fLimit ≤ f ∧ f ≤ Config.fLimit

/-- The second timer's arithmetic: F stays within its limits at all times, with the initial F a load may bring (R27), and A
lies in 0 to 65,535 (R25). -/
structure TimerSafe (s : State) : Prop where
  f_low : -Config.fLimit ≤ s.timer.f
  f_high : s.timer.f ≤ Config.fLimit
  a_low : 0 ≤ s.timer.a
  a_high : s.timer.a < Config.fUnit
  trim_ok : trimInRange s.load.params.trim
  staged_ok : trimInRange s.load.staging.trim

/-- Wrapping counters stay within 0 to 9,999 and saturating counters within 255 (R175). -/
structure CountersSafe (c : Counters) : Prop where
  pulsesGood : c.pulsesGood ≤ 9999
  framesKeyed : c.framesKeyed ≤ 9999
  lineFramesGood : c.lineFramesGood ≤ 9999
  pulsesRejected : c.pulsesRejected ≤ 255
  recordsBad : c.recordsBad ≤ 255
  recordGaps : c.recordGaps ≤ 255
  countConflicts : c.countConflicts ≤ 255
  rescues : c.rescues ≤ 255
  earlySeconds : c.earlySeconds ≤ 255
  longSeconds : c.longSeconds ≤ 255
  excessSeconds : c.excessSeconds ≤ 255
  listenMismatches : c.listenMismatches ≤ 255
  lineFramesBad : c.lineFramesBad ≤ 255
  schedDrops : c.schedDrops ≤ 255
  leapRefused : c.leapRefused ≤ 255

/-- The bounds of what is counted and stored: counters (R175), the observation ring (R107), the rebuild count (R88), the
group count (R181) and the stretch counts (R182). -/
structure BoundsSafe (s : State) : Prop where
  counters : CountersSafe s.maint.counters
  ring : s.key.ring.length ≤ 64
  rebuilds : s.frames.rebuilds ≤ 255
  group : s.maint.groupCount < 4
  rescue : s.maint.rescueStretch ≤ 8
  peer : s.maint.peerStretch ≤ 8

/-- The alarm set holds each kind at most once, with counts of 1 to 255 (R177); the delay timer runs exactly while an entry
is held, and ALERT_N is asserted only while the set is not empty and only after load completion (R177, R179), as ALERT_COUNT is
at least 1 (R166). -/
structure AlarmsSafe (s : State) : Prop where
  once : (s.maint.alarms.map (fun e => e.kind)).Nodup
  counts : ∀ e ∈ s.maint.alarms, 1 ≤ e.count ∧ e.count ≤ 255
  raisings : s.maint.raisings ≤ 255
  raised : s.maint.alarms = [] ↔ s.maint.raisings = 0
  delay : s.maint.alertFrom.isSome = true ↔ s.maint.alarms ≠ []
  alert : s.maint.alertN = true → s.maint.alarms ≠ [] ∧ s.loaded = true
  count_ok : 1 ≤ s.load.params.alert.count
  staged_ok : ∀ a ∈ s.load.staging.alert, 1 ≤ a.count

/-- Who may pull KEY and what ACTIVE rests on: KEY is pulled, or a listen second awaited, only while ACTIVE (R96); ACTIVE
implies that the time is SET and the monitor UP, and that a range marked as ending is acted on at the next drive instant
(R49, R118); a pending WITHDRAW and a yield due belong to ACTIVE (R130, R135); a self-test waits or runs in STANDBY with the
time SET (R138); FAULTED(OSC) lasts while the monitor is DOWN, and no time is SET then (R19, R121). -/
structure KeyingSafe (s : State) : Prop where
  driven : s.key.drive ≠ .released → s.ctl.standing = .active
  active_set : s.ctl.standing = .active → s.time.n.isSome = true
  active_up : s.ctl.standing = .active → s.timer.monitor = .up
  active_ending : s.ctl.standing = .active → s.time.rangeEnding = true → s.timer.driveTaken = false
  withdraw : s.ctl.pendingWithdraw = true → s.ctl.standing = .active
  yield_due : s.ctl.yieldDue.isSome = true → s.ctl.standing = .active
  test_standby : s.ctl.test.state ≠ .idle → s.ctl.standing = .standby
  test_set : s.ctl.test.state ≠ .idle → s.time.n.isSome = true
  down_unset : s.timer.monitor = .down → s.time.n = none
  faulted_down : s.ctl.standing = .faultedOsc → s.timer.monitor = .down

/-- The time scale: N lies in the range of R44, the origin is none while UNSET and only then, the age is present with origin REF
and only then (R50), an origin of LINE never stands beside LOCKED (R50, R51), a pending SET is held only while UNSET, comes
from the reference and lies in the range (R47), what belongs to a SET time is clear without one (R48), the time is UNSET while
the monitor is DOWN (R19), and the leap-60 flag stands in an inserted second only (R45). -/
structure TimeSafe (s : State) : Prop where
  n_low : ∀ n ∈ s.time.n, 0 ≤ n
  n_high : ∀ n ∈ s.time.n, n ≤ Config.lastCount
  origin_set : s.time.origin.isSome = s.time.n.isSome
  age_ref : s.time.age.isSome = true ↔ s.time.origin = some .ref
  age_limit : ∀ age ∈ s.time.age, age ≤ Config.ageLimit
  line_unlocked : s.time.origin = some .line → s.ref.state ≠ .locked
  pending_unset : s.time.pendingSet.isSome = true → s.time.n = none
  pending_ref : ∀ p ∈ s.time.pendingSet, p.origin = .ref ∧ 0 ≤ p.count ∧ p.count ≤ Config.lastCount
  leap_set : s.time.leap60 = true → s.time.n.isSome = true
  leap_second : s.time.leap60 = true → s.secondInserted = true
  down_unset : s.timer.monitor = .down → s.time.n = none
  reset_set : s.time.pendingReset.isSome = true → s.time.n.isSome = true
  ending_set : s.time.rangeEnding = true → s.time.n.isSome = true

/-- What every entry of the Change Schedule is: at a whole minute, a leap entry at the start of a UTC day, with a new offset in
−48 to +56 for OFFSET and none for the leap kinds (R60, R62). -/
structure EntrySafe (e : Entry) : Prop where
  minute : e.instant % 60 = 0
  day : e.kind.isLeap = true → e.instant % 86400 = 0
  offset : e.kind = .offset → ∃ q, e.newOffset = some q ∧ -48 ≤ q ∧ q ≤ 56
  leap : e.kind.isLeap = true → e.newOffset = none

/-- The Change Schedule: at most 8 entries, in ascending order of instant with leap entries before OFFSET entries at an
equal instant, no two of one instant and kind nor two leap entries of one instant, every instant later than N, and none while
UNSET (R60, R61, R64). -/
structure ScheduleSafe (s : State) : Prop where
  size : s.schedule.length ≤ 8
  order : s.schedule.Pairwise (fun a b => a.before b = true)
  entries : ∀ e ∈ s.schedule, EntrySafe e
  future : ∀ n ∈ s.time.n, ∀ e ∈ s.schedule, n < e.instant
  unset : s.time.n = none → s.schedule = []

/-- A rule of a ZONE record within the ranges of R166. -/
structure RuleInRange (r : OffsetRule) : Prop where
  month : 1 ≤ r.month ∧ r.month ≤ 12
  ordinal : 1 ≤ r.ordinal ∧ r.ordinal ≤ 5
  weekday : 1 ≤ r.weekday ∧ r.weekday ≤ 7
  minute : r.minute ≤ 1439

/-- The SITE fields within the ranges of R166, with the constraint of R168. -/
structure SiteInRange (p : Site) : Prop where
  announce : 1 ≤ p.announce ∧ p.announce ≤ 1440
  epochTol : 10 ≤ p.epochTol ∧ p.epochTol ≤ 5000 ∧ p.epochTol ≤ p.rescueGrace / 2
  rescueGrace : 500 ≤ p.rescueGrace ∧ p.rescueGrace ≤ 20000
  conflictLimit : 1 ≤ p.conflictLimit ∧ p.conflictLimit ≤ 8
  holdLimit : 60 ≤ p.holdLimit ∧ p.holdLimit ≤ 86400
  qMin : p.qMin ≤ 15
  keyAdvance : p.keyAdvance ≤ 2000
  outlier : 1 ≤ p.outlier ∧ p.outlier ≤ 1000

/-- A parameter set within the ranges of R166 and the constraint of R168. -/
structure ParamsInRange (p : Params) : Prop where
  site : SiteInRange p.site
  zone : ∀ z ∈ p.zone, -48 ≤ z.standard ∧ z.standard ≤ 56 ∧ -48 ≤ z.summer ∧ z.summer ≤ 56 ∧
    RuleInRange z.startRule ∧ RuleInRange z.endRule
  trim : trimInRange p.trim
  alert : 1 ≤ p.alert.count ∧ p.alert.count ≤ 15 ∧ 1 ≤ p.alert.delay ∧ p.alert.delay ≤ 255

/-! ## When a command falls due -/

/-- EPOCH is due: the monitor is UP, the second's ticks have run, and its drive instant has been taken (R3, R17). -/
structure EpochDue (now : Instant) (s : State) : Prop where
  up : s.timer.monitor = .up
  tick : s.timer.nextEpoch = some now.tick
  driven : s.timer.driveTaken = true

/-- DRIVE_INSTANT is due: the monitor is UP and the drive instant of the coming second has come (R3, R96). -/
structure DriveDue (now : Instant) (s : State) : Prop where
  up : s.timer.monitor = .up
  tick : s.timer.nextDrive = some now.tick
  waiting : s.timer.driveTaken = false

/-- No sample and no step is held: the second flywheels (R25). -/
structure Flywheels (s : State) : Prop where
  ref : s.timer.heldRef = none
  line : s.timer.heldLine = none
  step : s.timer.heldStep = none

/-- The coming epoch advances N by one and nothing else bears on the count (R44): the time is SET at `n`, the range is not ending, no leap
entry is committed and no re-set is pending. -/
structure AdvancesPlainly (n : Int) (s : State) : Prop where
  set : s.time.n = some n
  running : s.time.rangeEnding = false
  leap : ∀ e ∈ s.schedule, e.kind.isLeap = true → e.committed = false
  reset : s.time.pendingReset = none

/-- A second that is no MARK begins at the coming drive instant: it is index `i` of the current frame `f`, by the count the coming epoch
takes, with 60 for an inserted second (R91). -/
structure DrivesIndex (f : Frame) (i : Nat) (s : State) : Prop where
  current : s.frames.current = some f
  index : ∃ n step, s.comingCount = some (n, step) ∧
    ((step = .inserted ∧ i = 60) ∨ (step ≠ .inserted ∧ n = f.n0 + (i : Int) ∧ i < 60))

/-- The swap falls at the coming drive instant: the second that comes lies past the current frame, and is no inserted one (R90). -/
abbrev SwapComes (s : State) : Prop :=
  ∃ f n step, s.frames.current = some f ∧ s.comingCount = some (n, step) ∧ step ≠ .inserted ∧ f.n0 + 60 ≤ n

/-- The next frame `g`, which is held and not stale, becomes current at the coming drive instant (R90). -/
structure DrivesSwap (g : Frame) (s : State) : Prop where
  next : s.frames.next = some g
  fresh : g.stale = false
  passed : SwapComes s

/-- The coming drive instant is the MARK drive instant of the next frame `g`: the second that comes is its second 0 (R90, R183). -/
structure DrivesMark (g : Frame) (s : State) : Prop where
  swap : DrivesSwap g s
  begins : ∃ step, s.comingCount = some (g.n0, step)

/-- The next frame `g` becomes current at a drive instant after its MARK's: the second that comes is its index `i`, no MARK (R91,
notes/assumptions/34.md). -/
structure DrivesLate (g : Frame) (i : Nat) (s : State) : Prop where
  swap : DrivesSwap g s
  later : 0 < i
  index : ∃ step, s.comingCount = some (g.n0 + (i : Int), step)

/-- No cause takes the keyer out of ACTIVE at a drive instant that is no MARK's (R120). -/
structure StaysActive (s : State) : Prop where
  active : s.ctl.standing = .active
  noFault : s.ctl.faultReport = false
  noWithdraw : s.ctl.pendingWithdraw = false
  running : s.time.rangeEnding = false

/-- The open second `o` among those before and after it, the only one of its drive instant (R95). -/
structure OpensSecond (pre : List OpenSecond) (o : OpenSecond) (post : List OpenSecond) (s : State) : Prop where
  opens : s.key.opens = pre ++ o :: post
  alone : ∀ x ∈ pre ++ post, x.t0 ≠ o.t0

/-- DECISION_POINT is due for the open second `o` (R95, R99): the monitor is UP, 700 ms have run since its drive instant, and it has not
been decided. -/
structure DecisionDue (now : Instant) (pre : List OpenSecond) (o : OpenSecond) (post : List OpenSecond) (s : State) : Prop where
  up : s.timer.monitor = .up
  opened : OpensSecond pre o post s
  tick : o.t0 + 7000000 = now.tick
  open_ : o.outcome = none

/-- The second `o` is the last index of the current frame, and the standing is ACTIVE (R112). -/
structure EndsFrame (f : Frame) (o : OpenSecond) (s : State) : Prop where
  active : s.ctl.standing = .active
  current : s.frames.current = some f
  start : o.n0 = some f.n0
  index : o.index = some (f.symbols.length - 1)

/-- A reduction of length `d` is the symbol's own class (R2). -/
def lengthIs (y : Symbol) (d : Int) : Prop :=
  match y with
  | .short => 600000 ≤ d ∧ d < 1800000
  | .long => 1800000 ≤ d ∧ d < 3600000
  | .mark => 3600000 ≤ d ∧ d ≤ 7000000

/-- The edges on KEY stand newest first, one to a tick. -/
def edgesInOrder (k : Keying) : Prop := k.edges.Pairwise (fun a b => b.tick < a.tick)

/-- A pulse on SEC_IN, high for 10 ticks by now, that is accepted (R28): the monitor is UP, and the previous accepted pulse is far
enough before its timestamp. -/
structure PulseAccepted (now : Instant) (s : State) : Prop where
  up : s.timer.monitor = .up
  spaced : ∀ p ∈ s.ref.prevPulse, Config.pulseSpacing ≤ pulseTime now.tick - p

/-- The waiting record labels a pulse taken now as good (R31). -/
structure GoodLabel (now : Instant) (r : RefRecord) (s : State) : Prop where
  waits : ∃ time, s.ref.waiting = some { record := r, time := time } ∧ Config.labelFrom ≤ now.tick - time ∧
    now.tick - time ≤ Config.labelTo
  quality : s.load.params.site.qMin ≤ r.quality

end Sys2Proof.Machine
end

