-- ==== Sys2Proof/Certificates/Slice0/Obligations.lean ====
section
/-!
DEFINITION. The statements for the provers, from the numbered rules of the spec. A statement about a command says when it is due, that it
then answers a next state, what that state holds and what it leaves as it was. `exec` is the command's effect; a command that is not due
leaves the state as it is (notes/assumptions/2.md). -/

section Statements

open Sys2Proof Sys2Proof.Machine

/-! ## The whole machine -/

/-- A step runs the command at the front of the queue, with the rest of the queue left; an empty queue idles, which is the model's choice
(notes/assumptions/3.md). -/
def Obligations.StepRunsTheFrontCommand : Prop :=
  (∀ (c : Instr) (rest : List Instr) (s : State),
    step (s.withPending (c :: rest)) = exec c (s.withPending rest)) ∧
  ∀ s : State, step (s.withPending []) = .next (s.withPending [])

/-- Every command answers a next state and leaves the queue as it is: no rule stops the part. That a command which is not due answers a next
state too is the model's choice (notes/assumptions/2.md). -/
def Obligations.EveryCommandCompletes : Prop :=
  ∀ (c : Instr) (s : State), ∃ t, exec c s = .next t ∧ t.pending = s.pending

/-- R160, R171: once a load has completed, nothing but a reset changes the parameter set, its source, the slot or the load result. R177 to
R179: until ACK_ALARMS or a reset, an alarm kind that is held stays held with its first N, and an asserted ALERT_N stays asserted; and
R107, R110: the observation ring changes at a record close or a reset only. -/
def Obligations.LoadAndAlarmsStand : Prop :=
  (∀ (c : Instr) (s t : State), s.load.phase = .done → (∀ now, c ≠ .reset now) → exec c s = .next t → t.load = s.load) ∧
  (∀ (c : Instr) (s t : State), (∀ now, c ≠ .reset now) → exec c s = .next t →
    ((∀ now, c ≠ .ackAlarms now) →
      (∀ e ∈ s.maint.alarms, ∃ e' ∈ t.maint.alarms, e'.kind = e.kind ∧ e'.firstN = e.firstN) ∧
      (s.maint.alertN = true → t.maint.alertN = true)) ∧
    ((∀ now, c ≠ .recordClose now) → t.key.ring = s.key.ring))

/-- R118: a keyer enters ACTIVE at a drive instant only, and leaves it at a drive instant, at an oscillator loss or at a reset. -/
def Obligations.ActiveChangesOnlyAtDriveInstants : Prop :=
  ∀ (c : Instr) (s t : State), (∀ now, c ≠ .driveInstant now) → exec c s = .next t →
    (t.ctl.standing = .active → s.ctl.standing = .active) ∧
    (s.ctl.standing = .active →
      t.ctl.standing = .active ∨ (∃ now, c = .oscillatorLoss now) ∨ ∃ now, c = .reset now)

/-- R52: while the standing is ACTIVE, N changes by its per-second advance only: at an EPOCH, by 1, or by 2 at a committed deletion; and it
is lost only to a reset, an oscillator loss or the end of the count range (R48). -/
def Obligations.CountNeverJumpsWhileActive : Prop :=
  ∀ (c : Instr) (s t : State) (n : Int), s.ctl.standing = .active → s.time.n = some n → exec c s = .next t →
    t.time.n = some n ∨
    ((∃ now, c = .epoch now) ∧
      (t.time.n = some (n + 1) ∨
        (t.time.n = some (n + 2) ∧ ∃ e ∈ s.schedule, e.committed = true ∧ e.kind = .leapDelete ∧ e.instant = n + 2) ∨
        (t.time.n = none ∧ s.time.rangeEnding = true))) ∨
    (t.time.n = none ∧ ((∃ now, c = .oscillatorLoss now) ∨ ∃ now, c = .reset now))

/-! ## Reset and the load -/

/-- RESET: the values that R18, R21, R43, R48, R49, R80, R88, R116, R122, R143, R160, R172 to R175, R177 and R179 to R182 give for reset:
the monitor and the second timer, the reference unit, the time scale with its mark of the range's end, the schedule and the frames, the
keying unit, the line reader, the standing, the loader and its pins, and the maintenance unit with its port released and its status
stream stopped. The external registers keep the words they last latched: those of a repetition count from its latch pulse on
(notes/assumptions/27.md). -/
def Obligations.ResetLeavesTheStatedValues : Prop :=
  ∀ (now : Instant) (s : State), ∃ t, exec (.reset now) s = .next t ∧ t.pending = s.pending ∧
    (t.timer.monitor = .down ∧ t.timer.f = 0 ∧ t.timer.a = 0 ∧ t.timer.source = .noSource ∧ t.timer.lastError = none ∧
      t.timer.heldRef = none ∧ t.timer.heldLine = none ∧ t.timer.heldStep = none ∧ t.timer.receivedMarker = none ∧
      t.timer.usedMarker = none ∧ t.timer.epoch = none ∧ t.timer.nextEpoch = none) ∧
    (t.ref.state = .noref ∧ t.ref.trec = RecordLine.idle ∧ t.ref.assembling = false ∧ t.ref.waiting = none ∧
      t.ref.prevSeq = none ∧
      t.ref.lastLabel = none ∧ t.ref.streak = 0 ∧ t.ref.streakLast = none ∧ t.ref.missingStreak = 0 ∧
      t.ref.outlierStreak = 0 ∧ t.ref.conflictStreak = 0 ∧ t.ref.unlabelledRun = 0 ∧ t.ref.noneRun = 0 ∧
      t.ref.prevPulse = none ∧ t.ref.acquireFrom = none) ∧
    (t.time.n = none ∧ t.time.origin = none ∧ t.time.age = none ∧ t.time.leap60 = false ∧ t.time.pendingReset = none ∧
      t.time.pendingSet = none ∧ t.time.rangeEnding = false ∧ t.cls = .u ∧ t.time.offset = 0) ∧
    (t.schedule = [] ∧ t.frames.current = none ∧ t.frames.next = none ∧ t.frames.latch = none ∧ t.frames.rebuilds = 0) ∧
    (t.key.drive = .released ∧ t.key.intended = none ∧ t.key.listenIndex = none ∧ t.key.level = none ∧
      t.key.levelFrom = none ∧ t.key.run = none ∧ t.key.ring = [] ∧
      t.key.tallies = Tallies.empty ∧ t.key.conflictStreak = 0 ∧ t.key.timingStreak = 0 ∧ t.key.faultRun = 0 ∧
      t.key.lastVerdict = none) ∧
    (t.line.decoder = .idle ∧ t.line.assembly = none ∧ t.line.last = none ∧ t.line.lastBreak = none ∧
      t.line.candidate = none ∧ t.line.notice = none) ∧
    (t.ctl.standing = .loading ∧ t.ctl.pendingJoin = false ∧ t.ctl.pendingWithdraw = false ∧ t.ctl.faultReport = false ∧
      t.ctl.silenceFrom = none ∧ t.ctl.silence = false ∧ t.ctl.copy = none ∧ t.ctl.floor = none ∧
      t.ctl.lastComparison = none ∧ t.ctl.test.state = .idle ∧ t.ctl.test.result = .noResult) ∧
    (t.load.params = Params.defaults ∧ t.load.staging = Staging.empty ∧ t.load.source = none ∧ t.load.clamp = false ∧
      t.load.result = none ∧ ∀ clk, t.load.memPins clk = { cs := .high, clock := .low, dataOut := .low }) ∧
    (t.maint.counters = Counters.zero ∧ t.maint.alarms = [] ∧ t.maint.raisings = 0 ∧ t.maint.alertFrom = none ∧
      t.maint.alertN = false ∧ t.maint.snapshot = [] ∧ t.maint.lastCommand = none ∧ t.maint.lastResult = none ∧
      t.maint.rescueStretch = 0 ∧ t.maint.peerStretch = 0 ∧ t.maint.nextRepetition = none ∧
      (∀ clk, t.maint.statPins clk = { clock := .low, data := .low, latch := .low }) ∧
      t.maint.port = PortLine.idle ∧ t.pullsSda = false ∧
      ∀ clk, t.maint.registers clk =
        match s.maint.shift with
        | some r => if r.start + 96 ≤ now.clk then some r.words else s.maint.latched
        | none => s.maint.latched)

/-- The state of reset meets every invariant of Safety.lean, and its parameter set lies within its ranges. -/
def Obligations.ResetStateMeetsTheInvariants : Prop :=
  TimerSafe State.reset ∧ BoundsSafe State.reset ∧ AlarmsSafe State.reset ∧ KeyingSafe State.reset ∧
    TimeSafe State.reset ∧ ScheduleSafe State.reset ∧ ParamsInRange State.reset.load.params

/-- R160 to R162: RESET_END samples the slot and enters SETTLING; SETTLING_END, 300 ms later, takes MEM_CS low and enters READING;
IMAGE_HEADER_CHECK tests the signature on 2 bytes, the image length on 4 and the format on 5, each at the last bit of those bytes. A
test that fails ends the transaction, with completion 1 ms later; the phase `ending` of that millisecond is the model's own
(notes/assumptions/5.md). Outside READING the memory interface rests with MEM_CLK and MEM_DO low. In READING bit k takes the 50 µs from
50 k µs on: MEM_DO carries bit k of the instruction 0x03 and the address 0x0000, most significant first, from the fall of MEM_CLK that
begins the period, and is low after those 24 bits, which is the model's choice as the even division of the period is
(notes/assumptions/29.md). The bits on MEM_DI spell the image bytes, most significant first. -/
def Obligations.StartUpReadsAndTestsTheHeader : Prop :=
  ((∀ (now : Instant) (slot1 slot0 : Bool) (s : State), s.load.phase = .held →
    exec (.resetEnd now slot1 slot0) s = .next { s with
      tick := now.tick, clk := now.clk, timer := { s.timer with runFrom := now.tick }
      load := { s.load with
        phase := .settling, slot := (if slot1 then 2 else 0) + (if slot0 then 1 else 0), resetEndClk := now.clk } }) ∧
  (∀ (now : Instant) (s : State), s.load.phase = .settling → now.clk = s.load.resetEndClk + 300000 →
    exec (.settlingEnd now) s = .next { s with
      tick := now.tick, clk := now.clk, load := { s.load with phase := .reading, memCs := .low } }) ∧
  ∀ (now : Instant) (header : List Byte) (s : State), s.load.phase = .reading → s.load.imageLength = 0 →
    now.clk = s.load.resetEndClk + 300000 + (24 + 8 * header.length) * 50 →
    let failsWith (r : LoadResult) : Prop := exec (.imageHeaderCheck now header) s = .next { s with
      tick := now.tick, clk := now.clk
      load := { s.load with
        phase := .ending, result := some r, staging := Staging.empty, memCs := .high, doneClk := some (now.clk + 1000) } }
    (∀ b0 b1, header = [b0, b1] →
      ((b0 ≠ 0x5C#8 ∨ b1 ≠ 0x3E#8) → failsWith .signature) ∧
      (b0 = 0x5C#8 → b1 = 0x3E#8 → exec (.imageHeaderCheck now header) s = .next (s.at now))) ∧
    (∀ h l : Byte, header = [0x5C#8, 0x3E#8, h, l] →
      ((h.toNat * 256 + l.toNat < 16 ∨ 4096 < h.toNat * 256 + l.toNat) → failsWith .length) ∧
      (16 ≤ h.toNat * 256 + l.toNat → h.toNat * 256 + l.toNat ≤ 4096 →
        exec (.imageHeaderCheck now header) s = .next (s.at now))) ∧
    ∀ h l f : Byte, header = [0x5C#8, 0x3E#8, h, l, f] →
      16 ≤ h.toNat * 256 + l.toNat → h.toNat * 256 + l.toNat ≤ 4096 →
      (f ≠ 0x01#8 → failsWith .format) ∧
      (f = 0x01#8 → exec (.imageHeaderCheck now header) s = .next { s with
        tick := now.tick, clk := now.clk
        load := { s.load with buffer := header, imageLength := h.toNat * 256 + l.toNat } })) ∧
  ((∀ (l : Loader) (clk : Nat), l.phase ≠ .reading → l.memPins clk = { cs := l.memCs, clock := .low, dataOut := .low }) ∧
  (∀ (l : Loader) (k past : Nat), l.phase = .reading → past < 50 →
    let pins := l.memPins (l.resetEndClk + 300000 + 50 * k + past)
    pins.cs = l.memCs ∧ (pins.clock = .high ↔ 25 ≤ past) ∧
      (pins.dataOut = .high ↔ k < 24 ∧ Nat.testBit (0x03 * 65536) (23 - k) = true)) ∧
  ∀ image : List Byte,
    imageBytes (image.flatMap (fun b => (List.range 8).map (fun i => b.getLsbD (7 - i)))) = image)

/-- R163: IMAGE_READ_END, at the last bit of the image, tests the CRC over the whole image and, when it is zero, walks the record chain;
completion follows 1 ms later. R164, R165: the walk begins at the offset in bytes 5 and 6 with nothing written, of which 0 means no
records and so an end that is good at once; the least offset is 7, and at most 16 records are visited, their number being tested before
the offset (notes/assumptions/24.md). Each offset and record is tested before it is used, and a record of an unknown type is passed
over. A walk that ends well leaves what it wrote, with EPOCH_TOL limited to half of RESCUE_GRACE (R168); a failed test or walk leaves an
empty staging set, and the clamp flag of a failed walk stands until completion (notes/assumptions/24.md), in the phase `ending` of
notes/assumptions/5.md. R165, R166, R186: a SITE, ZONE, TRIM or ALERT record puts the fields that its body's bytes give into the staging
set in place of all the fields of its type there, each held to the nearer limit of its range, and a field so held sets the clamp flag. -/
def Obligations.ImageReadEndWalksTheRecords : Prop :=
  (∀ (now : Instant) (rest : List Byte) (s : State), s.load.phase = .reading → s.load.imageLength ≠ 0 →
    s.load.buffer.length + rest.length = s.load.imageLength →
    now.clk = s.load.resetEndClk + 300000 + (24 + 8 * s.load.imageLength) * 50 →
    let image := s.load.buffer ++ rest
    let first := (image.getD 5 0#8).toNat * 256 + (image.getD 6 0#8).toNat
    let empty : Walked := { staging := Staging.empty, clamp := false }
    let walked : WalkEnd := if first = 0 then { result := .ok, walked := empty } else walkFrom image 16 7 first empty
    let endsWith (phase : LoadPhase) (r : LoadResult) (staging : Staging) (clamp : Bool) : Prop :=
      exec (.imageReadEnd now rest) s = .next { s with
        tick := now.tick, clk := now.clk
        load := { s.load with
          phase := phase, result := some r, staging := staging, clamp := clamp, memCs := .high, buffer := image
          doneClk := some (now.clk + 1000) } }
    (crc16 image ≠ 0#16 → endsWith .ending .crc Staging.empty s.load.clamp) ∧
    (crc16 image = 0#16 → walked.result ≠ .ok → endsWith .ending walked.result Staging.empty walked.walked.clamp) ∧
    (crc16 image = 0#16 → walked.result = .ok →
      ((∀ site ∈ walked.walked.staging.site, site.epochTol ≤ site.rescueGrace / 2) →
        endsWith .walking .ok walked.walked.staging walked.walked.clamp) ∧
      ∀ site, walked.walked.staging.site = some site → site.rescueGrace / 2 < site.epochTol →
        endsWith .walking .ok
          { walked.walked.staging with site := some { site with epochTol := site.rescueGrace / 2 } } true)) ∧
  ∀ (image : List Byte) (left least offset : Nat) (w : Walked),
    let type := (image.getD offset 0#8).toNat
    let bodyLength := (image.getD (offset + 1) 0#8).toNat
    let next := (image.getD (offset + 2) 0#8).toNat * 256 + (image.getD (offset + 3) 0#8).toNat
    let recordEnd := offset + 4 + bodyLength
    let short := (type = 1 ∧ bodyLength < 17) ∨ (type = 2 ∧ bodyLength < 12) ∨ (type = 3 ∧ bodyLength < 4) ∨
      (type = 4 ∧ bodyLength < 2)
    let handled := writeRecord type ((image.drop (offset + 4)).take bodyLength) w
    walkFrom image 0 least offset w = { result := .tooManyRecords, walked := w } ∧
    ((offset < least ∨ image.length < recordEnd + 2) →
      walkFrom image (left + 1) least offset w = { result := .chain, walked := w }) ∧
    (least ≤ offset → recordEnd + 2 ≤ image.length →
      (short → walkFrom image (left + 1) least offset w = { result := .shortRecord, walked := w }) ∧
      (¬ short → next = 0 → walkFrom image (left + 1) least offset w = { result := .ok, walked := handled }) ∧
      (¬ short → next ≠ 0 →
        walkFrom image (left + 1) least offset w = walkFrom image left recordEnd next handled) ∧
      ((type = 0 ∨ 5 ≤ type) → handled = w)) ∧
    (let u8 (body : List Byte) (i : Nat) : Int := ((body.getD i 0#8).toNat : Int)
    let u16 (body : List Byte) (i : Nat) : Int := 256 * u8 body i + u8 body (i + 1)
    let u32 (body : List Byte) (i : Nat) : Int := 65536 * u16 body i + u16 body (i + 2)
    let held (v lo hi : Int) : Int := max lo (min hi v)
    let out (v lo hi : Int) : Prop := v < lo ∨ hi < v
    ∀ (body : List Byte) (w : Walked),
      let u := u8 body
      let uu := u16 body
      let s8 (i : Nat) : Int := if 128 ≤ u i then u i - 256 else u i
      let s32 : Int := if 128 ≤ u 0 then u32 body 0 - 4294967296 else u32 body 0
      let rule (i : Nat) : OffsetRule :=
        { month := (held (u i) 1 12).toNat, ordinal := (held (u (i + 1)) 1 5).toNat
          weekday := (held (u (i + 2)) 1 7).toNat, minute := (held (uu (i + 3)) 0 1439).toNat }
      let ruleOut (i : Nat) : Prop :=
        out (u i) 1 12 ∨ out (u (i + 1)) 1 5 ∨ out (u (i + 2)) 1 7 ∨ out (uu (i + 3)) 0 1439
      let writes (type : Nat) (staging : Staging) (clamped : Prop) : Prop :=
        (writeRecord type body w).staging = staging ∧
          ((writeRecord type body w).clamp = true ↔ w.clamp = true ∨ clamped)
      let site : Site :=
        { announce := (held (uu 0) 1 1440).toNat, epochTol := (held (uu 2) 10 5000).toNat
          rescueGrace := (held (uu 4) 500 20000).toNat, conflictLimit := (held (u 6) 1 8).toNat
          holdLimit := (held (u32 body 7) 60 86400).toNat, qMin := (held (u 11) 0 15).toNat
          keyAdvance := (held (uu 12) 0 2000).toNat, outlier := (held (uu 14) 1 1000).toNat
          lineDiscipline := decide (u 16 ≠ 0) }
      let zone : Zone :=
        { standard := held (s8 0) (-48) 56, summer := held (s8 1) (-48) 56, startRule := rule 2, endRule := rule 7 }
      let alert : Alert := { count := (held (u 0) 1 15).toNat, delay := (held (u 1) 1 255).toNat }
      writes 1 { w.staging with site := some site }
        (out (uu 0) 1 1440 ∨ out (uu 2) 10 5000 ∨ out (uu 4) 500 20000 ∨ out (u 6) 1 8 ∨ out (u32 body 7) 60 86400 ∨
          out (u 11) 0 15 ∨ out (uu 12) 0 2000 ∨ out (uu 14) 1 1000 ∨ out (u 16) 0 1) ∧
      writes 2 { w.staging with zone := some zone }
        (out (s8 0) (-48) 56 ∨ out (s8 1) (-48) 56 ∨ ruleOut 2 ∨ ruleOut 7) ∧
      writes 3 { w.staging with trim := some (held s32 (-3276800) 3276800) } (out s32 (-3276800) 3276800) ∧
      writes 4 { w.staging with alert := some alert } (out (u 0) 1 15 ∨ out (u 1) 1 255))

/-- R119, R167, R170: LOAD_COMPLETION, 1 ms after the read: the parameter set, its source and the clamp flag; F from TRIM; the current
offset, the standard one while the time is UNSET, as it is at every completion after a reset (R169), and the rules' one with a catch-up
build when it is SET; the alarm of the load; from LOADING the standing SURVEY in phase WATCHING with the silence timer from zero, and the
decoder HUNTING when the filter holds a level, while FAULTED(OSC) stays as it is; the status stream begun and ALERT_N judged. R166, R168:
every field that a walk which ends well leaves, or that DEFAULTS hold, lies within its range, and EPOCH_TOL is at most half of
RESCUE_GRACE. -/
def Obligations.LoadCompletionPutsTheSetInForce : Prop :=
  (∀ (now : Instant) (s : State), s.load.phase = .walking ∨ s.load.phase = .ending → s.load.doneClk = some now.clk →
    ∃ t, exec (.loadCompletion now) s = .next t ∧ t.load.phase = .done ∧ t.load.result = s.load.result ∧
      t.load.slot = s.load.slot ∧
      (s.load.result = some .ok →
        t.load.params = s.load.staging.params ∧ t.load.source = some .image ∧ t.load.clamp = s.load.clamp) ∧
      (s.load.result ≠ some .ok →
        t.load.params = Params.defaults ∧ t.load.source = some .defaults ∧ t.load.clamp = false ∧
        t.holds .configDefaults = true) ∧
      (s.load.result = some .ok → s.load.clamp = true → t.holds .configClamped = true) ∧
      t.timer.f = t.load.params.trim.getD s.timer.f ∧ t.timer.a = s.timer.a ∧ t.timer.length = s.timer.length ∧
      t.timer.nextEpoch = s.timer.nextEpoch ∧
      (s.ctl.standing = .loading →
        t.ctl.standing = .survey .watching ∧ t.ctl.pendingJoin = false ∧ t.ctl.silenceFrom = some now.tick ∧
        t.ctl.silence = false ∧
        (s.timer.monitor = .up → s.key.level.isSome = true → s.line.decoder = .idle → t.line.decoder = .hunting)) ∧
      (s.ctl.standing ≠ .loading → t.ctl = s.ctl ∧ t.line = s.line) ∧
      t.maint.nextRepetition = some now.clk ∧ t.acknowledges (0x4C + s.load.slot) = true ∧
      (t.maint.alertN = true ↔
        s.maint.alertN = true ∨ t.load.params.alert.count ≤ t.maint.raisings ∨
        ∃ c ∈ t.maint.alertFrom, t.load.params.alert.delay * 1000000 ≤ now.clk - c) ∧
      t.ref = s.ref ∧
      (s.time.n = none →
        t.time = { s.time with offset := t.load.params.standardOffset } ∧ t.schedule = s.schedule ∧ t.frames = s.frames ∧
        t.key = s.key ∧ t.maint.counters = s.maint.counters ∧
        (s.load.result = some .ok →
          t.maint.alarms = (if s.load.clamp then raiseIn .configClamped none s.maint.alarms else s.maint.alarms)) ∧
        (s.load.result ≠ some .ok → t.maint.alarms = raiseIn .configDefaults none s.maint.alarms)) ∧
      ∀ n, s.time.n = some n →
        t.time = { s.time with offset := offsetFromRules t.load.params n } ∧
        ∃ f, t.frames.current = some f ∧ f.n0 = n - n % 60 ∧ f.kind = .catchUp) ∧
  (ParamsInRange Params.defaults ∧
  ∀ image : List Byte, (walkImage image).result = .ok → ParamsInRange (walkImage image).walked.staging.params)

/-! ## The oscillator -/

/-- R18, R20, R25, R94, R119: OSC_MONITOR_UP at 10,000,000 ticks of a run makes the first epoch, whose second flywheels; the edge filter
takes samples from there on, with no level; a keyer in FAULTED(OSC) becomes SURVEY, or LOADING while the load goes on. The second that begins there has no drive instant of its own, so that none is opened
on KEY, which is the model's reading (notes/assumptions/9.md), as is that KEY is sampled from the tick of that epoch on
(notes/assumptions/7.md). OSC_GAP_WHILE_DOWN starts the run again. -/
def Obligations.StableRunMakesTheFirstEpoch : Prop :=
  (∀ (now : Instant) (s : State), s.load.phase ≠ .held → s.timer.monitor = .down →
    s.timer.runFrom + 10000000 = now.tick → Flywheels s →
    ∃ t, exec (.oscMonitorUp now) s = .next t ∧ t.timer.monitor = .up ∧ t.timer.epoch = some now.tick ∧
      t.timer.f = s.timer.f ∧ t.timer.a = (s.timer.a + s.timer.f) % 65536 ∧
      t.timer.length = 10000000 + (s.timer.a + s.timer.f) / 65536 ∧
      t.timer.nextEpoch = some (now.tick + t.timer.length) ∧
      t.timer.nextDrive = some (now.tick + t.timer.length - 10 * (s.load.params.site.keyAdvance : Int)) ∧
      t.timer.driveTaken = false ∧
      (s.ctl.standing = .faultedOsc → s.load.phase = .done →
        t.ctl.standing = .survey .watching ∧ t.ctl.silenceFrom = some now.tick) ∧
      (s.ctl.standing = .faultedOsc → s.load.phase ≠ .done → t.ctl.standing = .loading) ∧
      (s.ctl.standing ≠ .faultedOsc → t.ctl.standing = s.ctl.standing) ∧
      t.ref = s.ref ∧ t.time = s.time ∧ t.schedule = s.schedule ∧ t.frames = s.frames ∧
      t.key = { s.key with level := none, levelFrom := some now.tick, run := none } ∧
      t.load = s.load ∧ t.maint = s.maint) ∧
  ∀ (now : Instant) (s : State), s.load.phase ≠ .held → s.timer.monitor = .down →
    exec (.oscGapWhileDown now) s = .next { s with
      tick := now.tick, clk := now.clk, timer := { s.timer with runFrom := now.tick } }

/-- R19: an oscillator loss, block by block, with what R116, R121, R122 and R143 keep. -/
def Obligations.OscillatorLossEffects : Prop :=
  ∀ (now : Instant) (s : State), s.timer.monitor = .up →
    ∃ t, exec (.oscillatorLoss now) s = .next t ∧
      (t.key.drive = .released ∧ t.keyPulled = false ∧ t.key.intended = none ∧ t.key.level = none ∧
        t.key.levelFrom = none ∧ t.key.run = none ∧ t.key.edges = [] ∧ t.key.opens = [] ∧
        t.key.tallies = Tallies.empty ∧ t.key.conflictStreak = 0 ∧ t.key.timingStreak = 0 ∧ t.key.faultRun = 0 ∧
        t.key.ring = s.key.ring ∧ t.key.lastVerdict = s.key.lastVerdict) ∧
      (t.ctl.standing = .faultedOsc ∧ t.ctl.pendingJoin = false ∧ t.ctl.pendingWithdraw = false ∧
        t.ctl.faultReport = false ∧ t.ctl.silenceFrom = none ∧ t.ctl.silence = false ∧ t.ctl.copy = none ∧
        t.ctl.floor = none ∧ t.ctl.lastComparison = s.ctl.lastComparison ∧ t.ctl.test.state = .idle ∧
        (s.ctl.test.state ≠ .idle → t.ctl.test.result = .aborted) ∧
        (s.ctl.test.state = .idle → t.ctl.test.result = s.ctl.test.result)) ∧
      t.ref = RefUnit.reset ∧
      (t.time.n = none ∧ t.time.origin = none ∧ t.time.age = none ∧ t.time.leap60 = false ∧
        t.time.pendingReset = none ∧ t.time.pendingSet = none ∧ t.cls = .u ∧ t.time.offset = s.time.offset) ∧
      t.schedule = [] ∧
      (t.frames.current = none ∧ t.frames.next = none ∧ t.frames.latch = none ∧ t.frames.rebuilds = s.frames.rebuilds) ∧
      (t.timer.monitor = .down ∧ t.timer.a = 0 ∧ t.timer.source = .noSource ∧ t.timer.heldRef = none ∧
        t.timer.heldLine = none ∧ t.timer.heldStep = none ∧ t.timer.lastError = none ∧ t.timer.receivedMarker = none ∧
        t.timer.usedMarker = none ∧ t.timer.nextEpoch = none ∧ t.timer.f = s.timer.f) ∧
      (t.line.decoder = .idle ∧ t.line.assembly = none ∧ t.line.candidate = none ∧ t.line.notice = none ∧
        t.line.last = s.line.last ∧ t.line.lastBreak = s.line.lastBreak) ∧
      (t.maint.alarms = raiseIn .oscLost s.time.n s.maint.alarms ∧ t.maint.counters = s.maint.counters ∧
        t.maint.snapshot = s.maint.snapshot) ∧
      t.load = s.load

/-! ## The second and its count -/

/-- R22 to R25: at an EPOCH the second length follows the sample of the source's kind: F by e × 256 / n while n is at most 120, P by e / 8,
and the whole ticks of A + F. Without a sample of that kind, or with the source NONE, the second flywheels. Both samples are spent, also
where a held step is taken (notes/assumptions/25.md), and the next epoch and drive instant follow from L (R3, R17). R22: a phase error
is the difference of ticks wrapped into −5,000,000 to +4,999,999, less the record's correction in ticks, rounded to the nearest with
halves away from zero. -/
def Obligations.SecondLengthFollowsTheSample : Prop :=
  (∀ (now : Instant) (s : State), EpochDue now s →
    ∃ t, exec (.epoch now) s = .next t ∧ t.timer.epoch = some now.tick ∧
      t.timer.nextEpoch = some (now.tick + t.timer.length) ∧
      t.timer.nextDrive = some (now.tick + t.timer.length - 10 * (s.load.params.site.keyAdvance : Int)) ∧
      t.timer.driveTaken = false ∧ t.timer.heldRef = none ∧ t.timer.heldLine = none ∧
      let corrects (f p : Int) : Prop :=
        t.timer.f = f ∧ t.timer.length = 10000000 + p + (s.timer.a + f) / 65536 ∧
          t.timer.a = s.timer.a + f - 65536 * ((s.timer.a + f) / 65536)
      let mayUse (e : Int) : Prop := s.ctl.standing = .active ∨ (s.timer.heldStep = none ∧ -1000 ≤ e ∧ e ≤ 1000)
      let limited (f : Int) : Int := max (-3276800) (min 3276800 f)
      let phase (e : Int) : Int := max (-20) (min 20 (e.tdiv 8))
      (∀ e, s.ref.state = .locked → s.timer.heldRef = some e → mayUse e →
        corrects (limited (s.timer.f + e * 256)) (phase e) ∧ t.timer.source = .ref ∧ t.timer.lastError = some e) ∧
      (∀ e m, s.ref.state ≠ .locked → s.load.params.site.lineDiscipline = true → s.timer.receivedMarker = some m →
        m + 1 ≤ 120 → s.timer.heldLine = some e → mayUse e →
        t.timer.source = .line ∧ t.timer.lastError = some e ∧ t.timer.usedMarker = some 0 ∧
        (∀ u, s.timer.usedMarker = some u → u + 1 ≤ 120 →
          corrects (limited (s.timer.f + (e * 256).tdiv (u + 1))) (phase e)) ∧
        ((∀ u, s.timer.usedMarker = some u → 120 < u + 1) → corrects s.timer.f (phase e))) ∧
      let noStep : Prop := s.timer.heldStep = none ∨ s.ctl.standing = .active
      let flywheels : Prop := corrects s.timer.f 0 ∧ t.timer.lastError = s.timer.lastError
      (s.timer.heldRef = none → s.timer.heldLine = none → noStep → flywheels) ∧
      (s.ref.state = .locked → s.timer.heldRef = none → noStep → flywheels ∧ t.timer.source = .ref) ∧
      (s.ref.state ≠ .locked →
        (s.load.params.site.lineDiscipline = false ∨ ∀ m ∈ s.timer.receivedMarker, 120 < m + 1) →
        t.timer.source = .noSource ∧ (noStep → flywheels))) ∧
  ((∀ d : Int, -5000000 ≤ wrapError d ∧ wrapError d ≤ 4999999 ∧ (d - wrapError d) % 10000000 = 0) ∧
  (∀ ns : Int, 0 ≤ ns → 100 * correctionTicks ns - 50 ≤ ns ∧ ns < 100 * correctionTicks ns + 50) ∧
  (∀ ns : Int, correctionTicks (-ns) = -correctionTicks ns) ∧
  ∀ tick epoch ns : Int, refError tick epoch ns = wrapError (tick - epoch) - correctionTicks ns)

/-- R26, R45, R52, R125, R152: while not ACTIVE a held step, and without one a used sample of the source REF or LINE of more than 1,000
ticks, fixes L = 10,000,000 + e and leaves F and A; a sample used so is the last phase error, and a held step is not
(notes/assumptions/25.md). The step is a phase re-set: it clears the leap-60 flag and has its catch-up build, with the comparison floor
at that frame. R141: it aborts a self-test that keys its test frame, and leaves one whose closing MARK has begun. While ACTIVE a held
step is discarded. -/
def Obligations.StepsAreTakenOffTheLine : Prop :=
  ∀ (now : Instant) (s : State), EpochDue now s →
    ∃ t, exec (.epoch now) s = .next t ∧
      (s.ctl.standing = .active → t.timer.heldStep = none) ∧
      ∀ e, s.ctl.standing ≠ .active →
        let large : Prop := s.timer.heldStep = none ∧ (e < -1000 ∨ 1000 < e)
        let refStep : Prop := large ∧ s.ref.state = .locked ∧ s.timer.heldRef = some e
        let lineStep : Prop := large ∧ s.ref.state ≠ .locked ∧ s.load.params.site.lineDiscipline = true ∧
          (∃ m, s.timer.receivedMarker = some m ∧ m + 1 ≤ 120) ∧ s.timer.heldLine = some e
        (s.timer.heldStep = some e ∨ refStep ∨ lineStep) →
        t.timer.length = 10000000 + e ∧ t.timer.f = s.timer.f ∧ t.timer.a = s.timer.a ∧ t.ctl.pendingJoin = false ∧
        t.time.leap60 = false ∧ (s.time.pendingReset = none → t.timer.heldStep = none) ∧
        (refStep → t.timer.source = .ref ∧ t.timer.lastError = some e) ∧
        (lineStep → t.timer.source = .line ∧ t.timer.lastError = some e ∧ t.timer.usedMarker = some 0) ∧
        (s.timer.heldStep = some e → t.timer.lastError = s.timer.lastError) ∧
        (s.ctl.test.state = .running → s.ctl.test.closeDrive = none →
          t.ctl.test.state = .idle ∧ (s.time.rangeEnding = false → t.ctl.test.result = .aborted)) ∧
        (s.ctl.test.state = .running → s.ctl.test.closeDrive ≠ none → s.time.rangeEnding = false →
          t.ctl.test = s.ctl.test) ∧
        ∀ n, t.time.n = some n → s.ctl.standing ≠ .loading →
          ∃ f, t.frames.current = some f ∧ f.n0 = n - n % 60 ∧ f.kind = .catchUp ∧ t.ctl.floor = some f.n0

/-- R27: F stays within its limits, A + F and q within theirs, and every second whose length is fixed while the standing is ACTIVE lies
within 70 ticks of nominal, with |P| at most 20 and |q| at most 50. -/
def Obligations.ActiveSecondsStayNearNominal : Prop :=
  (∀ (c : Instr) (s t : State), TimerSafe s → exec c s = .next t → -3276800 ≤ t.timer.f ∧ t.timer.f ≤ 3276800) ∧
  (∀ s : State, TimerSafe s →
    -3276800 ≤ s.timer.a + s.timer.f ∧ s.timer.a + s.timer.f ≤ 3342335 ∧
    -50 ≤ (s.timer.a + s.timer.f) / 65536 ∧ (s.timer.a + s.timer.f) / 65536 ≤ 50) ∧
  ∀ (now : Instant) (s : State), TimerSafe s → EpochDue now s → s.ctl.standing = .active →
    ∃ t p q, exec (.epoch now) s = .next t ∧ t.timer.length = 10000000 + p + q ∧ -20 ≤ p ∧ p ≤ 20 ∧ -50 ≤ q ∧ q ≤ 50 ∧
      q = (s.timer.a + t.timer.f) / 65536 ∧ t.timer.a = s.timer.a + t.timer.f - 65536 * q ∧
      9999930 ≤ t.timer.length ∧ t.timer.length ≤ 10000070

/-- R17, R44, R50: the EPOCH of a plain second. N and the time age gain one; with no sample, no entry due, no build due and no change of
class, the blocks besides stay as they are. R51: at the EPOCH at which the age passes HOLD_LIMIT the class falls from B to C and
TIME_AGED is raised. -/
def Obligations.PlainEpochAdvancesCountAndAge : Prop :=
  (∀ (now : Instant) (s : State) (n : Int), EpochDue now s → AdvancesPlainly n s → Flywheels s → n + 1 < 3155759999 →
    (∀ e ∈ s.schedule, e.instant ≠ n + 1) → (n + 1) % 86400 ≠ 0 → (∀ f ∈ s.frames.next, f.stale = false) →
    (s.frames.next = none → ∀ f ∈ s.frames.current, n + 1 ≠ f.n0 + 45) →
    (∀ age ∈ s.time.age, age ≠ s.load.params.site.holdLimit ∧ age < 4294967295) →
    ∃ t, exec (.epoch now) s = .next t ∧
      t.time = { s.time with n := some (n + 1), leap60 := false, age := s.time.age.map (· + 1) } ∧
      t.timer.f = s.timer.f ∧ t.timer.length = 10000000 + (s.timer.a + s.timer.f) / 65536 ∧
      t.timer.nextEpoch = some (now.tick + t.timer.length) ∧
      t.ref = s.ref ∧ t.schedule = s.schedule ∧ t.frames = s.frames ∧ t.key = s.key ∧ t.line = s.line ∧ t.ctl = s.ctl ∧
      t.load = s.load ∧ t.maint = s.maint) ∧
  (∀ (now : Instant) (s : State) (n : Int), EpochDue now s → AdvancesPlainly n s → n + 1 < 3155759999 →
    s.ref.state ≠ .locked → s.time.origin = some .ref → s.time.age = some s.load.params.site.holdLimit →
    s.load.params.site.holdLimit < 4294967295 →
    s.cls = .b ∧ ∃ t, exec (.epoch now) s = .next t ∧ t.cls = .c ∧ t.time.origin = some .ref ∧
      t.time.age = some (s.load.params.site.holdLimit + 1) ∧ t.holds .timeAged = true)

/-- R45, R46, R72, R74: a committed insertion holds N for one epoch with the leap-60 flag set and then lets it advance, the next epoch
coming after the inserted second; a committed deletion moves N on by two; a second of a frame with a committed leap that is not yet due,
and one without, advances N by one; and every entry whose instant N reaches retires, an OFFSET entry setting the current offset, which
otherwise stands. The entries of the leap's instant stay through the inserted second. R45,
R52: the flag clears when a re-set is applied; that a step at the epoch that begins the inserted second clears it there, and that the
second stays the inserted one although its flag is clear, is the model's reading (notes/assumptions/19.md). -/
def Obligations.LeapsAndOffsetsTakeEffectAtEpochs : Prop :=
  ∀ (now : Instant) (s : State) (n : Int), EpochDue now s → s.time.n = some n → s.time.rangeEnding = false →
    s.time.pendingReset = none →
    ∃ t, exec (.epoch now) s = .next t ∧
      let inserted : Prop := ∃ p rest, s.timer.past = p :: rest ∧ p.leap = .inserted
      let reaches (m : Int) : Prop :=
        t.time.n = some m ∧ t.time.leap60 = false ∧ (∀ x ∈ t.schedule, x.instant ≠ m) ∧
        (∀ e q, s.schedule.find? (fun x => decide (x.instant = m ∧ x.kind = .offset)) = some e →
          e.newOffset = some q → t.time.offset = q) ∧
        (s.schedule.find? (fun x => decide (x.instant = m ∧ x.kind = .offset)) = none → t.time.offset = s.time.offset)
      (∀ e, committedLeap s.schedule = some e → e.kind = .leapInsert → e.instant = n + 1 → ¬ inserted →
        t.time.n = some n ∧ (∃ p rest, t.timer.past = p :: rest ∧ p.leap = .inserted) ∧
        ((s.ctl.standing = .active ∨ Flywheels s) → t.time.leap60 = true) ∧
        (s.ctl.standing ≠ .active → s.timer.heldStep.isSome = true → t.time.leap60 = false) ∧
        ((∀ x ∈ s.schedule, n < x.instant) → e.instant % 86400 = 0 →
          t.time.offset = s.time.offset ∧ ∀ x ∈ s.schedule, x.instant = e.instant → x ∈ t.schedule)) ∧
      (∀ e, committedLeap s.schedule = some e → e.kind = .leapInsert → e.instant = n + 1 → inserted → n < 3155759999 →
        reaches (n + 1)) ∧
      (∀ e, committedLeap s.schedule = some e → e.kind = .leapDelete → e.instant = n + 2 → n + 2 ≤ 3155759999 →
        reaches (n + 2)) ∧
      (∀ e, committedLeap s.schedule = some e →
        ((e.kind = .leapInsert ∧ e.instant ≠ n + 1) ∨ (e.kind = .leapDelete ∧ e.instant ≠ n + 2)) → n < 3155759999 →
        reaches (n + 1)) ∧
      (committedLeap s.schedule = none → n < 3155759999 → reaches (n + 1))

/-- R48, R49: the EPOCH that begins the last count marks the range as ending and clears the pending join; the EPOCH after it makes the
time UNSET, empties frames, latch and schedule, sends the reference to NOREF and takes DEFERRED to SURVEY. No command but an EPOCH, a
RESET and an OSCILLATOR_LOSS clears the mark. That a re-set applied between the two epochs leaves it, and the time UNSET at the second, is
the model's reading of R49, as is that a LEAP_INSERT committed for the end of the range brings no inserted second
(notes/assumptions/17.md). -/
def Obligations.CountRangeEndsUnset : Prop :=
  (∀ (now : Instant) (s : State), EpochDue now s → AdvancesPlainly 3155759998 s →
    ∃ t, exec (.epoch now) s = .next t ∧ t.time.n = some 3155759999 ∧ t.time.rangeEnding = true ∧
      t.ctl.pendingJoin = false ∧ t.ctl.standing = s.ctl.standing) ∧
  (∀ (now : Instant) (s : State) (n : Int), EpochDue now s → s.time.n = some n → s.time.rangeEnding = true →
    ∃ t, exec (.epoch now) s = .next t ∧ t.time.n = none ∧ t.time.origin = none ∧ t.time.age = none ∧
      t.time.leap60 = false ∧ t.time.pendingReset = none ∧ t.time.rangeEnding = false ∧ t.cls = .u ∧
      t.time.offset = s.time.offset ∧ t.schedule = [] ∧ t.frames.current = none ∧ t.frames.next = none ∧
      t.frames.latch = none ∧ t.ref = RefUnit.reset ∧ t.ctl.pendingJoin = false ∧
      (s.ctl.standing = .deferred → t.ctl.standing = .survey .watching) ∧
      (s.ctl.standing ≠ .deferred → t.ctl.standing = s.ctl.standing)) ∧
  (∀ (d : Int) (s : State), s.time.rangeEnding = true → (s.applyCountReset d).time.rangeEnding = true) ∧
  ∀ (c : Instr) (s t : State), s.time.rangeEnding = true → exec c s = .next t → (∀ now, c ≠ .epoch now) →
    (∀ now, c ≠ .reset now) → (∀ now, c ≠ .oscillatorLoss now) → t.time.rangeEnding = true

/-- R47, R52, R53, R75: at its epoch a pending SET gives N its count, with origin REF and age 0; and at the first epoch off the line a
pending re-set with a count part adds its difference to N, holds its phase part, if it has one, as a step, prunes the schedule, drops its
commitments, removes the LINE entries when the class is A, runs the rule expander, finds the offset again and makes a catch-up build at
the comparison floor. One with a phase part alone holds that step and makes the catch-up build, while N advances, entries retire and the
schedule and offset besides stay. On the line a pending re-set stays held and N advances. R66: the
rule expander runs at the time SET as well; `OffersAreTestedAndPlaced` says what a run offers. R49: the mark of the range's end then
stands exactly when the sum is the last count, which is the model's reading of the epoch that begins that count (notes/assumptions/17.md).
That the LINE entries leave before the rule expander runs is the model's choice (notes/assumptions/36.md). -/
def Obligations.HeldCountsAreTakenAtAnEpoch : Prop :=
  (∀ (now : Instant) (s : State) (p : PendingSet), EpochDue now s → s.time.n = none → s.time.pendingSet = some p →
    p.epoch = now.tick → p.origin = .ref → s.time.pendingReset = none → s.schedule = [] →
    ∃ t, exec (.epoch now) s = .next t ∧ t.time.n = some p.count ∧ t.time.origin = some .ref ∧ t.time.age = some 0 ∧
      t.time.pendingSet = none ∧ t.time.leap60 = false ∧ t.time.offset = offsetFromRules s.load.params p.count ∧
      (p.count % 86400 ≠ 0 → ∃ u : State, u.time.n = some p.count ∧ u.load = s.load ∧ u.schedule = [] ∧
        t.schedule = u.expandRules.schedule) ∧
      (s.ctl.standing ≠ .loading →
        ∃ f, t.frames.current = some f ∧ f.n0 = p.count - p.count % 60 ∧ f.kind = .catchUp)) ∧
  (∀ (now : Instant) (s : State) (n : Int), EpochDue now s → s.time.n = some n → s.time.rangeEnding = false →
    committedLeap s.schedule = none → n < 3155759999 →
    ∃ t, exec (.epoch now) s = .next t ∧
      (s.ctl.standing = .active → t.time.n = some (n + 1) ∧ t.time.pendingReset = s.time.pendingReset) ∧
      ∀ e, s.ctl.standing ≠ .active → s.time.pendingReset = some { difference := none, phase := some e } →
        t.time.n = some (n + 1) ∧ t.time.pendingReset = none ∧ t.time.leap60 = false ∧ t.timer.heldStep = some e ∧
        t.ctl.pendingJoin = false ∧ (t.time.rangeEnding = true ↔ n + 1 = 3155759999) ∧
        ((n + 1) % 86400 ≠ 0 → t.schedule = s.schedule.filter (fun x => decide (x.instant ≠ n + 1))) ∧
        ((∀ x ∈ s.schedule, x.instant ≠ n + 1) → t.time.offset = s.time.offset) ∧
        (s.ctl.standing ≠ .loading →
          ∃ f, t.frames.current = some f ∧ f.n0 = (n + 1) - (n + 1) % 60 ∧ f.kind = .catchUp ∧ t.ctl.floor = some f.n0)) ∧
  ∀ (now : Instant) (s : State) (n d : Int) (phase : Option Int), EpochDue now s → s.ctl.standing ≠ .active →
    s.time.n = some n → s.time.rangeEnding = false → committedLeap s.schedule = none → n < 3155759999 →
    s.time.pendingReset = some { difference := some d, phase := phase } → d ≠ 0 →
    0 ≤ n + 1 + d → n + 1 + d ≤ 3155759999 →
    ∃ t, exec (.epoch now) s = .next t ∧ t.time.n = some (n + 1 + d) ∧ t.time.pendingReset = none ∧
      t.time.leap60 = false ∧ t.timer.heldStep = phase ∧ t.ctl.pendingJoin = false ∧
      t.time.offset = offsetFromRules s.load.params (n + 1 + d) ∧
      (∀ x ∈ t.schedule, n + 1 + d < x.instant ∧ x.committed = false) ∧
      (t.cls = .a → ∀ x ∈ t.schedule, x.source ≠ .line) ∧ (t.time.rangeEnding = true ↔ n + 1 + d = 3155759999) ∧
      ((n + 1 + d) % 86400 ≠ 0 → ∃ u : State, u.time.n = some (n + 1 + d) ∧ u.load = s.load ∧
        u.schedule = ((s.schedule.filter (fun x => decide (n + 1 + d < x.instant ∧ (x.source = .line → t.cls ≠ .a)))).map
          (fun x => { x with committed := false })) ∧
        t.schedule = u.expandRules.schedule) ∧
      (s.ctl.standing ≠ .loading →
        ∃ f, t.frames.current = some f ∧ f.n0 = (n + 1 + d) - (n + 1 + d) % 60 ∧ f.kind = .catchUp ∧
          t.ctl.floor = some f.n0)

/-- R83, R84: at the EPOCH of index 45 of the current frame, with no next frame held, the next frame is built ON_TIME for the following
minute: 61 or 59 symbols when the schedule holds a leap entry at its end, committed or not, and 60 otherwise. R78, R87: each change that
an offer, a cancellation, the class-A removal, a re-set's removals, a rule-expander run, a retirement or a commitment makes to the
schedule marks a held next frame stale, and what changes nothing marks nothing. R88: at an EPOCH a stale next frame is built again ON_TIME
for the same minute, from the schedule as it stands, and one more rebuild is counted; one that is not stale stands (R83). -/
def Obligations.BuildPointMakesTheNextFrame : Prop :=
  (∀ (now : Instant) (s : State) (n : Int) (f : Frame), EpochDue now s → AdvancesPlainly n s → Flywheels s →
    n + 1 < 3155759999 → s.frames.current = some f → f.n0 + 45 = n + 1 → s.frames.next = none →
    s.ctl.standing ≠ .loading → (∀ e ∈ s.schedule, e.instant ≠ n + 1) → (n + 1) % 86400 ≠ 0 →
    ∃ t g, exec (.epoch now) s = .next t ∧ t.frames.current = some f ∧ t.frames.next = some g ∧
      g.n0 = f.n0 + 60 ∧ g.kind = .onTime ∧ g.stale = false ∧ g.classAtBuild = t.cls ∧ t.schedule = s.schedule ∧
      t.frames.latch = some g.noticeWord ∧ t.frames.rebuilds = s.frames.rebuilds ∧
      ((∀ e ∈ s.schedule, e.kind.isLeap = true → e.instant ≠ g.n0 + 60) → g.symbols.length = 60) ∧
      (∀ e ∈ s.schedule, e.kind = .leapInsert → e.instant = g.n0 + 60 →
        (∀ x ∈ s.schedule, x.kind = .leapDelete → x.instant ≠ e.instant) → g.symbols.length = 61) ∧
      (∀ e ∈ s.schedule, e.kind = .leapDelete → e.instant = g.n0 + 60 →
        (∀ x ∈ s.schedule, x.kind = .leapInsert → x.instant ≠ e.instant) → g.symbols.length = 59)) ∧
  (∀ (s : State) (g : Frame), s.frames.next = some g →
    let reports (t : State) : Prop :=
      let marked : Prop := t.frames = { s.frames with next := some { g with stale := true } }
      (t.schedule ≠ s.schedule → marked) ∧ (marked ∨ t.frames = s.frames)
    let exact (t : State) : Prop := reports t ∧ (t.schedule = s.schedule → t.frames = s.frames)
    (∀ o : Offer, exact (s.offer o)) ∧ exact s.cancelRefLeaps ∧ exact s.removeLineEntries ∧
    (∀ n : Int, exact (s.pruneForReset n) ∧ exact (s.retire n)) ∧ (∀ f : Frame, exact (s.commitLeap f)) ∧ reports s.expandRules) ∧
  ∀ (now : Instant) (s : State) (n : Int) (g : Frame), EpochDue now s → AdvancesPlainly n s → Flywheels s →
    n + 1 < 3155759999 → s.frames.next = some g → (∀ e ∈ s.schedule, e.instant ≠ n + 1) → (n + 1) % 86400 ≠ 0 →
    ∃ t, exec (.epoch now) s = .next t ∧ t.schedule = s.schedule ∧
      (g.stale = false → t.frames = s.frames) ∧
      (g.stale = true → ∃ word, word = buildWord g.n0 s ∧ t.frames = { s.frames with
        next := some (frameFor g.n0 .onTime word t), latch := some word
        rebuilds := if s.frames.rebuilds < 255 then s.frames.rebuilds + 1 else 255 })

/-! ## The calendar -/

/-- R54, R55, R57, R58: the inverse calendar undoes the conversion of a day, whose day of year lies within its year; and a rule's instant
stands at its minute of a day of its weekday, in its month, in the week its ordinal names, 5 being the last. -/
def Obligations.CalendarAndRuleInstantsAgree : Prop :=
  (∀ d : Int, dayNumber (yearOf d) (dayOfYear d) = d ∧ 1 ≤ dayOfYear d ∧
    dayOfYear d ≤ (if yearOf d % 4 = 0 then 366 else 365) ∧ weekdayOf (d + 7) = weekdayOf d ∧ 1 ≤ weekdayOf d ∧
    weekdayOf d ≤ 7) ∧
  ∀ (rule : OffsetRule) (y : Int), RuleInRange rule → 1999 ≤ y → y ≤ 2100 →
    let t := ruleInstant rule y
    let day := dayOf t
    let first := dayNumber y (monthStart (leapYear y) rule.month)
    t % 86400 = 60 * (rule.minute : Int) ∧ weekdayOf day = (rule.weekday : Int) ∧ first ≤ day ∧
    day < first + monthLength (leapYear y) rule.month ∧ yearOf day = y ∧
    (rule.ordinal ≠ 5 → first + 7 * ((rule.ordinal : Int) - 1) ≤ day ∧ day < first + 7 * (rule.ordinal : Int)) ∧
    (rule.ordinal = 5 → first + monthLength (leapYear y) rule.month - 7 ≤ day)

/-! ## The Change Schedule -/

/-- R61 to R64: an offer while UNSET is discarded; a LINE offer at class A is discarded; an instant not later than N or past the range,
and a leap that is no month end, are refused, a leap kind counting one in LEAP_REFUSED; an offset out of range is refused without a count.
An offer of an entry's instant and kind merges into it by the ranks of the two sources; a leap of the other sign replaces an uncommitted
entry that does not outrank it, and is otherwise refused. R60, R65: an offer, of a leap or of an offset, whose instant has no entry of its
family joins a list of fewer than 8 at its place, also beside an entry of the other family; of a full list it evicts the last entry when
it stands before it, and is dropped when it does not. A drop and an eviction each count one in SCHED_DROPS and raise SCHED_FULL. R66, R67:
a run of the rule expander offers, with source RULE and in ascending order, the START and END instants of the present year and the next
that are later than N, START with the summer offset and END with the standard one; without a ZONE record, and while UNSET, it offers
nothing. It runs at the EPOCH that begins a UTC year, once the entries of that instant have retired. -/
def Obligations.OffersAreTestedAndPlaced : Prop :=
  (∀ (o : Offer) (s : State),
    (s.time.n = none → s.offer o = s) ∧
    ∀ n, s.time.n = some n →
      let refused : State := { s with maint := { s.maint with counters := s.maint.counters.addLeapRefused } }
      let lineOk : Prop := o.source ≠ .line ∨ s.cls ≠ .a
      let timeOk : Prop := n < o.instant ∧ o.instant ≤ 3155760000
      let dayOk : Prop := o.instant % 86400 = 0 ∧ monthEnd (o.instant / 86400 - 1) = true
      let leap : Prop := o.kind = .leapInsert ∨ o.kind = .leapDelete
      (¬ lineOk → s.offer o = s) ∧
      (lineOk → ¬ timeOk → leap → s.offer o = refused) ∧
      (lineOk → ¬ timeOk → o.kind = .offset → s.offer o = s) ∧
      (lineOk → timeOk → leap → ¬ dayOk → s.offer o = refused) ∧
      (∀ q, lineOk → timeOk → o.kind = .offset → o.newOffset = some q → (q < -48 ∨ 56 < q) → s.offer o = s) ∧
      ∀ pre e post, s.schedule = pre ++ e :: post → e.instant = o.instant →
        (∀ x ∈ pre ++ post, x.instant ≠ o.instant ∨ (x.kind = .offset ∧ o.kind ≠ .offset) ∨
          (x.kind ≠ .offset ∧ o.kind = .offset)) →
        lineOk → timeOk → ((leap ∧ dayOk) ∨ (o.kind = .offset ∧ ∃ q, o.newOffset = some q ∧ -48 ≤ q ∧ q ≤ 56)) →
        let becomes (e' : Entry) : Prop := (s.offer o).schedule = pre ++ e' :: post ∧ (s.offer o).maint = s.maint ∧
          (s.offer o).time = s.time ∧ (e' = e → s.offer o = s)
        let outranks (a b : Source) : Prop := (a = .ref ∧ b ≠ .ref) ∨ (a = .rule ∧ b = .line)
        (e.kind = o.kind →
          (e.committed = true → becomes e) ∧
          (e.committed = false →
            (outranks o.source e.source → becomes { e with source := o.source, newOffset := o.newOffset }) ∧
            (outranks e.source o.source → becomes e) ∧
            (o.source = .ref → e.source = .ref → becomes e) ∧
            (o.source = .line → e.source = .line → becomes { e with newOffset := o.newOffset }) ∧
            (o.source = .rule → e.source = .rule →
              let standard := some s.load.params.standardOffset
              ((o.newOffset = standard ∨ e.newOffset = standard) → becomes { e with newOffset := standard }) ∧
              (o.newOffset ≠ standard → e.newOffset ≠ standard → becomes e)))) ∧
        (leap → e.kind ≠ o.kind → e.kind ≠ .offset →
          ((e.committed = true ∨ outranks e.source o.source) → s.offer o = refused) ∧
          (e.committed = false → ¬ outranks e.source o.source →
            becomes { instant := o.instant, kind := o.kind, newOffset := o.newOffset, source := o.source
                      committed := false }))) ∧
  (∀ (o : Offer) (s : State) (n : Int), s.time.n = some n → ScheduleSafe s →
    (o.source ≠ .line ∨ s.cls ≠ .a) → n < o.instant → o.instant ≤ 3155760000 → o.instant % 60 = 0 →
    ((o.kind = .offset ∧ ∃ q, o.newOffset = some q ∧ -48 ≤ q ∧ q ≤ 56) ∨
      (o.kind ≠ .offset ∧ o.newOffset = none ∧ o.instant % 86400 = 0 ∧ monthEnd (o.instant / 86400 - 1) = true)) →
    (∀ e ∈ s.schedule, e.instant = o.instant → (e.kind = .offset ↔ o.kind ≠ .offset)) →
    let e : Entry :=
      { instant := o.instant, kind := o.kind, newOffset := o.newOffset, source := o.source, committed := false }
    let full : Prop :=
      (s.offer o).maint.counters = s.maint.counters.addSchedDrop ∧
      (s.offer o).maint.alarms = raiseIn .schedFull (some n) s.maint.alarms
    (s.offer o).time = s.time ∧ (s.offer o).schedule.Pairwise (fun a b => a.before b = true) ∧
    (s.schedule.length < 8 →
      (s.offer o).schedule.Perm (e :: s.schedule) ∧ (s.offer o).maint = s.maint) ∧
    ∀ pre last, s.schedule = pre ++ [last] → pre.length = 7 →
      let first : Prop := o.instant < last.instant ∨ (o.instant = last.instant ∧ last.kind = .offset)
      full ∧ (first → (s.offer o).schedule.Perm (e :: pre)) ∧ (¬ first → (s.offer o).schedule = s.schedule)) ∧
  (∀ s : State,
    ((s.time.n = none ∨ s.load.params.zone = none) → s.expandRules = s) ∧
    ∀ n z, s.time.n = some n → s.load.params.zone = some z →
      let y := yearOf (n / 86400)
      let offers (t q : Int) : Offer := { instant := t, kind := .offset, newOffset := some q, source := .rule }
      ∃ run : List Offer,
        run.Perm ([offers (ruleInstant z.startRule y) z.summer, offers (ruleInstant z.endRule y) z.standard,
          offers (ruleInstant z.startRule (y + 1)) z.summer, offers (ruleInstant z.endRule (y + 1)) z.standard].filter
            (fun o => decide (n < o.instant))) ∧
        run.Pairwise (fun a b => a.instant ≤ b.instant) ∧ s.expandRules = run.foldl (fun u o => u.offer o) s) ∧
  ∀ (now : Instant) (s : State) (n : Int), EpochDue now s → AdvancesPlainly n s → Flywheels s → n + 1 < 3155759999 →
    (n + 1) % 86400 = 0 → dayOfYear ((n + 1) / 86400) = 1 →
    ∃ t u : State, exec (.epoch now) s = .next t ∧ t.time.n = some (n + 1) ∧ u.time.n = some (n + 1) ∧ u.load = s.load ∧
      u.schedule = s.schedule.filter (fun e => decide (e.instant ≠ n + 1)) ∧ t.schedule = u.expandRules.schedule

/-! ## Frames -/

/-- R5, R8, R11 to R15, R81, R84, R149, R150, R183: what the Frame Builder writes, the Line Reader reads. A frame built for a minute whose
local time lies in the years 2000 to 2099 passes every check of a line frame, of 59, 60 or 61 symbols, and its fields read back as the
frame start, the offset carried, the local fields and the notice segment it was built from. R8 to R10, R76: its offset is that of the
OFFSET entry at its start, or else the current one; LP, at index 1, is LONG when the window of a leap entry holds its start, and LS, at
index 3, when the first of those is a LEAP_DELETE; OC, at index 2, when the window of an OFFSET entry holds it whose new offset is not the
one carried; SU, at index 4, when the offset carried is not the standard offset; and each is SHORT otherwise. -/
def Obligations.BuiltFramesReadBack : Prop :=
  (∀ (s : State) (n0 : Int) (kind : BuildKind) (word : BitVec 32), ScheduleSafe s → 1 ≤ s.load.params.site.announce →
    n0 % 60 = 0 → 0 ≤ n0 →
    let f := frameFor n0 kind word s
    f.offset ≤ 56 → -48 ≤ f.offset → 0 ≤ n0 + 900 * f.offset → n0 + 900 * f.offset < 3155760000 →
    let l := localFields (n0 + 900 * f.offset)
    frameFault f.symbols = none ∧ f.symbols.head? = some .mark ∧ (∀ y ∈ f.symbols.drop 1, y ≠ .mark) ∧
    lineN0 f.symbols = n0 ∧ lineOffset f.symbols = f.offset ∧ lineMinute f.symbols = l.minute ∧
    lineHour f.symbols = l.hour ∧ lineDay f.symbols = l.dayOfYear ∧ lineYear f.symbols = l.yearOfCentury ∧
    lineWeekday f.symbols = l.weekday ∧ lineSegment f.symbols = segmentOf word f.segment ∧
    lineSegmentIndex f.symbols = f.segment ∧ ((f.segment : Int) = n0 % 86400 / 60 % 4) ∧
    (∀ e, e ∈ s.schedule → e.kind.isLeap = true → e.instant = n0 + 60 → (kind = .onTime ∨ e.committed = true) →
      f.symbols.length = if e.kind = .leapInsert then 61 else 59) ∧
    ((∀ e ∈ s.schedule, e.kind.isLeap = true → e.instant = n0 + 60 → kind = .catchUp ∧ e.committed = false) →
      f.symbols.length = 60)) ∧
  ∀ (s : State) (n0 : Int) (kind : BuildKind) (word : BitVec 32), ScheduleSafe s →
    let f := frameFor n0 kind word s
    let announced (e : Entry) : Prop := e.instant - 60 * (s.load.params.site.announce : Int) ≤ n0 ∧ n0 < e.instant
    let bit (i : Nat) (long : Prop) : Prop := (long → f.symbols[i]? = some .long) ∧ (¬ long → f.symbols[i]? = some .short)
    (∀ e ∈ s.schedule, e.kind = .offset → e.instant = n0 → e.newOffset = some f.offset) ∧
    ((∀ e ∈ s.schedule, e.kind = .offset → e.instant ≠ n0) → f.offset = s.time.offset) ∧
    bit 1 (∃ e ∈ s.schedule, e.kind ≠ .offset ∧ announced e) ∧
    bit 2 (∃ e ∈ s.schedule, e.kind = .offset ∧ announced e ∧ e.newOffset ≠ some f.offset) ∧
    bit 3 (∃ pre e post, s.schedule = pre ++ e :: post ∧ e.kind = .leapDelete ∧ announced e ∧
      ∀ x ∈ pre, x.kind = .offset ∨ ¬ announced x) ∧
    bit 4 (f.offset ≠ s.load.params.standardOffset)

/-- R14 to R16, R157: the four segments of the notice word of an entry spell that word again, its check holds, and the Line Reader makes
of it the offer of that entry, with source LINE. R156: a frame at class A, or whose segment index is not its minute's, empties the notice
assembly; segment 0 begins it at the frame's N0; the segment that follows by index and by minute joins it, and the fourth hands the offer
of the word to the schedule and empties it; any other empties it. R15, R77: the word computed for a frame names the first entry in list
order that is later than its start, when that lies at most 511 days ahead, and is NONE otherwise. R85: a build computes the word for a
segment-0 frame and for an empty latch, and takes the latched word otherwise; the frame records the word, and the latch holds it. -/
def Obligations.NoticeWordsReadBack : Prop :=
  (∀ (n0 : Int) (e : Entry), EntrySafe e → n0 / 86400 ≤ e.instant / 86400 → e.instant / 86400 - n0 / 86400 ≤ 511 →
    let word := wordOf n0 e
    wordOfSegments ((List.range 4).map (fun k => BitVec.ofNat 8 (segmentOf word k))) = word ∧
    word.toNat % 8 = noticeCheck word ∧
    offerOfWord n0 word =
      some { instant := e.instant, kind := e.kind, newOffset := e.newOffset, source := .line }) ∧
  (∀ (n0 : Int) (entries : List Entry),
    ((∀ e ∈ entries, e.instant ≤ n0) → noticeWordFor n0 entries = 0#32) ∧
    ∀ pre e post, entries = pre ++ e :: post → (∀ x ∈ pre, x.instant ≤ n0) → n0 < e.instant →
      (e.instant / 86400 - n0 / 86400 ≤ 511 → noticeWordFor n0 entries = wordOf n0 e) ∧
      (511 < e.instant / 86400 - n0 / 86400 → noticeWordFor n0 entries = 0#32)) ∧
  (∀ (n0 : Int) (s : State),
    let segment := n0 % 86400 / 60 % 4
    ∃ word f g,
      ((segment = 0 ∨ s.frames.latch = none) → word = noticeWordFor n0 s.schedule) ∧
      (∀ w, segment ≠ 0 → s.frames.latch = some w → word = w) ∧ f.noticeWord = word ∧ g.noticeWord = word ∧
      s.buildNext n0 = { s with frames := { s.frames with next := some f, latch := some word } } ∧
      s.buildCurrent n0 = { s with frames := { s.frames with current := some g, latch := some word } }) ∧
  ∀ (f : LineFrame) (s : State),
    let k := lineSegmentIndex f.symbols
    let segment : Byte := BitVec.ofNat 8 (lineSegment f.symbols)
    let holds (a : Option NoticeAssembly) : State := { s with line := { s.line with notice := a } }
    let accepted : Prop := s.cls ≠ .a ∧ (k : Int) = f.n0 % 86400 / 60 % 4
    let follows (a : NoticeAssembly) : Prop := a.segments.length = k ∧ f.n0 = a.cycleStart + 60 * (k : Int)
    (¬ accepted → s.noticeFrame f = holds none) ∧
    (accepted → k = 0 → s.noticeFrame f = holds (some { cycleStart := f.n0, segments := [segment] })) ∧
    (accepted → k ≠ 0 →
      ((∀ a ∈ s.line.notice, ¬ follows a) → s.noticeFrame f = holds none) ∧
      ∀ a, s.line.notice = some a → follows a →
        (k ≠ 3 → s.noticeFrame f = holds (some { a with segments := a.segments ++ [segment] })) ∧
        (k = 3 →
          (offerOfWord a.cycleStart (wordOfSegments (a.segments ++ [segment])) = none → s.noticeFrame f = holds none) ∧
          ∀ o, offerOfWord a.cycleStart (wordOfSegments (a.segments ++ [segment])) = some o →
            s.noticeFrame f = (holds none).offer o))

/-- R71, R90, R103, R111: at the drive instant of the swap the next frame becomes current and none stands behind it, the outgoing frame is the
comparison copy, the listen index is found and the tallies are emptied, and the leap entry at the new frame's end is committed when its
length matches. R88, R90: a next frame that is stale then is built again first, ON_TIME for the same minute, and one more rebuild is
counted. A swap missed by a catch-up build between the MARK drive instant and its epoch is made at the next drive instant, as the model
chooses (notes/assumptions/34.md). R82, R103, R111: a catch-up build makes the frame of the present minute current, finds its listen index and empties the tallies;
the next frame is built with it from index 45 on. -/
def Obligations.MarkSwapsTheFrames : Prop :=
  (∀ (now : Instant) (s : State) (g : Frame), DriveDue now s → DrivesSwap g s →
    ∃ t, exec (.driveInstant now) s = .next t ∧ t.frames = { s.frames with current := some g, next := none } ∧
      t.ctl.copy = s.frames.current ∧
      t.key.listenIndex = some (3 + 15 * s.load.slot + 2 * (g.n0 % 3600 / 60 % 6).toNat) ∧
      t.key.tallies = Tallies.empty ∧ t.time = s.time ∧ t.timer = { s.timer with driveTaken := true } ∧
      t.schedule = s.schedule.map (fun e =>
        if e.instant = g.n0 + 60 ∧ ((e.kind = .leapInsert ∧ g.symbols.length = 61) ∨
            (e.kind = .leapDelete ∧ g.symbols.length = 59)) then { e with committed := true } else e)) ∧
  (∀ (now : Instant) (s : State) (h : Frame), DriveDue now s → s.frames.next = some h → h.stale = true → SwapComes s →
    let word := buildWord h.n0 s
    let g := frameFor h.n0 .onTime word s
    ∃ t, exec (.driveInstant now) s = .next t ∧ g.n0 = h.n0 ∧ g.kind = .onTime ∧ g.stale = false ∧
      t.frames.current = some g ∧ t.frames.next = none ∧ t.frames.latch = some word ∧
      t.frames.rebuilds = (if s.frames.rebuilds < 255 then s.frames.rebuilds + 1 else 255) ∧ t.ctl.copy = s.frames.current ∧
      t.schedule = s.schedule.map (fun e =>
        if e.instant = g.n0 + 60 ∧ ((e.kind = .leapInsert ∧ g.symbols.length = 61) ∨
            (e.kind = .leapDelete ∧ g.symbols.length = 59)) then { e with committed := true } else e)) ∧
  ∀ (s : State) (n : Int), s.time.n = some n → s.ctl.standing ≠ .loading →
    let t := s.catchUp
    let n0 : Int := n - n % 60
    (∃ f, t.frames.current = some f ∧ f.n0 = n0 ∧ f.kind = .catchUp ∧ f.stale = false) ∧
    t.key.listenIndex = some (3 + 15 * s.load.slot + 2 * (n0 % 3600 / 60 % 6).toNat) ∧ t.key.tallies = Tallies.empty ∧
    (n < n0 + 45 → s.time.leap60 = false → t.frames.next = none) ∧
    ((n0 + 45 ≤ n ∨ s.time.leap60 = true) →
      ∃ g, t.frames.next = some g ∧ g.n0 = n0 + 60 ∧ g.kind = .onTime ∧ g.stale = false) ∧
    t.time = s.time ∧ t.timer = s.timer ∧ t.schedule = s.schedule ∧ t.ctl = s.ctl ∧ t.maint = s.maint

/-! ## The drive instant -/

/-- R91, R96, R104, R107: at a drive instant within a frame an ACTIVE keyer pulls KEY for the symbol of the second's index, and in the
listen second it withholds and listens; a keyer that is not ACTIVE and does not join leaves KEY released. The second is opened for its
record, with the symbol the frame has for it also where the keyer does not key it (notes/assumptions/22.md), and nothing besides
changes. R107, R109: while the time is UNSET the second has no frame start, no index and no symbol, and in LOADING it has no record.
R91, R183: where the next frame becomes current after its MARK's drive instant, as the model has a missed swap do
(notes/assumptions/34.md), the second is keyed and recorded at its own index in that frame: no MARK is keyed, a pending join does not fall
due and a waiting self-test goes on waiting. -/
def Obligations.DriveInstantKeysTheSecond : Prop :=
  (∀ (now : Instant) (s : State) (f : Frame) (i : Nat), DriveDue now s → DrivesIndex f i s →
    let opened (action : Action) (listen suspended : Bool) : OpenSecond :=
      { t0 := now.tick, n0 := some f.n0, index := some i, action := action, intended := f.symbols[i]?, listen := listen
        taken := none, readback := none, outcome := none, suspended := suspended }
    let keyed (t : State) (drive : DriveState) (keys : Bool) (o : OpenSecond) : Prop :=
      exec (.driveInstant now) s = .next t ∧
      t = { s with tick := now.tick, clk := now.clk, timer := { s.timer with driveTaken := true }
                   key := { s.key with
                     intended := f.symbols[i]?, t0 := some now.tick, drive := drive, secondKeyed := keys
                     opens := s.key.opens ++ [o] } }
    (∀ y, StaysActive s → s.ctl.test.state = .idle → f.symbols[i]? = some y →
      (s.key.listenIndex ≠ some i → ∃ t, keyed t .pulling true (opened .driven false false) ∧ t.keyPulled = true) ∧
      (s.key.listenIndex = some i → ∃ t, keyed t .listening true (opened .withheld true false) ∧ t.keyPulled = false)) ∧
    ((s.ctl.standing = .standby ∨ s.ctl.standing = .faultedDrive ∨
        (s.ctl.standing.surveys = true ∧ s.ctl.silence = false)) →
      s.ctl.test.state ≠ .running →
      ∃ t, keyed t .released false (opened .notKeying false false) ∧ t.keyPulled = false)) ∧
  (∀ (now : Instant) (s : State) (g : Frame) (i : Nat), DriveDue now s → DrivesLate g i s → s.ctl.test.state ≠ .running →
    ∃ t, exec (.driveInstant now) s = .next t ∧ t.frames.current = some g ∧ t.key.intended = g.symbols[i]? ∧
      t.key.t0 = some now.tick ∧ t.key.keyedMark = false ∧ t.ctl.test = s.ctl.test ∧ t.maint = s.maint ∧ t.time = s.time ∧
      let opened (action : Action) (listen : Bool) : Prop := t.key.opens = s.key.opens ++ [
        { t0 := now.tick, n0 := some g.n0, index := some i, action := action, intended := g.symbols[i]?, listen := listen
          taken := none, readback := none, outcome := none, suspended := false }]
      let listens : Prop := i = 3 + 15 * s.load.slot + 2 * (g.n0 % 3600 / 60 % 6).toNat
      (∀ y, g.symbols[i]? = some y →
        StaysActive s ∨ (s.ctl.standing.surveys = true ∧ s.time.rangeEnding = false ∧ s.ctl.silence = true) →
        t.ctl.standing = .active ∧ t.key.secondKeyed = true ∧
        (¬ listens → t.key.drive = .pulling ∧ opened .driven false) ∧ (listens → t.key.drive = .listening ∧ opened .withheld true)) ∧
      ((s.ctl.standing = .standby ∨ s.ctl.standing = .faultedDrive ∨
          (s.ctl.standing.surveys = true ∧ s.ctl.silence = false)) →
        t.ctl = { s.ctl with copy := s.frames.current } ∧ t.key.drive = .released ∧ opened .notKeying false)) ∧
  ∀ (now : Instant) (s : State), DriveDue now s → s.time.n = none → s.ctl.test.state ≠ .running →
    let o : OpenSecond :=
      { t0 := now.tick, n0 := none, index := none, action := .notKeying, intended := none, listen := false, taken := none
        readback := none, outcome := none, suspended := false }
    let opened (os : List OpenSecond) : Prop :=
      exec (.driveInstant now) s = .next { s with
        tick := now.tick, clk := now.clk, timer := { s.timer with driveTaken := true }
        key := { s.key with
          intended := none, t0 := some now.tick, drive := .released, secondKeyed := false, opens := s.key.opens ++ os } }
    ((s.ctl.standing.surveys = true ∨ s.ctl.standing = .standby ∨ s.ctl.standing = .faultedDrive) → opened [o]) ∧
    (s.ctl.standing = .loading → opened [])

/-- R49, R53, R115, R118, R120, R124, R129 to R133: the standing at a drive instant. Out of ACTIVE, by the first cause that stands: a
drive-fault report, a WITHDRAW, the end of the count range, at a MARK a yield that is due, at a MARK a pending re-set; the others are
dropped, KEY is not pulled, and the streaks and the drive-fault run return to 0. Into ACTIVE from SURVEY or DEFERRED with the time SET
and the range not ending: on silence, or by a pending join at a MARK. -/
def Obligations.StandingTurnsAtDriveInstants : Prop :=
  (∀ (now : Instant) (s : State), DriveDue now s → s.ctl.standing = .active → s.ctl.test.state = .idle →
    ∃ t, exec (.driveInstant now) s = .next t ∧
      let leaves (st : Standing) : Prop :=
        t.ctl.standing = st ∧ t.key.drive = .released ∧ t.key.secondKeyed = false ∧ t.ctl.faultReport = false ∧
        t.ctl.pendingWithdraw = false ∧ t.ctl.yieldDue = none ∧ t.key.tallies = Tallies.empty ∧
        t.key.conflictStreak = 0 ∧ t.key.timingStreak = 0 ∧ t.key.faultRun = 0 ∧ t.time = s.time
      (s.ctl.faultReport = true → leaves .faultedDrive ∧ t.maint = s.maint) ∧
      (s.ctl.faultReport = false → s.ctl.pendingWithdraw = true → leaves .standby ∧ t.maint = s.maint) ∧
      (s.ctl.faultReport = false → s.ctl.pendingWithdraw = false → s.time.rangeEnding = true →
        leaves (.survey .watching) ∧ t.maint = s.maint ∧ t.ctl.silenceFrom = some now.tick) ∧
      ∀ g, DrivesMark g s → StaysActive s →
        (s.ctl.yieldDue = some .deferred →
          leaves .deferred ∧ t.maint.alarms = raiseIn .yielded s.time.n s.maint.alarms ∧
          t.ctl.silenceFrom = some now.tick) ∧
        (s.ctl.yieldDue = some .survey →
          leaves (.survey .watching) ∧ t.maint.alarms = raiseIn .yielded s.time.n s.maint.alarms) ∧
        (s.ctl.yieldDue = none → s.time.pendingReset.isSome = true →
          leaves (.survey .watching) ∧ t.maint = s.maint) ∧
        (s.ctl.yieldDue = none → s.time.pendingReset = none → t.ctl.standing = .active ∧ t.maint = s.maint)) ∧
  ∀ (now : Instant) (s : State), DriveDue now s → s.ctl.standing.surveys = true → s.ctl.test.state = .idle →
    ∃ t, exec (.driveInstant now) s = .next t ∧ t.maint = s.maint ∧ t.time = s.time ∧
      let joined : Prop := t.ctl.standing = .active ∧ t.ctl.pendingJoin = false ∧ t.ctl.silenceFrom = none ∧
        t.ctl.silence = false ∧ t.line.candidate = none
      (s.time.n.isSome = true → s.time.rangeEnding = false → s.ctl.silence = true → joined) ∧
      (∀ g, DrivesMark g s → s.time.n.isSome = true → s.time.rangeEnding = false → s.ctl.pendingJoin = true →
        joined ∧ (∀ y, g.symbols.head? = some y → t.key.drive = .pulling ∧ t.key.intended = some y ∧ t.key.keyedMark = true)) ∧
      ((s.time.n = none ∨ s.time.rangeEnding = true ∨ (s.ctl.silence = false ∧ s.ctl.pendingJoin = false)) →
        t.ctl.standing = s.ctl.standing ∧ t.key.drive = .released)


/-! ## A second on KEY -/

/-- R96, R98, R100, R105: the reduction ends at t0 + D of the intended symbol; the readback of a driven second falls 1 ms after its drive
instant, and of a rescued one 1 ms after its rescue, and keeps the level the filter holds then. R104 to R106, R153, R182: at t0 +
RESCUE_GRACE of a listen second, and not before (notes/assumptions/21.md), a fall that has been taken ends the listening, and within
EPOCH_TOL it is a line phase sample; without one the keyer rescues: it pulls KEY, counts one in RESCUES and lights the rescue lamp's
stretch. -/
def Obligations.PullsEndAreReadBackAndRescued : Prop :=
  ((∀ (now : Instant) (s : State) (t0 d : Int) (y : Symbol), s.timer.monitor = .up → s.ctl.test.state ≠ .running →
    (s.key.drive = .pulling ∨ s.key.drive = .rescuing) → s.key.t0 = some t0 → s.key.intended = some y →
    (y = .short → d = 1200000) → (y = .long → d = 2400000) → (y = .mark → d = 4800000) → t0 + d = now.tick →
    ∃ t, exec (.reductionRelease now) s = .next t ∧ t.keyPulled = false ∧
      t = { s with tick := now.tick, clk := now.clk, key := { s.key with drive := .released } }) ∧
  ∀ (now : Instant) (s : State) (pre post : List OpenSecond) (o : OpenSecond) (after : Int), s.timer.monitor = .up →
    OpensSecond pre o post s →
    ((o.action = .driven ∧ after = 10000) ∨
      (o.action = .rescued ∧ after = 10 * (s.load.params.site.rescueGrace : Int) + 10000)) →
    o.t0 + after = now.tick →
    (∀ x ∈ pre ++ post, (x.action = .driven → x.t0 + 10000 ≠ now.tick) ∧
      (x.action = .rescued → x.t0 + 10 * (s.load.params.site.rescueGrace : Int) + 10000 ≠ now.tick)) →
    exec (.readback now) s = .next { s with
      tick := now.tick, clk := now.clk
      key := { s.key with opens := pre ++ { o with readback := s.key.level } :: post } }) ∧
  (∀ (now : Instant) (s : State) (t0 : Int), s.timer.monitor = .up → s.key.drive = .listening → s.key.t0 = some t0 →
    t0 + 10 * (s.load.params.site.rescueGrace : Int) = now.tick → s.load.params.site.epochTol ≤ 5000 →
    (∀ fall, s.takenFall t0 = some fall →
      let timer : Timer :=
        if -(10 * (s.load.params.site.epochTol : Int)) ≤ fall - t0 ∧ fall - t0 ≤ 10 * (s.load.params.site.epochTol : Int)
        then { s.timer with heldLine := some (fall - t0), receivedMarker := some 0 } else s.timer
      exec (.rescueGraceExpiry now) s = .next { s with
        tick := now.tick, clk := now.clk, timer := timer
        key := { s.key with
          drive := .released
          opens := s.key.opens.map (fun o => if o.t0 = t0 then { o with taken := some fall } else o) } }) ∧
    (s.takenFall t0 = none →
      ∃ t, exec (.rescueGraceExpiry now) s = .next t ∧ t.keyPulled = true ∧
        t = { s with
          tick := now.tick, clk := now.clk
          key := { s.key with
            drive := .rescuing
            opens := s.key.opens.map (fun o => if o.t0 = t0 then { o with action := .rescued } else o) }
          maint := { s.maint with
            rescueStretch := 8
            counters := { s.maint.counters with
              rescues := if s.maint.counters.rescues < 255 then s.maint.counters.rescues + 1 else 255 } } }))

/-- R98, R104: of edges in order of time, the measured reduction of a driven second begins at the latest fall from half a second before
its drive instant to its readback, a reduction ends at the earliest rise after its fall, and the taken fall of a listen second is the
earliest fall by t0 + RESCUE_GRACE whose reduction has not ended by then in less than 60 ms. R95: a tick belongs to the latest own second,
by the drive instants the keyer knows, whose window has begun. R109: the fall observed in a second not keyed is the earliest in its window
whose reduction has not ended in less than 60 ms. R108: the fall of a rescued second is the rescue's own at t0 + RESCUE_GRACE. That the
earliest fall of the 1 ms from there to the readback stands for it where the line did not fall at that tick, and that the line was low
before a tick when its next edge is a rise, or it has none and is low, is the model's reading (notes/assumptions/22.md). -/
def Obligations.FallsAndRisesAreTheNearest : Prop :=
  (∀ (k : Keying) (t0 fall : Int), edgesInOrder k →
    (k.drivenFall t0 = some fall ↔
      { tick := fall, level := .low } ∈ k.edges ∧ t0 - 5000000 ≤ fall ∧ fall ≤ t0 + 10000 ∧
        ∀ e ∈ k.edges, e.level = .low → e.tick ≤ t0 + 10000 → e.tick ≤ fall)) ∧
  (∀ (k : Keying) (t rise : Int), edgesInOrder k →
    (k.riseAfter t = some rise ↔
      { tick := rise, level := .high } ∈ k.edges ∧ t < rise ∧
        ∀ e ∈ k.edges, e.level = .high → t < e.tick → rise ≤ e.tick)) ∧
  (∀ (s : State) (t0 : Int), edgesInOrder s.key →
    let grace := t0 + 10 * (s.load.params.site.rescueGrace : Int)
    let glitch (fall : Int) : Prop := ∃ rise, s.key.riseAfter fall = some rise ∧ rise ≤ grace ∧ rise - fall < 600000
    let counts (fall : Int) : Prop :=
      { tick := fall, level := .low } ∈ s.key.edges ∧ t0 - 5000000 ≤ fall ∧ fall ≤ grace ∧ ¬ glitch fall
    (∀ fall, s.takenFall t0 = some fall ↔ counts fall ∧ ∀ fall', counts fall' → fall ≤ fall') ∧
    (s.takenFall t0 = none ↔ ∀ fall, ¬ counts fall)) ∧
  (∀ (s : State) (t x : Int),
    (s.secondOf t = some x ↔ x ∈ s.driveInstants ∧ x - 5000000 ≤ t ∧
      ∀ y ∈ s.driveInstants, y - 5000000 ≤ t → y ≤ x) ∧
    (s.driveAfter t = some x ↔ x ∈ s.driveInstants ∧ t < x ∧ ∀ y ∈ s.driveInstants, t < y → x ≤ y)) ∧
  (∀ (s : State) (t0 fall : Int), edgesInOrder s.key →
    let begins := t0 + 10 * (s.load.params.site.rescueGrace : Int)
    ({ tick := begins, level := .low } ∈ s.key.edges → s.rescueFall t0 = some begins) ∧
    (s.rescueFall t0 = some fall ↔
      { tick := fall, level := .low } ∈ s.key.edges ∧ begins ≤ fall ∧ fall ≤ begins + 10000 ∧
        ∀ e ∈ s.key.edges, e.level = .low → begins ≤ e.tick → fall ≤ e.tick) ∧
    let inside (fall : Int) : Prop := t0 - 5000000 ≤ fall ∧
      (∀ next, s.driveAfter t0 = some next → fall < next - 5000000) ∧ (s.driveAfter t0 = none → fall ≤ s.tick)
    let glitch (fall : Int) : Prop := ∃ rise, s.key.riseAfter fall = some rise ∧ rise ≤ s.tick ∧ rise - fall < 600000
    let counts (fall : Int) : Prop := { tick := fall, level := .low } ∈ s.key.edges ∧ inside fall ∧ ¬ glitch fall
    (s.observedFall t0 = some fall ↔ counts fall ∧ ∀ fall', counts fall' → fall ≤ fall')) ∧
  ∀ (k : Keying) (t : Int), edgesInOrder k →
    (k.lowBefore t = true ↔
      (∃ e ∈ k.edges, e.level = .high ∧ t ≤ e.tick ∧ ∀ x ∈ k.edges, t ≤ x.tick → e.tick ≤ x.tick) ∨
      ((∀ e ∈ k.edges, e.tick < t) ∧ k.level = some .low))

/-- R98 to R102, R111, R133: the outcome of a driven second is that of the first test that fails, in the order STUCK, DRIVE_FAULT,
EXCESS_SYMBOL, EARLY, LATE_LONG, and CLEAN otherwise; its tally, its counter, its alarm and the drive-fault run follow, two seconds of
DRIVE_FAULT in a row making the report, and nothing besides changes in a second that does not end its frame. -/
def Obligations.DrivenSecondsAreJudgedInOrder : Prop :=
  ∀ (now : Instant) (s : State) (pre post : List OpenSecond) (o : OpenSecond) (y : Symbol) (d : Int),
    DecisionDue now pre o post s → o.action = .driven → o.listen = false → o.intended = some y →
    (y = .short → d = 1200000) → (y = .long → d = 2400000) → (y = .mark → d = 4800000) →
    (∀ f, ¬ EndsFrame f o s) →
    ∃ t, exec (.decisionPoint now) s = .next t ∧
      let tol : Int := 10 * (s.load.params.site.epochTol : Int)
      let plus (n : Nat) : Nat := if n < 255 then n + 1 else 255
      let c := s.maint.counters
      let y0 := s.key.tallies
      let decided (r : SecondOutcome) (tallies : Tallies) (counters : Counters) : Prop :=
        t.key.opens = pre ++ { o with outcome := some r } :: post ∧
          t.key.tallies = { tallies with keyed := y0.keyed + 1 } ∧ t.maint.counters = counters
      let quiet : Prop := t.maint.alarms = s.maint.alarms ∧ t.key.faultRun = 0 ∧ t.ctl = s.ctl
      (s.key.level = some .low →
        decided .stuck y0 c ∧ t.maint.alarms = raiseIn .lineStuck s.time.n s.maint.alarms ∧ t.key.faultRun = 0 ∧
          t.ctl = s.ctl) ∧
      (s.key.level ≠ some .low → o.readback = some .high →
        decided .driveFault y0 c ∧ t.maint.alarms = raiseIn .driveFault s.time.n s.maint.alarms ∧
          t.key.faultRun = s.key.faultRun + 1 ∧
          t.ctl = { s.ctl with faultReport := s.ctl.faultReport || decide (2 ≤ s.key.faultRun + 1) }) ∧
      (s.key.level ≠ some .low → o.readback ≠ some .high →
        (s.key.drivenFall o.t0 = none →
          decided .excessSymbol { y0 with excess := y0.excess + 1 } { c with excessSeconds := plus c.excessSeconds } ∧ quiet) ∧
        ∀ fall, s.key.drivenFall o.t0 = some fall →
          (s.key.riseAfter fall = none →
            decided .excessSymbol { y0 with excess := y0.excess + 1 } { c with excessSeconds := plus c.excessSeconds } ∧
              quiet) ∧
          ∀ rise, s.key.riseAfter fall = some rise →
            (¬ lengthIs y (rise - fall) →
              decided .excessSymbol { y0 with excess := y0.excess + 1 } { c with excessSeconds := plus c.excessSeconds } ∧
                quiet) ∧
            (lengthIs y (rise - fall) → fall < o.t0 - tol →
              decided .early { y0 with early := y0.early + 1 } { c with earlySeconds := plus c.earlySeconds } ∧ quiet) ∧
            (lengthIs y (rise - fall) → o.t0 - tol ≤ fall → o.t0 + d + tol < rise →
              decided .lateLong { y0 with lateLong := y0.lateLong + 1 } { c with longSeconds := plus c.longSeconds } ∧
                quiet) ∧
            (lengthIs y (rise - fall) → o.t0 - tol ≤ fall → rise ≤ o.t0 + d + tol → decided .clean y0 c ∧ quiet)) ∧
      t.timer = s.timer ∧ t.ref = s.ref ∧ t.time = s.time ∧ t.schedule = s.schedule ∧ t.frames = s.frames ∧
      t.line = s.line ∧ t.load = s.load ∧ t.key.ring = s.key.ring ∧ t.key.drive = s.key.drive ∧
      t.key.conflictStreak = s.key.conflictStreak ∧ t.key.timingStreak = s.key.timingStreak

/-- R101, R102, R104, R105, R111: the outcome of a listen second. Withheld: STUCK, then PEER_OFFSET, PEER_MATCH or PEER_MISMATCH by the
taken fall; rescued: STUCK, DRIVE_FAULT or PEER_ABSENT. It is the frame's listen outcome, and its tally and counter follow. PEER_ABSENT
for a withheld second without a taken fall is the model's answer for a state no run reaches, since such a second is rescued
(notes/assumptions/31.md, notes/assumptions/21.md). -/
def Obligations.ListenSecondsAreJudgedByThePeer : Prop :=
  ∀ (now : Instant) (s : State) (pre post : List OpenSecond) (o : OpenSecond) (y : Symbol),
    DecisionDue now pre o post s → (o.action = .withheld ∨ o.action = .rescued) → o.listen = true →
    o.intended = some y → (∀ f, ¬ EndsFrame f o s) →
    ∃ t, exec (.decisionPoint now) s = .next t ∧
      let tol : Int := 10 * (s.load.params.site.epochTol : Int)
      let c := s.maint.counters
      let missed : Counters :=
        { c with listenMismatches := if c.listenMismatches < 255 then c.listenMismatches + 1 else 255 }
      let decided (r : SecondOutcome) (mismatch offset : Nat) (counters : Counters) (alarms : List AlarmEntry) : Prop :=
        t.key.opens = pre ++ { o with outcome := some r } :: post ∧
          t.key.tallies = { s.key.tallies with
            keyed := s.key.tallies.keyed + 1, listen := some r, mismatch := s.key.tallies.mismatch + mismatch
            offset := s.key.tallies.offset + offset } ∧
          t.maint.counters = counters ∧ t.maint.alarms = alarms
      (o.action = .withheld → t.key.faultRun = s.key.faultRun ∧ t.ctl = s.ctl) ∧
      (s.key.level = some .low → decided .stuck 0 0 c (raiseIn .lineStuck s.time.n s.maint.alarms)) ∧
      (s.key.level ≠ some .low → o.action = .withheld →
        (o.taken = none → decided .peerAbsent 0 0 c s.maint.alarms) ∧
        ∀ fall, o.taken = some fall →
          ((fall < o.t0 - tol ∨ o.t0 + tol < fall) → decided .peerOffset 0 1 missed s.maint.alarms) ∧
          (o.t0 - tol ≤ fall → fall ≤ o.t0 + tol →
            (∀ rise, s.key.riseAfter fall = some rise → lengthIs y (rise - fall) →
              decided .peerMatch 0 0 c s.maint.alarms) ∧
            (∀ rise, s.key.riseAfter fall = some rise → ¬ lengthIs y (rise - fall) →
              decided .peerMismatch 1 0 missed s.maint.alarms) ∧
            (s.key.riseAfter fall = none → decided .peerMismatch 1 0 missed s.maint.alarms))) ∧
      (s.key.level ≠ some .low → o.action = .rescued →
        (o.readback = some .high →
          decided .driveFault 0 0 c (raiseIn .driveFault s.time.n s.maint.alarms) ∧ t.key.faultRun = s.key.faultRun + 1) ∧
        (o.readback ≠ some .high → decided .peerAbsent 0 0 c s.maint.alarms ∧ t.key.faultRun = 0))

/-- R112 to R114, R130, R182: the verdict of a frame at the decision of its last second, from the tallies that second completes: the
streaks, FRAMES_KEYED, PEER_TIMING at the third DISTURBED in a row, and the yield due by class and slot. -/
def Obligations.FrameVerdictAndYieldDue : Prop :=
  ∀ (now : Instant) (s : State) (pre post : List OpenSecond) (o : OpenSecond) (f : Frame) (r : SecondOutcome),
    DecisionDue now pre o post s → EndsFrame f o s → decidedOutcome s.key (10 * (s.load.params.site.epochTol : Int)) o = some r →
    ∃ t, exec (.decisionPoint now) s = .next t ∧
      let y := t.key.tallies
      let limit := s.load.params.site.conflictLimit
      let streak := t.key.conflictStreak
      let threshold : Nat :=
        if y.listen = some .peerAbsent then limit + 6
        else if s.cls = .a then limit + 2 * (3 - s.load.slot)
        else if s.cls = .b then limit else 1
      y = s.key.tallies.add o.listen r ∧
      ((0 < y.mismatch ∨ 0 < y.offset ∨ 2 ≤ y.excess) →
        t.key.lastVerdict = some { verdict := .conflict, n0 := f.n0 } ∧ streak = s.key.conflictStreak + 1 ∧
          t.key.timingStreak = 0) ∧
      (y.mismatch = 0 → y.offset = 0 → y.excess ≤ 1 → (0 < y.early ∨ 0 < y.lateLong ∨ y.excess = 1) →
        t.key.lastVerdict = some { verdict := .disturbed, n0 := f.n0 } ∧ streak = 0 ∧
          (s.key.timingStreak = 2 →
            t.key.timingStreak = 0 ∧ t.holds .peerTiming = true ∧ t.maint.peerStretch = 8) ∧
          (s.key.timingStreak ≠ 2 →
            t.key.timingStreak = s.key.timingStreak + 1 ∧ t.maint.peerStretch = s.maint.peerStretch)) ∧
      (y.mismatch = 0 → y.offset = 0 → y.excess = 0 → y.early = 0 → y.lateLong = 0 →
        t.key.lastVerdict = some { verdict := .quiet, n0 := f.n0 } ∧ streak = 0 ∧ t.key.timingStreak = 0) ∧
      t.maint.counters.framesKeyed =
        (if s.key.keyedMark = true then
          (if s.maint.counters.framesKeyed < 9999 then s.maint.counters.framesKeyed + 1 else 0)
        else s.maint.counters.framesKeyed) ∧
      (threshold ≤ streak →
        t.ctl.yieldDue = some (if s.cls = .a then .deferred else .survey)) ∧
      (streak < threshold → t.ctl.yieldDue = none) ∧
      t.ctl.standing = .active ∧ t.time = s.time ∧ t.schedule = s.schedule ∧ t.frames = s.frames ∧ t.ref = s.ref ∧
      t.timer = s.timer ∧ t.line = s.line

/-- R107 to R109: RECORD_CLOSE, 1,200 ms after a drive instant, appends the second's record to the ring, of which the oldest of 64 leaves,
and closes the second. The record has the second's place and action, the outcome of a keyed second as it was decided, and the fall, the
rise and the symbol of its reduction. R108: a fall still low at the close has no rise and is OVERLONG; a second the keyer pulled in
without a fall of its own has no fall, and where the line was low before its window the rise and the symbol are measured from the
window's start (notes/assumptions/22.md). A second suspended by a self-test is SILENT. -/
def Obligations.RecordCloseAppendsTheSecond : Prop :=
  ∀ (now : Instant) (s : State) (pre post : List OpenSecond) (o : OpenSecond), s.timer.monitor = .up →
    OpensSecond pre o post s → o.t0 + 12000000 = now.tick → (o.action = .notKeying ∨ o.outcome.isSome = true) →
    s.key.ring.length ≤ 64 →
    ∃ r, exec (.recordClose now) s = .next { s with
        tick := now.tick, clk := now.clk
        key := { s.key with
          opens := pre ++ post
          ring := (if s.key.ring.length = 64 then s.key.ring.drop 1 else s.key.ring) ++ [r] } } ∧
      r.n0 = o.n0 ∧ r.index = o.index ∧ r.action = o.action ∧
      (o.suspended = true →
        r.outcome = .silent ∧ r.fallOffset = none ∧ r.riseOffset = none ∧ r.symbol = .noSymbol) ∧
      (o.suspended = false →
        (o.action ≠ .notKeying → o.outcome = some r.outcome) ∧
        let own (fall : Int) : Prop :=
          (o.action = .driven ∧ s.key.drivenFall o.t0 = some fall) ∨ (o.action = .withheld ∧ o.taken = some fall) ∨
            (o.action = .rescued ∧ s.rescueFall o.t0 = some fall) ∨
            (o.action = .notKeying ∧ (s.at now).observedFall o.t0 = some fall)
        (∀ fall rise, own fall → s.key.riseAfter fall = some rise →
          r.fallOffset = some ((fall - o.t0).tdiv 10) ∧ r.riseOffset = some ((rise - o.t0).tdiv 10) ∧
            (rise - fall < 600000 → r.symbol = .noSymbol) ∧
            (lengthIs .short (rise - fall) → r.symbol = .short) ∧ (lengthIs .long (rise - fall) → r.symbol = .long) ∧
            (lengthIs .mark (rise - fall) → r.symbol = .mark) ∧ (7000000 < rise - fall → r.symbol = .overlong)) ∧
        (∀ fall, own fall → s.key.riseAfter fall = none →
          r.fallOffset = some ((fall - o.t0).tdiv 10) ∧ r.riseOffset = none ∧ r.symbol = .overlong) ∧
        (((o.action = .driven ∧ s.key.drivenFall o.t0 = none) ∨ (o.action = .withheld ∧ o.taken = none) ∨
            (o.action = .rescued ∧ s.rescueFall o.t0 = none)) →
          let start := o.t0 - 5000000
          r.fallOffset = none ∧
          (s.key.lowBefore start = false → r.riseOffset = none ∧ r.symbol = .noSymbol) ∧
          (s.key.lowBefore start = true →
            (s.key.riseAfter (start - 1) = none → r.riseOffset = none ∧ r.symbol = .overlong) ∧
            ∀ rise, s.key.riseAfter (start - 1) = some rise →
              r.riseOffset = some ((rise - o.t0).tdiv 10) ∧
              (rise - start < 600000 → r.symbol = .noSymbol) ∧
              (∀ y, lengthIs y (rise - start) →
                r.symbol = match y with
                  | .short => .short
                  | .long => .long
                  | .mark => .mark) ∧
              (7000000 < rise - start → r.symbol = .overlong))) ∧
        (o.action = .notKeying → ∀ fall, (s.at now).observedFall o.t0 = some fall → r.outcome = .observed) ∧
        (o.action = .notKeying → (s.at now).observedFall o.t0 = none →
          r.outcome = .silent ∧ r.fallOffset = none ∧ r.riseOffset = none ∧ r.symbol = .noSymbol))

/-! ## The self-test -/

/-- R138 to R140, R158: a waiting self-test starts at a MARK drive instant in STANDBY: the frame that becomes current is its reference,
the loopback takes the place of KEY, and its MARK begins there; at every later index, the listen second among them, the loopback is pulled
low and the second opened with line observation suspended; at the next MARK drive instant the MARK after the test frame is keyed, and no
index after it, however short its second; a loopback reduction ends at t0 + D; and at the decision point of that MARK the test ends with
PASS when the frame the Line Reader handed over is the reference within EPOCH_TOL, else with FAIL. KEY stays released. That the loopback's
edges are made within DRIVE_INSTANT and REDUCTION_RELEASE, and do not join the edges on KEY, is the model's reading
(notes/assumptions/23.md), as is that KEY is sampled from the tick of the test's end on (notes/assumptions/7.md). -/
def Obligations.SelfTestRunsOneFrame : Prop :=
  (∀ (now : Instant) (s : State) (g : Frame), DriveDue now s → DrivesMark g s → s.ctl.standing = .standby →
    s.ctl.test.state = .waiting → g.symbols.head? = some .mark →
    ∃ t, exec (.driveInstant now) s = .next t ∧ t.ctl.standing = .standby ∧ t.ctl.test.state = .running ∧
      t.ctl.test.reference = some g ∧ t.ctl.test.markDrive = some now.tick ∧ t.ctl.test.closeDrive = none ∧
      t.ctl.test.handed = none ∧
      t.ctl.test.loopLow = true ∧ t.key.level = some .low ∧ t.keyPulled = false ∧ t.key.drive = .released ∧
      t.line.decoder = .hunting ∧ t.line.assembly = none ∧ t.line.notice = none ∧
      t.line.reduction = some { fall := now.tick, role := .unsettled, markSeen := false, overSeen := false } ∧
      t.maint = s.maint ∧ t.time = s.time) ∧
  (∀ (now : Instant) (s : State) (f : Frame) (i : Nat) (y : Symbol), DriveDue now s → DrivesIndex f i s →
    s.ctl.standing = .standby → s.ctl.test.state = .running → f.symbols[i]? = some y →
    let opened (level : Option Level) : Keying := { s.key with
      level := level, intended := some y, t0 := some now.tick, drive := .released, secondKeyed := false
      opens := s.key.opens ++ [
        { t0 := now.tick, n0 := some f.n0, index := some i, action := .notKeying, intended := some y, listen := false
          taken := none, readback := none, outcome := none, suspended := true }] }
    (s.ctl.test.closeDrive = none →
      exec (.driveInstant now) s = .next { s with
        tick := now.tick, clk := now.clk, timer := { s.timer with driveTaken := true }, key := opened (some .low)
        ctl := { s.ctl with test := { s.ctl.test with loopLow := true } }
        line := if s.line.decoder = .idle then s.line else { s.line with
          reduction := some { fall := now.tick, role := .unsettled, markSeen := false, overSeen := false } } }) ∧
    ∀ m, s.ctl.test.closeDrive = some m → m ≠ now.tick →
      exec (.driveInstant now) s = .next { s with
        tick := now.tick, clk := now.clk, timer := { s.timer with driveTaken := true }, key := opened s.key.level }) ∧
  (∀ (now : Instant) (s : State) (g : Frame), DriveDue now s → DrivesMark g s → s.ctl.standing = .standby →
    s.ctl.test.state = .running → g.symbols.head? = some .mark →
    ∃ t, exec (.driveInstant now) s = .next t ∧ t.ctl.standing = .standby ∧
      t.ctl.test = { s.ctl.test with closeDrive := some now.tick, loopLow := true } ∧
      t.key.level = some .low ∧ t.key.intended = some .mark ∧ t.keyPulled = false ∧ t.key.drive = .released ∧
      t.line = (if s.line.decoder = .idle then s.line else { s.line with
        reduction := some { fall := now.tick, role := .unsettled, markSeen := false, overSeen := false } }) ∧
      t.maint = s.maint ∧ t.time = s.time) ∧
  (∀ (now : Instant) (s : State) (t0 d : Int) (y : Symbol), s.timer.monitor = .up → s.ctl.test.state = .running →
    s.ctl.test.loopLow = true → s.key.t0 = some t0 → s.key.intended = some y →
    (y = .short → d = 1200000) → (y = .long → d = 2400000) → (y = .mark → d = 4800000) → t0 + d = now.tick →
    ∃ t, exec (.reductionRelease now) s = .next t ∧ t.key = { s.key with level := some .high } ∧
      t.ctl.test.loopLow = false ∧ t.ctl.test.state = .running ∧ t.ctl.standing = s.ctl.standing ∧
      t.line.reduction = none ∧ t.line.last = s.line.last ∧ t.line.lastBreak = s.line.lastBreak ∧
      t.line.candidate = s.line.candidate ∧ t.line.notice = s.line.notice ∧ t.timer = s.timer ∧ t.ref = s.ref ∧
      t.time = s.time ∧ t.schedule = s.schedule ∧ t.frames = s.frames ∧ t.maint = s.maint) ∧
  ∀ (now : Instant) (s : State) (pre post : List OpenSecond) (o : OpenSecond) (m : Int) (g : Frame),
    DecisionDue now pre o post s → s.ctl.test.state = .running → o.action = .notKeying →
    s.ctl.test.closeDrive = some o.t0 → s.ctl.test.markDrive = some m → s.ctl.test.reference = some g →
    ∃ t, exec (.decisionPoint now) s = .next t ∧ t.ctl.test.state = .idle ∧ t.ctl.test.reference = none ∧
      t.key = { s.key with level := none, levelFrom := some now.tick, run := none } ∧ t.line.decoder = .idle ∧
      t.line.assembly = none ∧
      t.ctl.standing = s.ctl.standing ∧ t.maint = s.maint ∧
      let tol : Int := 10 * (s.load.params.site.epochTol : Int)
      (∀ h, s.ctl.test.handed = some h → h.n0 = g.n0 → h.symbols = g.symbols → m - tol ≤ h.markFall →
        h.markFall ≤ m + tol → t.ctl.test.result = .pass) ∧
      (∀ h, s.ctl.test.handed = some h →
        (h.n0 ≠ g.n0 ∨ h.symbols ≠ g.symbols ∨ h.markFall < m - tol ∨ m + tol < h.markFall) →
        t.ctl.test.result = .fail) ∧
      (s.ctl.test.handed = none → t.ctl.test.result = .fail)

/-! ## The line -/

/-- R94, R139: while the monitor is UP and no self-test runs, samples of KEY at successive ticks make runs of one level. A run that ends
before its 20th tick counts nothing and leaves the filtered level; one of 20 ticks counts, at the tick that follows them, as the first
level when the filter holds none, and as an edge timestamped at its first tick when the filter holds the other level. What counts joins
the waiting commands at its place in time, which is the model's choice (notes/assumptions/7.md). A first level or an edge is not taken
before 20 ticks have gone by since the last edge, or since the filter began to take samples. On a sound wire KEY is low while the keyer or
a peer pulls it, so that the keyer's own pull is such a run. R94, R123, R144: the filter's first level
wakes the decoder, except while LOADING; a fall or a rise on KEY becomes the level from its tick on and joins the edges, of which the model
keeps those of the last 40,000,000 ticks (notes/assumptions/11.md); a fall starts the silence timer again in SURVEY and DEFERRED and is
followed as a reduction unless the decoder is IDLE. In a self-test KEY reaches no unit. -/
def Obligations.FilterLevelsReachTheUnits : Prop :=
  (∀ (moment : Nat → Instant) (l other : Level) (s : State), s.timer.monitor = .up → s.ctl.test.state ≠ .running → other ≠ l →
    (∀ r ∈ s.key.run, r.level = other ∧ r.first.tick + 20 ≠ (moment 0).tick) → (∀ i, (moment i).tick = (moment 0).tick + i) →
    let sampled (n : Nat) : State := (List.range n).foldl (fun u i => u.sampleKey (moment i) l) s
    let runs (r : KeyRun) (waiting : List Instr) : State := { s with key := { s.key with run := some r }, pending := waiting }
    let counts (waiting : List Instr) : Prop :=
      (sampled 20).sampleKey (moment 20) l = runs { level := l, first := moment 0 } waiting ∧
      (sampled 20).sampleKey (moment 20) other = runs { level := other, first := moment 20 } waiting
    (∀ n, 0 < n → n ≤ 20 → sampled n = runs { level := l, first := moment 0 } s.pending) ∧
    (∀ n, 0 < n → n < 20 → (sampled n).sampleKey (moment n) other = runs { level := other, first := moment n } s.pending) ∧
    (s.key.level = none → counts (placeByTick (.filterFirstLevel (moment 20) l) s.pending)) ∧
    (s.key.level = some other → l = .low → counts (placeByTick (.keyFall (moment 0)) s.pending)) ∧
    (s.key.level = some other → l = .high → counts (placeByTick (.keyRise (moment 0)) s.pending)) ∧
    (s.key.level = some l → counts s.pending)) ∧
  (∀ (now : Instant) (l : Level) (s : State), (s.timer.monitor = .down ∨ s.ctl.test.state = .running) → s.sampleKey now l = s) ∧
  (∀ (peers : Level) (s : State), s.keyOnWire peers = .low ↔ peers = .low ∨ s.key.drive = .pulling ∨ s.key.drive = .rescuing) ∧
  (∀ (c : Instr) (before after : List Instr), (∀ d ∈ before, d.now.tick < c.now.tick) →
    (∀ d ∈ after.head?, c.now.tick ≤ d.now.tick) → placeByTick c (before ++ after) = before ++ c :: after) ∧
  (∀ (now : Instant) (l : Level) (s : State), (∀ b ∈ s.key.levelFrom, now.tick < b + 20) →
    exec (.filterFirstLevel now l) s = .next s ∧ exec (.keyFall now) s = .next s ∧ exec (.keyRise now) s = .next s) ∧
  (∀ (now : Instant) (l : Level) (s : State) (b : Int), s.timer.monitor = .up → s.key.level = none →
    s.key.levelFrom = some b → b + 20 ≤ now.tick → s.ctl.test.state ≠ .running →
    exec (.filterFirstLevel now l) s = .next { s with
      tick := now.tick, clk := now.clk, key := { s.key with level := some l, levelFrom := some (now.tick - 20) }
      line := if s.line.decoder = .idle ∧ s.ctl.standing ≠ .loading then { s.line with decoder := .hunting } else s.line }) ∧
  (∀ (now : Instant) (s : State) (b : Int), s.timer.monitor = .up → s.key.level = some .high →
    s.key.levelFrom = some b → b + 20 ≤ now.tick → s.ctl.test.state ≠ .running →
    exec (.keyFall now) s = .next { s with
      tick := now.tick, clk := now.clk
      key := { s.key with
        level := some .low
        levelFrom := some now.tick
        edges := { tick := now.tick, level := .low } :: s.key.edges.filter (fun e => decide (now.tick - 40000000 ≤ e.tick)) }
      ctl := if s.ctl.standing.surveys then { s.ctl with silenceFrom := some now.tick, silence := false } else s.ctl
      line := if s.line.decoder = .idle then s.line else { s.line with
        reduction := some { fall := now.tick, role := .unsettled, markSeen := false, overSeen := false } } }) ∧
  (∀ (now : Instant) (s : State) (b : Int), s.timer.monitor = .up → s.key.level = some .low →
    s.key.levelFrom = some b → b + 20 ≤ now.tick → s.ctl.test.state ≠ .running → s.line.reduction = none →
    exec (.keyRise now) s = .next { s with
      tick := now.tick, clk := now.clk
      key := { s.key with
        level := some .high
        levelFrom := some now.tick
        edges := { tick := now.tick, level := .high } ::
          s.key.edges.filter (fun e => decide (now.tick - 40000000 ≤ e.tick)) } }) ∧
  ∀ (now : Instant) (l : Level) (s : State), s.ctl.test.state = .running →
    exec (.filterFirstLevel now l) s = .next s ∧ exec (.keyFall now) s = .next s ∧ exec (.keyRise now) s = .next s

/-- R2, R144, R147: a rise ends the reduction in progress. Of a line second that has been taken, a SHORT or LONG joins the frame under
assembly, which breaks with TOO_LONG when it holds 61 symbols already; a glitch that has not settled changes nothing, unless the spacing
window has closed meanwhile, and then the frame breaks with MISSING; a reduction the decoder passes over leaves no symbol, and neither
does one already recognised as a MARK or OVERLONG. R94: the line has been low for 20 ticks by then. The edges kept are those of the last 40,000,000 ticks (notes/assumptions/11.md). -/
def Obligations.RisesTakeTheSymbol : Prop :=
  ∀ (now : Instant) (s : State) (r : Reduction) (b : Int), s.timer.monitor = .up → s.key.level = some .low →
    s.key.levelFrom = some b → b + 20 ≤ now.tick → s.ctl.test.state ≠ .running → s.line.reduction = some r →
    ∃ t, exec (.keyRise now) s = .next t ∧ t.line.reduction = none ∧
      let d := now.tick - r.fall
      let leaves (line : LineReader) (counters : Counters) : Prop :=
        t.line = line ∧ t.maint = { s.maint with counters := counters } ∧
          t.key = { s.key with
            level := some .high
            levelFrom := some now.tick
            edges := { tick := now.tick, level := .high } ::
              s.key.edges.filter (fun e => decide (now.tick - 40000000 ≤ e.tick)) } ∧
          t.timer = s.timer ∧ t.ref = s.ref ∧ t.time = s.time ∧ t.schedule = s.schedule ∧ t.frames = s.frames ∧
          t.ctl = s.ctl
      let rest : LineReader := { s.line with reduction := none }
      let breaks (reason : BreakReason) : Prop :=
        leaves { rest with decoder := .hunting, assembly := none, lastBreak := some reason, candidate := none, notice := none }
          { s.maint.counters with
            lineFramesBad := if s.maint.counters.lineFramesBad < 255 then s.maint.counters.lineFramesBad + 1 else 255 }
      (d < 600000 → (∀ a ∈ s.line.assembly, a.windowClosed = false) → leaves rest s.maint.counters) ∧
      (∀ a, d < 600000 → s.line.assembly = some a → a.windowClosed = true → breaks .missing) ∧
      (∀ a y, r.role = .taken → s.line.assembly = some a → y ≠ .mark → lengthIs y d →
        (a.symbols.length < 61 →
          leaves { rest with assembly := some { a with symbols := a.symbols ++ [y] } } s.maint.counters) ∧
        (61 ≤ a.symbols.length → breaks .tooLong)) ∧
      ((r.role = .hunted ∨ r.role = .passed) → 600000 ≤ d → d < 3600000 → leaves rest s.maint.counters) ∧
      (r.markSeen = true → 3600000 ≤ d → (d ≤ 7000000 ∨ r.overSeen = true) → leaves rest s.maint.counters)

/-- R144 to R146: a fall still low after 60 ms settles as no glitch. While a frame is assembled it is a line second when it lies 990 ms to
1,010 ms after the last one taken; a fall before that breaks the frame with EXTRA_FALL, and one after it with MISSING, and either may
begin a frame. R23, R152: the first fall of an own second that settles as no glitch is a line phase sample when it lies within 5 ms of
the second's drive instant and the standing is SURVEY, DEFERRED or STANDBY; a later fall of the second is none, and an ACTIVE keyer
takes none so. -/
def Obligations.FallsSettleAsSecondsAndSamples : Prop :=
  (∀ (now : Instant) (s : State) (r : Reduction), s.timer.monitor = .up → s.line.reduction = some r → r.role = .unsettled →
    r.fall + 600000 = now.tick → s.ctl.test.state ≠ .running →
    ∃ t, exec (.fallSettled now) s = .next t ∧
      let role (x : ReductionRole) : Prop := t.line.reduction = some { r with role := x }
      let breaks (reason : BreakReason) : Prop :=
        role .hunted ∧ t.line.decoder = .hunting ∧ t.line.assembly = none ∧ t.line.lastBreak = some reason ∧
          t.line.candidate = none ∧ t.line.notice = none ∧
          t.maint.counters.lineFramesBad =
            (if s.maint.counters.lineFramesBad < 255 then s.maint.counters.lineFramesBad + 1 else 255)
      (∀ a, s.line.decoder = .assembling → s.line.assembly = some a →
        (r.fall < a.lastFall + 9900000 → breaks .extraFall) ∧
        (a.lastFall + 10100000 < r.fall → breaks .missing) ∧
        (a.lastFall + 9900000 ≤ r.fall → r.fall ≤ a.lastFall + 10100000 →
          role .taken ∧ t.line.decoder = .assembling ∧ t.maint = s.maint ∧
          t.line.assembly = some { a with falls := r.fall :: a.falls, lastFall := r.fall, windowClosed := false })) ∧
      (s.line.decoder = .hunting →
        role .hunted ∧ t.line.decoder = .hunting ∧ t.line.assembly = s.line.assembly ∧ t.maint = s.maint) ∧
      t.key = s.key ∧ t.ctl = s.ctl ∧ t.time = s.time ∧ t.schedule = s.schedule ∧ t.frames = s.frames ∧ t.ref = s.ref ∧
      t.line.last = s.line.last) ∧
  (∀ (now : Instant) (s : State) (r : Reduction) (t0 : Int), s.timer.monitor = .up → s.line.reduction = some r →
    r.role = .unsettled → r.fall + 600000 = now.tick → s.secondOf r.fall = some t0 →
    ∃ t, exec (.fallSettled now) s = .next t ∧
      let e := wrapError (r.fall - t0)
      let watches : Prop := (∃ p, s.ctl.standing = .survey p) ∨ s.ctl.standing = .deferred ∨ s.ctl.standing = .standby
      let first : Prop := s.ctl.test.state ≠ .running ∧ s.line.sampled ≠ some t0
      (first → t.line.sampled = some t0) ∧
      (first → watches → -50000 ≤ e → e ≤ 50000 →
        t.timer = { s.timer with heldLine := some e, receivedMarker := some 0 }) ∧
      (¬ (first ∧ watches ∧ -50000 ≤ e ∧ e ≤ 50000) → t.timer = s.timer) ∧
      (¬ first → t.line.sampled = s.line.sampled))

/-- R145, R147, R149 to R151: a reduction still low after 360 ms is a MARK. Where the decoder hunts it starts a frame; where it is the next
line second of a frame it closes that frame and starts the next. A closed frame that fails a check counts as bad and leaves that check's
reason; a valid one counts as good and is the last decoded frame, with N0 by the inverse calendar, and is mixed when the keyer keyed one
of its line seconds. R151: an unmixed valid frame goes to the adoption while leave is held and otherwise to the Standing Controller, and
then to the notice assembly; a mixed one goes to none of them and empties the notice assembly. -/
def Obligations.MarksStartAndCloseFrames : Prop :=
  ∀ (now : Instant) (s : State) (r : Reduction), s.timer.monitor = .up → s.ctl.test.state ≠ .running →
    s.line.reduction = some r → r.markSeen = false → r.fall + 3600000 = now.tick →
    ∃ t, exec (.markRecognised now) s = .next t ∧
      let started : Prop := t.line.decoder = .assembling ∧ t.line.assembly =
        some { symbols := [.mark], markFall := r.fall, falls := [r.fall], lastFall := r.fall, windowClosed := false } ∧
        t.line.reduction = some { r with markSeen := true }
      let c := s.maint.counters
      (r.role = .hunted → started ∧ t.maint = s.maint ∧ t.line.last = s.line.last ∧ t.ctl = s.ctl) ∧
      (∀ a, r.role = .taken → s.line.assembly = some a →
        started ∧
        (∀ reason, frameFault a.symbols = some reason →
          t.line.lastBreak = some reason ∧ t.line.candidate = none ∧ t.line.notice = none ∧ t.line.last = s.line.last ∧
          t.ctl = s.ctl ∧
          t.maint.counters.lineFramesBad = (if c.lineFramesBad < 255 then c.lineFramesBad + 1 else 255) ∧
          t.maint.counters.lineFramesGood = c.lineFramesGood) ∧
        (frameFault a.symbols = none →
          ∃ f, t.line.last = some f ∧ f.n0 = lineN0 a.symbols ∧ f.symbols = a.symbols ∧ f.markFall = a.markFall ∧
            (∀ t0, s.secondOf a.markFall = some t0 → f.markTicks = a.markFall - t0) ∧
            t.line.lastBreak = s.line.lastBreak ∧
            t.maint.counters.lineFramesGood = (if c.lineFramesGood < 9999 then c.lineFramesGood + 1 else 0) ∧
            t.maint.counters.lineFramesBad = c.lineFramesBad ∧
            (f.mixed = true ↔ ∃ fall ∈ a.falls.drop 1, ∃ t0, s.secondOf fall = some t0 ∧ s.keyedAt t0 = true) ∧
            ∃ d : State,
              d = { s with
                tick := now.tick, clk := now.clk
                line := { s.line with
                  decoder := .assembling, assembly := t.line.assembly, reduction := t.line.reduction, last := some f }
                maint := { s.maint with counters := { c with
                  lineFramesGood := if c.lineFramesGood < 9999 then c.lineFramesGood + 1 else 0 } } } ∧
              (f.mixed = true → t = { d with line := { d.line with notice := none } }) ∧
              (f.mixed = false → s.ctl.standing = .survey .adopting → t = (d.adoptFrame f).noticeFrame f) ∧
              (f.mixed = false → s.ctl.standing ≠ .survey .adopting → t = (d.handFrame f).noticeFrame f))) ∧
      (r.role = .passed → t = { s with
        tick := now.tick, clk := now.clk, line := { s.line with reduction := some { r with markSeen := true } } })

/-- R146, R147, R148: a MARK still low after 700 ms is OVERLONG and breaks the frame it started; 1,010 ms after the last line second taken
the frame breaks with MISSING, unless a fall inside the window has yet to settle. That it does so too while a fall from before the window
has yet to settle, which R146 also calls an extra fall, is the model's choice (notes/assumptions/35.md). A broken frame counts as bad,
leaves its reason, and clears the candidate and the notice. -/
def Obligations.FramesBreakOverlongOrMissing : Prop :=
  let broken (reason : BreakReason) (l : LineReader) : LineReader :=
    { l with decoder := .hunting, assembly := none, lastBreak := some reason, candidate := none, notice := none }
  let bad (c : Counters) : Counters :=
    { c with lineFramesBad := if c.lineFramesBad < 255 then c.lineFramesBad + 1 else 255 }
  (∀ (now : Instant) (s : State) (r : Reduction), s.timer.monitor = .up → s.ctl.test.state ≠ .running →
    s.line.reduction = some r → r.markSeen = true → r.overSeen = false → r.fall + 7000000 = now.tick →
    let seen : LineReader := { s.line with reduction := some { r with overSeen := true } }
    (∀ a, s.line.assembly = some a → a.markFall = r.fall →
      exec (.overlong now) s = .next { s with
        tick := now.tick, clk := now.clk, line := broken .overlong seen
        maint := { s.maint with counters := bad s.maint.counters } }) ∧
    ((∀ a ∈ s.line.assembly, a.markFall ≠ r.fall) →
      exec (.overlong now) s = .next { s with tick := now.tick, clk := now.clk, line := seen })) ∧
  ∀ (now : Instant) (s : State) (a : Assembly), s.timer.monitor = .up → s.ctl.test.state ≠ .running →
    s.line.decoder = .assembling → s.line.assembly = some a → a.windowClosed = false → a.lastFall + 10100000 = now.tick →
    (∀ r, s.line.reduction = some r → r.role = .unsettled → a.lastFall + 9900000 ≤ r.fall →
      exec (.spacingWindowClose now) s = .next { s with
        tick := now.tick, clk := now.clk, line := { s.line with assembly := some { a with windowClosed := true } } }) ∧
    ((∀ r ∈ s.line.reduction, r.role ≠ .unsettled ∨ r.fall < a.lastFall + 9900000) →
      exec (.spacingWindowClose now) s = .next { s with
        tick := now.tick, clk := now.clk, line := broken .missing s.line
        maint := { s.maint with counters := bad s.maint.counters } })

/-- R92, R125: a line frame handed over in SURVEY or DEFERRED, later than the comparison floor, is compared with the keyer's own frame of
its N0 in the order frame, length, symbols, MARK offset; the first difference is the result, and none of it is AGREE. The own frame is the
comparison copy, the current frame or the next frame, whichever holds that N0; where the copy does not hold it, a stale next frame is
rebuilt first, also when the current frame holds it or none does. That the Frame Builder is not asked where the copy holds it is the
model's choice (notes/assumptions/33.md), as is the truncation of the MARK offset to µs (notes/assumptions/20.md). It is measured from
the drive instant of N0's epoch: the latest second that held that count, or, for an epoch to come, the coming drive instant moved on by
the seconds still to pass, counted across a committed leap. That those seconds are nominal, that an epoch before the time was
SET is counted back, and that the fall's own second serves where no epoch is known, is the model's reading (notes/assumptions/20.md).
R126 to R129, R134: what a comparison does. AGREE sets the pending join, also while the range is marked as ending, which is the model's
choice (notes/assumptions/17.md). A disagreement clears a pending join; without one it takes
WATCHING at class A, and CONFIRMING, to DEFERRED with the alarm CONFLICT, and WATCHING at another class to ADOPTING with the frame as
candidate; in DEFERRED it does nothing more. A frame that is not later than the floor, or comes in another standing, is not compared. That
the disagreement which clears a pending join does nothing else is the model's reading (notes/assumptions/20.md), and its answer in
ADOPTING, where a frame goes to the adoption and none is handed over, is for states no run reaches (notes/assumptions/31.md). -/
def Obligations.ComparisonsMoveTheStanding : Prop :=
  (∀ (f : LineFrame) (s : State), s.ctl.standing.surveys = true → (∀ n ∈ s.ctl.floor, n < f.n0) →
    let t := s.handFrame f
    let result (c : Comparison) : Prop := t.ctl.lastComparison = some { n0 := f.n0, result := c }
    let notCopy : Prop := ∀ o ∈ s.ctl.copy, o.n0 ≠ f.n0
    let notCurrent : Prop := ∀ o ∈ s.frames.current, o.n0 ≠ f.n0
    let asked : Prop := ((∀ g ∈ s.frames.next, g.stale = false) → t.frames = s.frames) ∧
      ∀ g, s.frames.next = some g → g.stale = true → t.frames = { s.frames with
        next := some (frameFor g.n0 .onTime (buildWord g.n0 s) s), latch := some (buildWord g.n0 s)
        rebuilds := if s.frames.rebuilds < 255 then s.frames.rebuilds + 1 else 255 }
    let held (o : Frame) : Prop := o.n0 = f.n0 ∧
      ((s.ctl.copy = some o ∧ t.frames = s.frames) ∨ (notCopy ∧ t.frames.current = some o) ∨
        (notCopy ∧ notCurrent ∧ t.frames.next = some o))
    (s.time.n = none → result .noFrame ∧ t.frames = s.frames) ∧
    (s.time.n.isSome = true → notCopy → asked ∧ t.frames.current = s.frames.current) ∧
    (s.time.n.isSome = true → notCopy → notCurrent → (∀ o ∈ s.frames.next, o.n0 ≠ f.n0) → result .noFrame) ∧
    (s.time.n.isSome = true →
      ((∃ o, s.ctl.copy = some o ∧ o.n0 = f.n0) ∨ (∃ o, s.frames.current = some o ∧ o.n0 = f.n0) ∨
        ∃ o, s.frames.next = some o ∧ o.n0 = f.n0) →
      ∃ o, held o ∧
        let off := match s.driveOfCount f.n0 with
                   | some t0 => f.markFall - t0
                   | none => f.markTicks
        let tol : Int := 10 * (s.load.params.site.epochTol : Int)
        (o.symbols.length ≠ f.symbols.length → result .length) ∧
        (o.symbols.length = f.symbols.length →
          (∀ i, (∀ j, j < i → o.symbols[j]? = f.symbols[j]?) → o.symbols[i]? ≠ f.symbols[i]? → result (.symbol i)) ∧
          (o.symbols = f.symbols →
            (-tol ≤ off → off ≤ tol → result .agree) ∧
            ((off < -tol ∨ tol < off) → result (.markOffset (off.tdiv 10))))))) ∧
  (∀ (s : State) (m n : Int), s.time.n = some n →
    (m ≤ n → ∀ p, s.timer.past.find? (fun p => p.count == some m) = some p → s.driveOfCount m = some p.t0) ∧
    (m ≤ n → (∀ p ∈ s.timer.past, p.count ≠ some m) → ∀ p, s.timer.past[(n - m).toNat]? = some p → p.count = none →
      s.driveOfCount m = some p.t0) ∧
    (n < m → ∀ d, s.timer.nextDrive = some d →
      (committedLeap s.schedule = none → s.driveOfCount m = some (d + 10000000 * (m - (n + 1)))) ∧
      (∀ e, committedLeap s.schedule = some e → e.kind = .leapInsert → e.instant = m →
        (n + 1 < m ∨ ∀ p ∈ s.timer.past.head?, p.leap ≠ .inserted) → s.driveOfCount m = some (d + 10000000 * (m - n))) ∧
      (∀ e, committedLeap s.schedule = some e → e.kind = .leapDelete → e.instant = m → n + 2 ≤ m →
        s.driveOfCount m = some (d + 10000000 * (m - (n + 2)))))) ∧
  (∀ (f : LineFrame) (s : State),
    ((s.ctl.standing.surveys = false ∨ ∃ n, s.ctl.floor = some n ∧ f.n0 ≤ n) → s.handFrame f = s) ∧
    (s.ctl.standing.surveys = true → (∀ n ∈ s.ctl.floor, n < f.n0) →
      let t := s.handFrame f
      let agreed : Prop := t.ctl.lastComparison = some { n0 := f.n0, result := .agree }
      let deferred : Prop := t.ctl.standing = .deferred ∧ t.ctl.silenceFrom = some s.tick ∧ t.ctl.silence = false ∧
        t.ctl.pendingJoin = false ∧ t.line.candidate = none ∧ t.maint.alarms = raiseIn .conflict s.time.n s.maint.alarms
      let same : Prop := t.ctl.standing = s.ctl.standing ∧ t.maint = s.maint ∧ t.line = s.line
      (agreed → t.ctl.pendingJoin = true ∧ same) ∧
      (¬ agreed → s.ctl.pendingJoin = true → t.ctl.pendingJoin = false ∧ same) ∧
      (¬ agreed → s.ctl.pendingJoin = false →
        (s.ctl.standing = .survey .watching → s.cls = .a → deferred) ∧
        (s.ctl.standing = .survey .watching → s.cls ≠ .a →
          t.ctl.standing = .survey .adopting ∧ t.line.candidate = some f.n0 ∧ t.ctl.pendingJoin = false ∧ t.maint = s.maint) ∧
        (s.ctl.standing = .survey .confirming → deferred) ∧
        ((s.ctl.standing = .survey .adopting ∨ s.ctl.standing = .deferred) → t.ctl.pendingJoin = false ∧ same)) ∧
      t.time = s.time ∧ t.timer = s.timer ∧ t.ref = s.ref ∧ t.schedule = s.schedule ∧ t.key = s.key ∧ t.load = s.load))

/-- R47, R50, R52, R154, R155: a frame delivered under adoption leave that does not follow the candidate by 60, or has not 60 symbols,
becomes the candidate. One that follows gives N its count for the second of its MARK, moved on by the epochs since, with origin LINE;
its MARK's offset is held as a step, and the phase becomes CONFIRMING. R53: it replaces both parts of a re-set held before, also before
the epoch that would take it (notes/assumptions/15.md); a difference that leads out of the range of N changes no count
(notes/assumptions/17.md). -/
def Obligations.TwoFramesInARowAreAdopted : Prop :=
  ∀ (f : LineFrame) (s : State),
    ((s.line.candidate ≠ some (f.n0 - 60) ∨ f.symbols.length ≠ 60) →
      s.adoptFrame f = { s with line := { s.line with candidate := some f.n0 } }) ∧
    ∀ (p : PastSecond) (since : Nat), s.line.candidate = some (f.n0 - 60) → f.symbols.length = 60 →
      s.secondOf f.markFall = some p.t0 → pastAt p.t0 s.timer.past 0 = some (p, since) → s.ref.state ≠ .locked →
      0 ≤ f.n0 → f.n0 + since ≤ 3155759999 → s.ctl.standing = .survey .adopting →
      let t := s.adoptFrame f
      let adopted : Prop := t.ctl.standing = .survey .confirming ∧ t.line.candidate = none ∧ t.time.origin = some .line ∧
        t.time.age = none ∧ t.timer.heldStep = some (f.markFall - p.t0) ∧ t.ref = s.ref
      (s.time.n = none → adopted ∧ t.time.n = some (f.n0 + since)) ∧
      ∀ n own, s.time.n = some n → 0 < since → (s.timer.past[since]?).bind (fun q => q.count) = some own →
        adopted ∧ t.time.pendingReset = none ∧
        (own = f.n0 → t.time.n = some n ∧ t.frames = s.frames ∧ t.ctl.floor = s.ctl.floor) ∧
        ((n + (f.n0 - own) < 0 ∨ 3155759999 < n + (f.n0 - own)) → t.time.n = some n) ∧
        (own ≠ f.n0 → 0 ≤ n + (f.n0 - own) → n + (f.n0 - own) ≤ 3155759999 →
          t.time.n = some (n + (f.n0 - own)) ∧ t.time.leap60 = false ∧
          ∃ g, t.frames.current = some g ∧ g.kind = .catchUp ∧ t.ctl.floor = some g.n0)

/-- R123: 2.5 s of ticks after the silence timer's start, in SURVEY or DEFERRED, the line is silent; R34: 10 s after the last good labelled
pulse ACQUIRE is left, for HOLDOVER when the origin is REF and for NOREF otherwise; R179: ALERT_DELAY seconds after the first raising
ALERT_N is asserted. -/
def Obligations.TimersRunOut : Prop :=
  (∀ (now : Instant) (s : State) (f : Int), s.timer.monitor = .up →
    ((∃ p, s.ctl.standing = .survey p) ∨ s.ctl.standing = .deferred) → s.ctl.silenceFrom = some f → f + 25000000 = now.tick →
    exec (.silence now) s = .next { s with tick := now.tick, clk := now.clk, ctl := { s.ctl with silence := true } }) ∧
  (∀ (now : Instant) (s : State) (f : Int), s.timer.monitor = .up → s.ref.state = .acquire → s.ref.acquireFrom = some f →
    f + 100000000 = now.tick →
    exec (.acquireTimeout now) s = .next { s with
      tick := now.tick, clk := now.clk
      ref := { s.ref with
        state := if s.time.origin = some .ref then .holdover else .noref
        streak := 0, streakLast := none, acquireFrom := none } }) ∧
  ∀ (now : Instant) (s : State) (c : Nat), s.load.phase = .done → s.maint.alertFrom = some c →
    c + s.load.params.alert.delay * 1000000 = now.clk →
    exec (.alertDelayExpiry now) s = .next { s with
      tick := now.tick, clk := now.clk, maint := { s.maint with alertN := true } }

/-! ## Reference records and pulses -/

/-- R29, R31: 0xC3 begins a record while the receiver hunts and is plain data inside one; a gap of more than 5 ms after a byte, or a low
stop bit, abandons a partial record as bad; and a waiting record is dropped as bad 950 ms after its time. R30, R31, R184: a complete
record is checked in order: CRC and type, either of which makes it bad with no other trace; then its sequence number, a step of other
than one counting a gap; then N, out of range making it bad; then it waits to label a pulse, with its fields as they lie in its bytes.
Leap kind 3 counts one in LEAP_REFUSED, and a record still waiting is bad. R29, R184: on TREC_IN, while the monitor is UP, a start bit,
eight data bits, least significant first, and a high stop bit make a byte at the stop bit's end. While hunting, 0xC3 starts a record with
RECORD_START and any other byte is discarded; inside a record every byte is appended, and the 16th completes it with REFERENCE_RECORD. A
low stop bit discards the byte and abandons a partial record with RECORD_LOW_STOP_BIT; a start bit more than 5 ms after the last byte
abandons it with RECORD_BYTE_GAP, and its byte is examined as a hunting byte. While the monitor is DOWN nothing is taken. Bit i of a
character ends i + 1 periods of 1/19,200 s after its start bit begins. That these commands go to the end of the queue, and that a bit's
end, which is no whole number of ticks, is taken at the tick it falls into, is the model's choice (notes/assumptions/16.md). -/
def Obligations.RecordsAreReceivedAndChecked : Prop :=
  (∀ (now : Instant) (e : RecordLineEvent) (s : State), s.timer.monitor = .down → s.onRecordLine now e = s) ∧
  ((∀ (start : Instant) (s : State), s.timer.monitor = .up → s.ref.trec.bits = none →
    let begun (l : RecordLine) (commands : List Instr) : Prop := s.onRecordLine start .startBit = { s with
      ref := { s.ref with trec := { l with bits := some [] } }, pending := s.pending ++ commands }
    (∀ e, s.ref.trec.byteEnd = some e → e + 50000 < start.tick → begun RecordLine.idle [.recordByteGap start e]) ∧
    ((∀ e ∈ s.ref.trec.byteEnd, start.tick ≤ e + 50000) → begun s.ref.trec [])) ∧
  (∀ (s : State) (moments : List Instant) (last : Instant) (b : Byte) (stop : Level), s.timer.monitor = .up →
    s.ref.trec.bits = some [] → moments.length = 8 →
    let shifted := (moments.zip (List.range 8)).foldl
      (fun s x => s.onRecordLine x.1 (.bit (if b.getLsbD x.2 then .high else .low))) s
    let t := shifted.onRecordLine last (.bit stop)
    let record := s.ref.trec.record
    let ends (l : RecordLine) (commands : List Instr) : Prop := t = { s with
      ref := { s.ref with trec := l }, pending := s.pending ++ commands }
    (stop = .low → record = [] → ends RecordLine.idle []) ∧
    (stop = .low → record ≠ [] → ends RecordLine.idle [.recordLowStopBit last]) ∧
    (stop = .high → record = [] → b ≠ 0xC3#8 → ends RecordLine.idle []) ∧
    (stop = .high → record = [] → b = 0xC3#8 →
      ends { bits := none, record := [b], byteEnd := some last.tick } [.recordStart last]) ∧
    (stop = .high → record ≠ [] → record.length ≠ 15 →
      ends { bits := none, record := record ++ [b], byteEnd := some last.tick } []) ∧
    (stop = .high → record.length = 15 → ends RecordLine.idle [.referenceRecord last (record ++ [b])])) ∧
  ∀ (start : Int) (i : Nat), 19200 * (serialBitEnd start i - start) ≤ 10000000 * ((i : Int) + 1) ∧
    10000000 * ((i : Int) + 1) < 19200 * (serialBitEnd start i - start + 1)) ∧
  (let bad (s : State) : Maintenance := { s.maint with counters := { s.maint.counters with
    recordsBad := if s.maint.counters.recordsBad < 255 then s.maint.counters.recordsBad + 1 else 255 } }
  (∀ (now : Instant) (s : State), s.timer.monitor = .up →
    (s.ref.assembling = false → exec (.recordStart now) s = .next { s with
      tick := now.tick, clk := now.clk, ref := { s.ref with assembling := true } }) ∧
    (s.ref.assembling = true → exec (.recordStart now) s = .next s)) ∧
  (∀ (now : Instant) (s : State) (lastByteEnd : Int), s.timer.monitor = .up → s.ref.assembling = true →
    (lastByteEnd + 50000 < now.tick → exec (.recordByteGap now lastByteEnd) s = .next { s with
      tick := now.tick, clk := now.clk, ref := { s.ref with assembling := false }, maint := bad s }) ∧
    (now.tick ≤ lastByteEnd + 50000 → exec (.recordByteGap now lastByteEnd) s = .next s) ∧
    exec (.recordLowStopBit now) s = .next { s with
      tick := now.tick, clk := now.clk, ref := { s.ref with assembling := false }, maint := bad s }) ∧
  ∀ (now : Instant) (s : State) (w : WaitingRecord), s.timer.monitor = .up → s.ref.waiting = some w →
    w.time + 9500000 = now.tick →
    exec (.recordStale now) s = .next { s with
      tick := now.tick, clk := now.clk, ref := { s.ref with waiting := none }, maint := bad s }) ∧
  (∀ (now : Instant) (s : State) (bytes : List Byte), s.timer.monitor = .up → s.ref.assembling = true → bytes.length = 16 →
    bytes.head? = some 0xC3#8 →
    let at_ (i : Nat) : Nat := (bytes.getD i 0#8).toNat
    let seq := at_ 12 * 256 + at_ 13
    let n := at_ 2 * 16777216 + at_ 3 * 65536 + at_ 4 * 256 + at_ 5
    let corr : Int := (at_ 10 : Int) * 256 + at_ 11 - if 128 ≤ at_ 10 then 65536 else 0
    let plus (k : Nat) : Nat := if k < 255 then k + 1 else 255
    let c := s.maint.counters
    let ends (ref : RefUnit) (counters : Counters) : Prop := exec (.referenceRecord now bytes) s = .next { s with
      tick := now.tick, clk := now.clk, ref := { ref with assembling := false }, maint := { s.maint with counters := counters } }
    ((crc16 bytes ≠ 0#16 ∨ at_ 1 ≠ 1) → ends s.ref { c with recordsBad := plus c.recordsBad }) ∧
    (crc16 bytes = 0#16 → at_ 1 = 1 →
      ∀ gaps, ((s.ref.prevSeq = none ∨ s.ref.prevSeq = some ((seq + 65535) % 65536)) → gaps = c.recordGaps) →
        (∀ p, s.ref.prevSeq = some p → seq ≠ (p + 1) % 65536 → gaps = plus c.recordGaps) →
        (∀ p, s.ref.prevSeq = some p → p < 65536) →
        (3155759999 < n → ends { s.ref with prevSeq := some seq } { c with
          recordGaps := gaps, recordsBad := plus c.recordsBad }) ∧
        (n ≤ 3155759999 → ends
          { s.ref with
            prevSeq := some seq
            waiting := some { time := now.tick, record := {
              n := n, quality := at_ 6 % 16, leapKind := at_ 7, leapDay := at_ 8 * 256 + at_ 9, corrNs := corr } } }
          { c with
            recordGaps := gaps
            leapRefused := if at_ 7 = 3 then plus c.leapRefused else c.leapRefused
            recordsBad := if s.ref.waiting.isSome then plus c.recordsBad else c.recordsBad })))

/-- R28: a pulse is attributed to the own epoch nearest to its timestamp, the present second's or the coming one, half-way to the coming
one, and takes the leap of that epoch (R40): the present epoch's as it was taken, the coming one's as the advance will take it. Which of
the two is nearest in a second whose length a step has changed is the model's reading (notes/assumptions/12.md). R28, R31 to R34, R43: a
pulse is accepted 10 ticks into its high run and timestamped at the run's start; one whose timestamp lies less than 999 ms after that of
the last accepted one is rejected. Outside LOCKED an accepted pulse labelled at Q_MIN or above begins or goes on with a streak in
ACQUIRE; in ACQUIRE one below Q_MIN or unlabelled breaks the streak, and one whose count does not follow the last begins it again and is
a count conflict. That the label's window and the timeout go by the tick of acceptance, and the spacing by the timestamp, is the model's
reading (notes/assumptions/7.md). -/
def Obligations.PulsesBuildTheAcquireStreak : Prop :=
  (∀ (s : State) (t : Int),
    (s.timer.nextEpoch = none → s.pulseEpoch t = none) ∧
    ∀ next p rest, s.timer.nextEpoch = some next → s.timer.past = p :: rest →
      (t - p.epoch < next - t →
        s.pulseEpoch t = some { tick := t, epoch := p.epoch, since := some 0, leap := p.leap }) ∧
      (next - t ≤ t - p.epoch → ∃ step, s.pulseEpoch t = some { tick := t, epoch := next, since := none, leap := step } ∧
        (s.time.n = none → step = .plain) ∧
        (∀ n e, s.time.n = some n → committedLeap s.schedule = some e →
          (step = .inserted ↔ e.kind = .leapInsert ∧ n + 1 = e.instant ∧ p.leap ≠ .inserted) ∧
          (step = .deleted ↔ e.kind = .leapDelete ∧ n + 2 = e.instant)) ∧
        (committedLeap s.schedule = none → step = .plain))) ∧
  (∀ (now : Instant) (s : State) (p : Int), s.timer.monitor = .up → s.ref.prevPulse = some p → now.tick - 10 - p < 9990000 →
    exec (.secInPulse now) s = .next { s with
      tick := now.tick, clk := now.clk
      maint := { s.maint with counters := { s.maint.counters with
        pulsesRejected := if s.maint.counters.pulsesRejected < 255 then s.maint.counters.pulsesRejected + 1 else 255 } } }) ∧
  ∀ (now : Instant) (s : State) (pe : PulseEpoch), PulseAccepted now s → s.pulseEpoch (now.tick - 10) = some pe →
    s.ref.state ≠ .locked →
    ∃ t, exec (.secInPulse now) s = .next t ∧ t.ref.prevPulse = some (now.tick - 10) ∧ t.ref.prevSeq = s.ref.prevSeq ∧
      t.load = s.load ∧
      let begun (r : RefRecord) (k : Nat) : Prop :=
        t.ref.state = .acquire ∧ t.ref.streak = k ∧ t.ref.streakLast = some { n := r.n, tick := now.tick - 10 } ∧
          t.ref.acquireFrom = some now.tick ∧ t.ref.waiting = none ∧ t.ref.lastLabel = some r ∧ t.time = s.time ∧
          t.timer = s.timer ∧ t.ctl = s.ctl ∧ t.key = s.key ∧
          t.maint.counters.pulsesGood =
            if s.maint.counters.pulsesGood < 9999 then s.maint.counters.pulsesGood + 1 else 0
      let kept : Prop := t.time = s.time ∧ t.timer = s.timer ∧ t.ctl = s.ctl ∧ t.schedule = s.schedule ∧
        t.frames = s.frames ∧ t.line = s.line ∧ t.key = s.key
      (∀ r, GoodLabel now r s → (s.ref.state = .noref ∨ s.ref.state = .holdover) → begun r 1 ∧ kept) ∧
      (∀ r, GoodLabel now r s → s.ref.state = .acquire →
        (s.ref.streakLast = none → begun r 1) ∧
        ∀ last, s.ref.streakLast = some last →
          let follows : Prop := r.n = last.n + 1 ∨ (pe.leap = .inserted ∧ r.n = last.n) ∨ (pe.leap = .deleted ∧ r.n = last.n + 2)
          let spaced : Prop := 9990000 ≤ now.tick - 10 - last.tick ∧ now.tick - 10 - last.tick ≤ 10010000
          (follows → spaced → s.ref.streak ≠ 3 → begun r (s.ref.streak + 1)) ∧
          (follows → ¬ spaced → begun r 1 ∧ t.maint.counters.countConflicts = s.maint.counters.countConflicts) ∧
          (¬ follows → begun r 1 ∧ t.maint.counters.countConflicts =
            if s.maint.counters.countConflicts < 255 then s.maint.counters.countConflicts + 1 else 255)) ∧
      ((s.ref.waiting = none ∨ ∃ w, s.ref.waiting = some w ∧ (now.tick - w.time < 500000 ∨ 9500000 < now.tick - w.time)) →
        kept ∧ t.maint = s.maint ∧ t.ref.waiting = s.ref.waiting ∧ t.ref.state = s.ref.state ∧
          (s.ref.state = .acquire → t.ref.streak = 0 ∧ t.ref.streakLast = none ∧ t.ref.acquireFrom = s.ref.acquireFrom)) ∧
      (∀ w, s.ref.waiting = some w → 500000 ≤ now.tick - w.time → now.tick - w.time ≤ 9500000 →
        w.record.quality < s.load.params.site.qMin →
        kept ∧ t.ref.waiting = none ∧ t.ref.lastLabel = some w.record ∧ t.ref.state = s.ref.state ∧
          t.maint.counters.pulsesGood = s.maint.counters.pulsesGood ∧
          t.maint.counters.pulsesRejected =
            (if s.maint.counters.pulsesRejected < 255 then s.maint.counters.pulsesRejected + 1 else 255) ∧
          (s.ref.state = .acquire → t.ref.streak = 0 ∧ t.ref.streakLast = none))

/-- R33, R35, R36, R40, R47, R50, R52, R53: the fourth pulse of a streak, its N one more than the last one's or repeated or skipped at a
leap's epoch, makes the unit LOCKED, with every streak at 0. While UNSET its count is taken for the present second, or held for the coming
epoch; while SET off the line the difference goes into N at once and the completion error is a held step; while ACTIVE both wait as a
pending re-set. Either way they replace the re-set held before: that a completion while ACTIVE with neither part leaves none held, and
that one off the line before the epoch replaces both parts of it, is the model's reading (notes/assumptions/15.md), and so is the
timestamp's use (notes/assumptions/7.md). A difference that leads out of the range of N changes nothing (notes/assumptions/17.md). R70:
the class becomes A, so that the uncommitted LINE entries leave the schedule; the others stand where no difference is taken and no leap
offered. -/
def Obligations.FourthPulseLocks : Prop :=
  ∀ (now : Instant) (s : State) (pe : PulseEpoch) (r : RefRecord) (last : StreakPulse), PulseAccepted now s →
    s.pulseEpoch (now.tick - 10) = some pe → GoodLabel now r s → s.ref.state = .acquire → s.ref.streak = 3 →
    s.ref.streakLast = some last →
    (r.n = last.n + 1 ∨ (pe.leap = .inserted ∧ r.n = last.n) ∨ (pe.leap = .deleted ∧ r.n = last.n + 2)) →
    9990000 ≤ now.tick - 10 - last.tick → now.tick - 10 - last.tick ≤ 10010000 → 0 ≤ r.n → r.n ≤ 3155759999 →
    ∃ t, exec (.secInPulse now) s = .next t ∧ t.ref.state = .locked ∧ t.ref.streak = 0 ∧ t.ref.streakLast = none ∧
      t.ref.acquireFrom = none ∧ t.ref.missingStreak = 0 ∧ t.ref.outlierStreak = 0 ∧ t.ref.conflictStreak = 0 ∧
      t.ref.unlabelledRun = 0 ∧ t.ref.noneRun = 0 ∧ t.key.drive = s.key.drive ∧ t.timer.heldRef = s.timer.heldRef ∧
      let e := refError (now.tick - 10) pe.epoch r.corrNs
      let active : Prop := s.ctl.standing = .active
      let setNow : Prop := t.time.n = some r.n ∧ t.time.origin = some .ref ∧ t.time.age = some 0 ∧ t.cls = .a
      (s.time.n = none →
        (¬ active → t.timer.heldStep = some e) ∧ (active → t.timer.heldStep = s.timer.heldStep) ∧
        (pe.since = some 0 → setNow ∧ t.time.pendingSet = none) ∧
        (pe.since = none → t.time.n = none ∧
          t.time.pendingSet = some { count := r.n, epoch := pe.epoch, origin := .ref })) ∧
      ∀ n own, s.time.n = some n → ((pe.since = some 0 ∧ own = n) ∨ (pe.since = none ∧ s.comingCount.map Prod.fst = some own)) →
        t.time.origin = some .ref ∧ t.time.age = some 0 ∧ t.cls = .a ∧
        (∀ x ∈ t.schedule, x.source = .line → x.committed = true) ∧
        ((active ∨ own = r.n) → r.leapKind ≠ 1 → r.leapKind ≠ 2 →
          t.schedule = s.schedule.filter (fun x => decide (x.source = .line → x.committed = true))) ∧
        (¬ active → t.timer.heldStep = some e ∧ t.time.pendingReset = none ∧
          (own = r.n → t.time.n = some n ∧ t.ctl.floor = s.ctl.floor) ∧
          (0 ≤ n + (r.n - own) → n + (r.n - own) ≤ 3155759999 → t.time.n = some (n + (r.n - own))) ∧
          ((n + (r.n - own) < 0 ∨ 3155759999 < n + (r.n - own)) → t.time.n = some n)) ∧
        (active → t.time.n = some n ∧ t.timer.heldStep = s.timer.heldStep ∧ t.ctl.standing = .active ∧
          let within : Prop := -(10 * (s.load.params.site.outlier : Int)) ≤ e ∧ e ≤ 10 * (s.load.params.site.outlier : Int)
          (own = r.n → within → t.time.pendingReset = none) ∧
          (own = r.n → ¬ within → t.time.pendingReset = some { difference := none, phase := some e }) ∧
          (own ≠ r.n → within → t.time.pendingReset = some { difference := some (r.n - own), phase := none }) ∧
          (own ≠ r.n → ¬ within → t.time.pendingReset = some { difference := some (r.n - own), phase := some e }))

/-- R31, R37, R38, R50: in LOCKED a good pulse of the keyer's own count within OUTLIER is a REF phase sample, and takes the age to 0. A
count that differs is a conflict, and the third in a row leaves LOCKED for ACQUIRE; an error beyond OUTLIER is an outlier, and the
fourth in a row does the same. One below Q_MIN gives no sample; one without a label, as no record waits or the waiting one's window does
not hold it, gives one with the last label's correction, or with none before the first label, up to ten in a row. A pulse that is no
sample changes no schedule. That a pulse below Q_MIN, or unlabelled past the tenth, leaves the missing streak to the close of its window
is the model's reading (notes/assumptions/13.md); that it returns the outlier and conflict streaks to 0, and that leaving LOCKED returns
every streak to 0, is too (notes/assumptions/14.md), and the timestamp's use (notes/assumptions/7.md). -/
def Obligations.LockedPulsesAreTested : Prop :=
  ∀ (now : Instant) (s : State) (pe : PulseEpoch), PulseAccepted now s → s.pulseEpoch (now.tick - 10) = some pe →
    s.ref.state = .locked →
    ∃ t, exec (.secInPulse now) s = .next t ∧ t.time.n = s.time.n ∧ t.key = s.key ∧
      t.ref.prevPulse = some (now.tick - 10) ∧
      let c := s.maint.counters
      let plus (k : Nat) : Nat := if k < 255 then k + 1 else 255
      let beyond (e : Int) : Prop := e < -(10 * (s.load.params.site.outlier : Int)) ∨ 10 * (s.load.params.site.outlier : Int) < e
      let kept (missing : Bool) : Prop := t.ref.pulses.head? = some { tick := now.tick - 10, missing := missing }
      let samples (e : Int) : Prop := t.timer = { s.timer with heldRef := some e } ∧ t.ref.state = .locked ∧
        t.ref.missingStreak = 0 ∧ t.ref.outlierStreak = 0 ∧ t.ref.conflictStreak = 0
      let leaves : Prop := t.ref.state = .acquire ∧ t.ref.streak = 0 ∧ t.ref.streakLast = none ∧
        t.ref.acquireFrom = some now.tick ∧ t.ref.missingStreak = 0 ∧ t.ref.outlierStreak = 0 ∧ t.ref.conflictStreak = 0 ∧
        t.ref.unlabelledRun = 0 ∧ t.ref.noneRun = 0
      let outlier (rejected : Nat) : Prop := t.timer = s.timer ∧ t.schedule = s.schedule ∧
        t.maint.counters.pulsesRejected = plus rejected ∧
        (s.ref.outlierStreak ≠ 3 →
          t.ref.state = .locked ∧ t.ref.outlierStreak = s.ref.outlierStreak + 1 ∧ t.ref.conflictStreak = 0 ∧
            t.ref.missingStreak = s.ref.missingStreak ∧ t.ref.noneRun = s.ref.noneRun) ∧
        (s.ref.outlierStreak = 3 → leaves)
      (∀ r own, GoodLabel now r s →
        ((pe.since = some 0 ∧ s.time.n = own) ∨ (pe.since = none ∧ s.comingCount.map Prod.fst = own)) →
        let e := refError (now.tick - 10) pe.epoch r.corrNs
        t.ref.unlabelledRun = 0 ∧ t.ref.waiting = none ∧ t.ref.lastLabel = some r ∧ kept false ∧
        (own = some r.n → ¬ beyond e → samples e ∧ t.time.age = s.time.age.map (fun _ => 0)) ∧
        (own = some r.n → beyond e → outlier c.pulsesRejected) ∧
        (own ≠ some r.n → t.timer = s.timer ∧ t.schedule = s.schedule ∧
          t.maint.counters.countConflicts = plus c.countConflicts ∧
          (s.ref.conflictStreak ≠ 2 →
            t.ref.state = .locked ∧ t.ref.conflictStreak = s.ref.conflictStreak + 1 ∧ t.ref.outlierStreak = 0 ∧
              t.ref.missingStreak = s.ref.missingStreak ∧ t.ref.noneRun = s.ref.noneRun) ∧
          (s.ref.conflictStreak = 2 → leaves))) ∧
      (∀ w, s.ref.waiting = some w → 500000 ≤ now.tick - w.time → now.tick - w.time ≤ 9500000 →
        w.record.quality < s.load.params.site.qMin →
        t.timer = s.timer ∧ t.schedule = s.schedule ∧ t.ref.state = .locked ∧ t.time = s.time ∧ kept true ∧
          t.ref.waiting = none ∧ t.ref.lastLabel = some w.record ∧ t.ref.missingStreak = s.ref.missingStreak ∧
          t.ref.outlierStreak = 0 ∧ t.ref.conflictStreak = 0 ∧ t.ref.unlabelledRun = s.ref.unlabelledRun ∧
          t.maint.counters.pulsesRejected = plus c.pulsesRejected) ∧
      ((s.ref.waiting = none ∨ ∃ w, s.ref.waiting = some w ∧ (now.tick - w.time < 500000 ∨ 9500000 < now.tick - w.time)) →
        t.ref.waiting = s.ref.waiting ∧ t.ref.lastLabel = s.ref.lastLabel ∧ t.schedule = s.schedule ∧
        (10 ≤ s.ref.unlabelledRun → t.timer = s.timer ∧ t.ref.state = .locked ∧ t.maint = s.maint ∧ t.time = s.time ∧ kept true ∧
          t.ref.missingStreak = s.ref.missingStreak ∧ t.ref.outlierStreak = 0 ∧ t.ref.conflictStreak = 0 ∧
          t.ref.unlabelledRun = s.ref.unlabelledRun) ∧
        ∀ corr : Int, ((s.ref.lastLabel = none ∧ corr = 0) ∨ ∃ r, s.ref.lastLabel = some r ∧ corr = r.corrNs) →
          s.ref.unlabelledRun < 10 →
          let e := refError (now.tick - 10) pe.epoch corr
          kept false ∧
          (¬ beyond e → samples e ∧ t.ref.unlabelledRun = s.ref.unlabelledRun + 1 ∧ t.maint = s.maint ∧ t.time = s.time) ∧
          (beyond e → outlier c.pulsesRejected ∧
            (s.ref.outlierStreak ≠ 3 → t.ref.unlabelledRun = s.ref.unlabelledRun + 1)))

/-- R39, R51: at the close of an own epoch's window a second without an accepted pulse, or with one that counts as missing, is one more
missing in a row; the third takes the unit to HOLDOVER with every streak at 0 and raises REF_LOST. A second with a pulse that counts
changes no streak. A pulse lies in the window by its timestamp, and one accepted after the close is not seen there
(notes/assumptions/7.md); where two pulses lie in one window, any one of them that counts as missing makes the second missing
(notes/assumptions/13.md): both are the model's reading. -/
def Obligations.ThreeMissingSecondsEnterHoldover : Prop :=
  ∀ (now : Instant) (s : State) (p : PastSecond), s.timer.monitor = .up → s.ref.state = .locked → p ∈ s.timer.past →
    p.epoch + 5000000 = now.tick → p.refJudged = false →
    ∃ t, exec (.refWindowClose now) s = .next t ∧
      let inside (q : AcceptedPulse) : Prop := p.epoch - 5000000 ≤ q.tick ∧ q.tick < p.epoch + 5000000
      let missing : Prop := (∀ q ∈ s.ref.pulses, ¬ inside q) ∨ ∃ q ∈ s.ref.pulses, inside q ∧ q.missing = true
      (¬ missing → t.ref = s.ref ∧ t.maint = s.maint ∧ t.ctl = s.ctl ∧ t.schedule = s.schedule) ∧
      (missing → s.ref.missingStreak ≠ 2 →
        t.ref = { s.ref with missingStreak := s.ref.missingStreak + 1 } ∧ t.maint = s.maint ∧ t.ctl = s.ctl) ∧
      (missing → s.ref.missingStreak = 2 →
        t.ref.state = .holdover ∧ t.ref.missingStreak = 0 ∧ t.ref.outlierStreak = 0 ∧ t.ref.conflictStreak = 0 ∧
        t.ref.noneRun = 0 ∧ t.holds .refLost = true ∧
        (s.ctl.standing = .deferred → (t.cls = .b ∨ t.cls = .c) → t.ctl.standing = .survey .watching) ∧
        (s.ctl.standing ≠ .deferred → t.ctl.standing = s.ctl.standing)) ∧
      (∀ q ∈ t.timer.past, q.epoch = p.epoch → q.refJudged = true) ∧
      t.timer.heldRef = s.timer.heldRef ∧ t.timer.f = s.timer.f ∧ t.time = s.time ∧ t.key = s.key

/-- R41, R42, R68: a used pulse's leap kind offers the second after its day D, which a day that is no month's end or that is over refuses;
60 REF samples in a row of leap kind 0 or 3 cancel the uncommitted leap entries of the reference. The used pulses are the good labelled
ones of ACQUIRE, the fourth of a streak among them, and the REF phase samples of LOCKED with a good label, and no other pulse offers or
counts toward the none-run; in NOREF and HOLDOVER a pulse makes no offer. That the fourth pulse's offer follows its completion, and that
a leap kind above 3 does neither, is the model's reading (notes/assumptions/15.md). -/
def Obligations.LeapKindsOfferAndCancel : Prop :=
  (∀ (r : RefRecord) (s : State),
    let kindOk : Prop := r.leapKind = 1 ∨ r.leapKind = 2
    let dayOk : Prop := monthEnd r.leapDay = true ∧ r.n < (r.leapDay + 1) * 86400
    ((¬ kindOk ∨ s.time.n = none) → s.leapOffer r = s) ∧
    (kindOk → s.time.n.isSome = true → ¬ dayOk → s.leapOffer r = { s with maint := { s.maint with counters :=
      { s.maint.counters with
        leapRefused := if s.maint.counters.leapRefused < 255 then s.maint.counters.leapRefused + 1 else 255 } } }) ∧
    (kindOk → s.time.n.isSome = true → dayOk → s.leapOffer r = s.offer {
      instant := (r.leapDay + 1) * 86400, kind := if r.leapKind = 1 then .leapInsert else .leapDelete, newOffset := none
      source := .ref }) ∧
    (∀ n, r.leapKind = 1 → s.time.n = some n → dayOk → n < (r.leapDay + 1) * 86400 →
      (r.leapDay + 1) * 86400 ≤ 3155760000 → s.schedule = [] →
      (s.leapOffer r).schedule = [{ instant := (r.leapDay + 1) * 86400, kind := .leapInsert, newOffset := none, source := .ref
                                    committed := false }]) ∧
    (∀ n, r.leapKind = 2 → s.time.n = some n → dayOk → n < (r.leapDay + 1) * 86400 →
      (r.leapDay + 1) * 86400 ≤ 3155760000 → s.schedule = [] →
      (s.leapOffer r).schedule = [{ instant := (r.leapDay + 1) * 86400, kind := .leapDelete, newOffset := none, source := .ref
                                    committed := false }])) ∧
  (∀ (r : RefRecord) (s : State),
    (3 < r.leapKind → s.countNone r = s) ∧
    ((r.leapKind = 1 ∨ r.leapKind = 2) → s.countNone r = { s with ref := { s.ref with noneRun := 0 } }) ∧
    ((r.leapKind = 0 ∨ r.leapKind = 3) →
      (s.ref.noneRun ≠ 59 → s.countNone r = { s with ref := { s.ref with noneRun := s.ref.noneRun + 1 } }) ∧
      (s.ref.noneRun = 59 → (s.countNone r).ref = { s.ref with noneRun := 0 } ∧
        (s.countNone r).schedule = s.schedule.filter (fun e =>
          decide (¬ (e.kind ≠ .offset ∧ e.source = .ref ∧ e.committed = false)))))) ∧
  ∀ (now : Instant) (s : State) (pe : PulseEpoch) (r : RefRecord), PulseAccepted now s →
    s.pulseEpoch (now.tick - 10) = some pe → GoodLabel now r s →
    ∃ t, exec (.secInPulse now) s = .next t ∧
      let same (u : State) : Prop := u.schedule = s.schedule ∧ u.frames = s.frames ∧ u.time.n = s.time.n ∧
        u.time.origin = s.time.origin ∧ u.load = s.load
      ((s.ref.state = .noref ∨ s.ref.state = .holdover) → same t) ∧
      (s.ref.state = .acquire → s.ref.streak ≠ 3 → ∃ u : State, same u ∧ u.ref.state = .acquire ∧ t = u.leapOffer r) ∧
      (s.ref.state = .acquire → ∀ last, s.ref.streakLast = some last → s.ref.streak = 3 →
        (r.n = last.n + 1 ∨ (pe.leap = .inserted ∧ r.n = last.n) ∨ (pe.leap = .deleted ∧ r.n = last.n + 2)) →
        9990000 ≤ now.tick - 10 - last.tick → now.tick - 10 - last.tick ≤ 10010000 →
        ∃ u : State, u.ref.state = .locked ∧ u.ref.noneRun = 0 ∧ t = u.leapOffer r) ∧
      (s.ref.state = .locked → ∀ own,
        ((pe.since = some 0 ∧ s.time.n = own) ∨ (pe.since = none ∧ s.comingCount.map Prod.fst = own)) →
        let e := refError (now.tick - 10) pe.epoch r.corrNs
        let within : Prop := -(10 * (s.load.params.site.outlier : Int)) ≤ e ∧ e ≤ 10 * (s.load.params.site.outlier : Int)
        (own = some r.n → within →
          ∃ u : State, same u ∧ u.ref.state = .locked ∧ u.ref.noneRun = s.ref.noneRun ∧ t = (u.countNone r).leapOffer r) ∧
        ((own ≠ some r.n ∨ ¬ within) → same t ∧ (t.ref.state = .locked → t.ref.noneRun = s.ref.noneRun)))

/-! ## Alarms and counters -/

/-- R177, R179: a raising makes the entry of its kind, with the present N and a count of 1, or counts one more on it up to 255 and keeps its
first N; it adds one to the raisings, starts the delay timer when that is idle, and asserts ALERT_N when the load has completed and the
raisings have reached ALERT_COUNT. -/
def Obligations.RaisingsMakeAlarmsAndAlert : Prop :=
  ∀ (k : AlarmKind) (s : State),
    let t := s.raise k
    ((∀ e ∈ s.maint.alarms, e.kind ≠ k) →
      t.maint.alarms = s.maint.alarms ++ [{ kind := k, firstN := s.time.n, count := 1 }]) ∧
    (∀ pre e post, s.maint.alarms = pre ++ e :: post → e.kind = k → (∀ x ∈ pre, x.kind ≠ k) →
      t.maint.alarms = pre ++ { e with count := if e.count < 255 then e.count + 1 else 255 } :: post) ∧
    t.maint.raisings = (if s.maint.raisings < 255 then s.maint.raisings + 1 else 255) ∧
    (s.maint.alertFrom = none → t.maint.alertFrom = some s.clk) ∧
    (∀ c, s.maint.alertFrom = some c → t.maint.alertFrom = some c) ∧
    (t.maint.alertN = true ↔ s.maint.alertN = true ∨
      (s.load.phase = .done ∧ s.load.params.alert.count ≤ t.maint.raisings)) ∧
    t = { s with maint := { s.maint with
      alarms := t.maint.alarms, raisings := t.maint.raisings, alertFrom := t.maint.alertFrom, alertN := t.maint.alertN } }

/-- R178: ACK_ALARMS empties the alarm set, takes the raisings to 0, stops the delay timer and releases ALERT_N, is answered ACCEPTED, and
changes nothing else, so that with the set empty already it changes nothing; a raising taken before it is removed with the rest, and one
taken after it makes a new entry with a count of 1, judged for ALERT_N from there. -/
def Obligations.AckAlarmsEmptiesTheAlarmSet : Prop :=
  ∀ (now : Instant) (s : State) (k : AlarmKind), s.load.phase = .done →
    ∃ t, exec (.ackAlarms now) s = .next t ∧
      t = { s with
        tick := now.tick, clk := now.clk
        maint := { s.maint with
          alarms := [], raisings := 0, alertFrom := none, alertN := false, lastCommand := some 0x81#8
          lastResult := some .accepted } } ∧
      (s.maint.alarms = [] → s.maint.raisings = 0 → s.maint.alertFrom = none → s.maint.alertN = false →
        t.maint = { s.maint with lastCommand := some 0x81#8, lastResult := some .accepted }) ∧
      exec (.ackAlarms now) (s.raise k) = .next t ∧
      (t.raise k).maint.alarms = [{ kind := k, firstN := s.time.n, count := 1 }] ∧ (t.raise k).maint.raisings = 1 ∧
      (t.raise k).maint.alertFrom = some now.clk ∧
      ((t.raise k).maint.alertN = true ↔ s.load.params.alert.count ≤ 1)

/-- R173, R175, R176, R187: the selection of COUNTERS copies the fifteen counters, two bytes each, and two bytes of 0, and sets every
counter to 0; nothing besides changes, the rebuild count among it, and a second selection at once reads 0 throughout. -/
def Obligations.CountersAreReadAndCleared : Prop :=
  ∀ (now later : Instant) (s : State), s.load.phase = .done → CountersSafe s.maint.counters →
    ∃ t u, exec (.counters now) s = .next t ∧ exec (.counters later) t = .next u ∧
      t = { s with
        tick := now.tick, clk := now.clk
        maint := { s.maint with counters := Counters.zero, snapshot := t.maint.snapshot } } ∧
      t.maint.snapshot.length = 32 ∧ u.maint.snapshot = List.replicate 32 0#8 ∧
      let c := s.maint.counters
      let field (i : Nat) : Nat := (t.readByte (2 * i)).toNat * 256 + (t.readByte (2 * i + 1)).toNat
      field 0 = c.pulsesGood ∧ field 1 = c.framesKeyed ∧ field 2 = c.lineFramesGood ∧ field 3 = c.pulsesRejected ∧
      field 4 = c.recordsBad ∧ field 5 = c.recordGaps ∧ field 6 = c.countConflicts ∧ field 7 = c.rescues ∧
      field 8 = c.earlySeconds ∧ field 9 = c.longSeconds ∧ field 10 = c.excessSeconds ∧ field 11 = c.listenMismatches ∧
      field 12 = c.lineFramesBad ∧ field 13 = c.schedDrops ∧ field 14 = c.leapRefused ∧ field 15 = 0

/-! ## The maintenance port -/

/-- R173: the selection of an item changes nothing but the snapshot, which has the item's size, STATUS 32 bytes, SCHEDULE 64, a page of
OBSERVATIONS 96, CURRENT FRAME 16, LINE FRAME 20 and ALARMS 44; no page reads as page 0, and bytes past the end read 0. R172 to R174: a
write's first two data bytes spell the command by the two code tables; a code in neither table, or a page above 7, empties the snapshot
and is the last command with the result UNKNOWN. From load completion the port acknowledges the address 0x4C + slot and no other; before
it no address, and no command is taken, which is the model's reading of a transaction that ends unacknowledged (notes/assumptions/2.md).
R172: on the wires, the port pulls MNT_SDA to acknowledge its address and each data byte of a write, most significant bit first, and at
the stop or the repeated start the write is acted on; in a read it sends the snapshot's bytes for as long as the master acknowledges,
and then leaves the line released; a port not addressed leaves it released and does nothing. That a write acted on goes to the end of
the waiting commands is the model's choice (notes/assumptions/29.md). -/
def Obligations.PortCommandsTouchOnlyTheSnapshot : Prop :=
  (∀ (now : Instant) (s : State), s.load.phase = .done →
    let selects (c : Instr) (size : Nat) : Prop := ∃ item, item.length = size ∧
      exec c s = .next { s with tick := now.tick, clk := now.clk, maint := { s.maint with snapshot := item } } ∧
      ∀ t i, exec c s = .next t → size ≤ i → t.readByte i = 0#8
    selects (.status now) 32 ∧ (s.schedule.length ≤ 8 → selects (.schedule now) 64) ∧
    (∀ page : Byte, page.toNat ≤ 7 → selects (.observations now (some page)) 96) ∧
    exec (.observations now none) s = exec (.observations now (some 0#8)) s ∧ selects (.observations now none) 96 ∧
    selects (.currentFrame now) 16 ∧ selects (.lineFrame now) 20 ∧ selects (.alarms now) 44) ∧
  ((∀ (now : Instant) (code : Byte) (s : State), s.load.phase = .done → unknownCodeOk code = true →
    exec (.unknownCode now code) s = .next { s with
      tick := now.tick, clk := now.clk
      maint := { s.maint with snapshot := [], lastCommand := some code, lastResult := some .unknown } }) ∧
  (∀ (now : Instant) (page : Byte) (s : State), s.load.phase = .done → 7 < page.toNat →
    exec (.observations now (some page)) s = exec (.unknownCode now 0x04#8) s) ∧
  (∀ code : Byte, unknownCodeOk code = true ↔
    code.toNat ∉ [0x01, 0x02, 0x03, 0x05, 0x06, 0x07, 0x81, 0x82, 0x83, 0x84]) ∧
  (∀ (now : Instant) (code : Byte) (rest : List Byte), code.toNat ≠ 0x04 → unknownCodeOk code = true →
    writeCommand now (code :: rest) = some (.unknownCode now code)) ∧
  (∀ (now : Instant) (rest more : List Byte), rest.head? = more.head? → ∀ code,
    writeCommand now (code :: rest) = writeCommand now (code :: more)) ∧
  (∀ now : Instant, writeCommand now [] = none) ∧
  (∀ (now : Instant) (rest : List Byte),
    writeCommand now (0x01#8 :: rest) = some (.status now) ∧ writeCommand now (0x02#8 :: rest) = some (.counters now) ∧
    writeCommand now (0x03#8 :: rest) = some (.schedule now) ∧ writeCommand now [0x04#8] = some (.observations now none) ∧
    (∀ page : Byte, (page.toNat ≤ 7 → writeCommand now (0x04#8 :: page :: rest) = some (.observations now (some page))) ∧
      (7 < page.toNat → writeCommand now (0x04#8 :: page :: rest) = some (.unknownCode now 0x04#8))) ∧
    writeCommand now (0x05#8 :: rest) = some (.currentFrame now) ∧ writeCommand now (0x06#8 :: rest) = some (.lineFrame now) ∧
    writeCommand now (0x07#8 :: rest) = some (.alarms now) ∧ writeCommand now (0x81#8 :: rest) = some (.ackAlarms now) ∧
    writeCommand now (0x82#8 :: rest) = some (.withdraw now) ∧ writeCommand now (0x83#8 :: rest) = some (.rejoin now) ∧
    writeCommand now (0x84#8 :: rest) = some (.selftest now)) ∧
  (let run (now : Instant) (events : List BusEvent) (s : State) : State := events.foldl (fun s e => s.onBus now e) s
  let clocks (b : Byte) : List BusEvent :=
    (List.range 8).map (fun i => .clock (if b.getLsbD (7 - i) then .high else .low))
  let ownByte (s : State) (b : Byte) : Prop := s.load.phase = .done ∧ b.toNat / 2 = 0x4C + s.load.slot
  (∀ (now : Instant) (s : State) (b : Byte),
    let addressed := run now (.start :: clocks b) s
    (ownByte s b → addressed.pullsSda = true ∧ ∀ l : Level,
      let t := addressed.onBus now (.clock l)
      (b.getLsbD 0 = false → t.maint.port = { phase := .receive, bits := [], data := [] }) ∧
      (b.getLsbD 0 = true → t.maint.port = { phase := .send 0, bits := [], data := [] })) ∧
    (¬ ownByte s b → addressed.pullsSda = false ∧ addressed.maint.port = PortLine.idle)) ∧
  (∀ (now : Instant) (s : State) (data : List Byte), s.maint.port = { phase := .receive, bits := [], data := [] } →
    let received := run now (data.flatMap (fun b => clocks b ++ [.clock .low])) s
    let acted : List Instr := s.pending ++ (writeCommand now data).toList
    (∀ b, (run now (clocks b) received).pullsSda = true) ∧
    received.onBus now .stop = ({ s with pending := acted } : State).setPort PortLine.idle ∧
    received.onBus now .start = ({ s with pending := acted } : State).setPort { phase := .address, bits := [], data := [] }) ∧
  (∀ (now : Instant) (s : State) (i : Nat) (levels : List Level),
    s.maint.port = { phase := .send i, bits := [], data := [] } →
    let t := run now (levels.map .clock) s
    (levels.length < 8 → t.pullsSda = !(s.readByte i).getLsbD (7 - levels.length)) ∧
    (levels.length = 8 → t.pullsSda = false ∧
      t.onBus now (.clock .low) = s.setPort { phase := .send (i + 1), bits := [], data := [] } ∧
      t.onBus now (.clock .high) = s.setPort PortLine.idle)) ∧
  ∀ (now : Instant) (s : State) (levels : List Level), s.maint.port = PortLine.idle →
    s.pullsSda = false ∧ run now (levels.map .clock) s = s ∧ s.onBus now .stop = s) ∧
  (∀ (s : State) (address : Nat), s.acknowledges address = true ↔ s.load.phase = .done ∧ address = 0x4C + s.load.slot) ∧
  ∀ (now : Instant) (s : State) (data : List Byte) (c : Instr), s.load.phase ≠ .done → writeCommand now data = some c →
    exec c s = .next s)

/-- R187: what the bytes of STATUS show, every field of its table: a field narrower than its state saturates, an absent value reads its
marker, and a relative field is absent while no current frame is held. That byte 19 reads 0 in segment index, class and kind of build
without a current frame, that the decoder field is the index of the last symbol taken, and that a relative field saturates at its limits
on both sides, is the model's reading (notes/assumptions/26.md). R79, R93, R110, R159, R177, R187: what the bytes of the other items
show: the entries of the schedule in list order, the records of a page newest first, the symbols of the current frame, the fields of the
line frame with its MARK fall saturating in ticks and in microseconds, and the alarm entries in the order of their kinds. -/
def Obligations.SnapshotsShowTheState : Prop :=
  (∀ (now : Instant) (s : State), s.load.phase = .done →
    ∃ t, exec (.status now) s = .next t ∧
      let b (i : Nat) : Nat := (t.readByte i).toNat
      let limit (lo hi v : Int) : Int := max lo (min hi v)
      let flag (p : Bool) : Nat := if p = true then 1 else 0
      let cls (x : TimeClass) : Nat := if x = .a then 0 else if x = .b then 1 else if x = .c then 2 else 3
      let n : Nat := b 0 * 16777216 + b 1 * 65536 + b 2 * 256 + b 3
      let latch : Nat := b 4 * 16777216 + b 5 * 65536 + b 6 * 256 + b 7
      let age : Nat := b 11 * 256 + b 12
      let error : Nat := b 13 % 64 * 256 + b 14
      let difference : Nat := b 27 % 32 * 256 + b 28
      ((s.time.n = none → n = 4294967295) ∧ (∀ m, s.time.n = some m → 0 ≤ m → m ≤ 3155759999 → (n : Int) = m) ∧
        (s.frames.latch = none → latch = 4294967295) ∧ (∀ w, s.frames.latch = some w → latch = w.toNat) ∧
        ((b 8 * 65536 + b 9 * 256 + b 10 : Nat) : Int) = s.timer.f % 16777216 ∧
        (s.time.age = none → age = 65535) ∧ (∀ a, s.time.age = some a → age = min 65534 a) ∧
        b 13 / 64 = (if s.timer.source = .noSource then 0 else if s.timer.source = .ref then 1 else 2) ∧
        (s.timer.lastError = none → error = 8192) ∧
        (∀ e, s.timer.lastError = some e → (error : Int) = limit (-8191) 8191 e % 16384) ∧
        (b 15 : Int) = s.time.offset % 256) ∧
      (b 16 / 64 = (if s.time.origin = none then 0 else if s.time.origin = some .ref then 1 else 2) ∧
        b 16 / 32 % 2 = flag s.time.leap60 ∧
        b 16 / 16 % 2 = flag (s.time.pendingReset.any (fun r => r.difference.isSome)) ∧
        b 16 / 8 % 2 = flag (s.time.pendingReset.any (fun r => r.phase.isSome)) ∧
        b 16 / 2 % 4 = cls s.cls ∧ b 16 % 2 = flag s.maint.alertN ∧
        b 17 / 64 = (if s.ref.state = .noref then 0 else if s.ref.state = .acquire then 1
          else if s.ref.state = .locked then 2 else 3) ∧
        b 17 / 16 % 4 = min 3 s.ref.streak ∧ b 17 / 4 % 4 = min 2 s.ref.missingStreak ∧ b 17 % 4 = s.load.slot % 4 ∧
        b 18 / 32 = (if 0 < s.ref.outlierStreak then min 3 s.ref.outlierStreak
          else if 0 < s.ref.conflictStreak then min 5 (s.ref.conflictStreak + 3) else 0) ∧
        (∀ r : LoadResult, s.load.result = some r → b 18 / 4 % 8 =
          if r = .ok then 0 else if r = .signature then 1 else if r = .length then 2 else if r = .format then 3
          else if r = .crc then 4 else if r = .chain then 5 else if r = .shortRecord then 6 else 7) ∧
        b 18 / 2 % 2 = flag s.load.clamp ∧ b 18 % 2 = flag s.ctl.silence) ∧
      ((s.frames.current = none → b 19 / 2 = 0) ∧
        (∀ f, s.frames.current = some f →
          b 19 / 64 = (if f.symbols.length = 59 then 1 else if f.symbols.length = 60 then 2
            else if f.symbols.length = 61 then 3 else 0) ∧
          b 19 / 16 % 4 = f.segment % 4 ∧ b 19 / 4 % 4 = cls f.classAtBuild ∧ b 19 / 2 % 2 = flag (f.kind == .catchUp)) ∧
        (b 19 % 2 = 1 ↔ ∃ f m, s.frames.current = some f ∧ s.time.n = some m ∧ f.n0 = m - m % 60 + 60) ∧
        b 20 / 128 = flag s.frames.next.isSome ∧ b 20 / 64 % 2 = flag (s.frames.next.any (fun f => f.stale)) ∧
        (s.key.listenIndex = none → b 20 % 64 = 63) ∧ (∀ i, s.key.listenIndex = some i → b 20 % 64 = i % 64) ∧
        b 21 = min 255 s.frames.rebuilds ∧
        b 22 / 64 = (if s.key.drive = .released then 0 else if s.key.drive = .pulling then 1
          else if s.key.drive = .listening then 2 else 3) ∧
        b 22 / 16 % 4 = (if s.key.intended = none then 0 else if s.key.intended = some .short then 1
          else if s.key.intended = some .long then 2 else 3) ∧
        b 22 / 4 % 4 = min 2 s.key.faultRun ∧ b 22 % 4 = min 2 s.key.timingStreak ∧
        b 23 / 16 = min 15 s.key.conflictStreak ∧
        (s.key.lastVerdict = none → b 23 / 4 % 4 = 0) ∧
        (∀ v, s.key.lastVerdict = some v →
          b 23 / 4 % 4 = if v.verdict = .quiet then 1 else if v.verdict = .disturbed then 2 else 3) ∧
        b 23 / 2 % 2 = flag s.line.candidate.isSome ∧ b 23 % 2 = flag s.ctl.faultReport) ∧
      (s.ctl.standing ≠ .loading → b 24 / 16 =
          if s.ctl.standing = .survey .watching then 1 else if s.ctl.standing = .survey .adopting then 2
          else if s.ctl.standing = .survey .confirming then 3 else if s.ctl.standing = .active then 4
          else if s.ctl.standing = .deferred then 5 else if s.ctl.standing = .standby then 6
          else if s.ctl.standing = .faultedDrive then 7 else 8) ∧
      (b 24 / 8 % 2 = flag s.ctl.pendingJoin ∧ b 24 / 4 % 2 = flag s.ctl.pendingWithdraw ∧
        b 24 % 4 = (if s.maint.lastResult = none then 0 else if s.maint.lastResult = some .accepted then 1
          else if s.maint.lastResult = some .ignored then 2 else 3) ∧
        ((s.frames.current = none ∨ s.key.lastVerdict = none) → b 25 / 16 = 15) ∧
        (∀ f v, s.frames.current = some f → s.key.lastVerdict = some v →
          (b 25 / 16 : Int) = limit 0 15 ((f.n0 - v.n0) / 60)) ∧
        ((s.frames.current = none ∨ s.ctl.floor = none) → b 25 % 16 = 15) ∧
        (∀ f m, s.frames.current = some f → s.ctl.floor = some m → (b 25 % 16 : Int) = limit 0 15 ((f.n0 - m) / 60)) ∧
        ((s.frames.current = none ∨ s.ctl.lastComparison = none) → b 26 / 8 = 16) ∧
        (∀ f c, s.frames.current = some f → s.ctl.lastComparison = some c →
          (b 26 / 8 : Int) = limit (-15) 15 ((c.n0 - f.n0) / 60) % 32) ∧
        b 26 % 8 = (if s.ctl.test.state = .waiting then 5 else if s.ctl.test.state = .running then 6
          else if s.ctl.test.result = .noResult then 0 else if s.ctl.test.result = .pass then 1
          else if s.ctl.test.result = .fail then 2 else if s.ctl.test.result = .noTime then 3 else 4)) ∧
      ((s.ctl.lastComparison = none → b 27 / 32 = 0 ∧ difference = 0) ∧
        ∀ c, s.ctl.lastComparison = some c →
          (c.result = .agree → b 27 / 32 = 1 ∧ difference = 0) ∧ (c.result = .noFrame → b 27 / 32 = 2 ∧ difference = 0) ∧
          (c.result = .length → b 27 / 32 = 3 ∧ difference = 0) ∧
          (∀ i, c.result = .symbol i → b 27 / 32 = 4 ∧ difference = i % 8192) ∧
          ∀ us, c.result = .markOffset us → b 27 / 32 = 5 ∧ (difference : Int) = limit (-4095) 4095 us % 8192) ∧
      (s.line.decoder = .idle → b 29 / 4 = 61) ∧ (s.line.decoder = .hunting → b 29 / 4 = 62) ∧
      (∀ a, s.line.decoder = .assembling → s.line.assembly = some a → b 29 / 4 = min 60 (a.symbols.length - 1)) ∧
      (s.line.notice = none → b 29 % 4 = 0) ∧ (∀ a, s.line.notice = some a → b 29 % 4 = min 3 a.segments.length) ∧
      b 30 = (s.maint.lastCommand.getD 0#8).toNat ∧ (s.line.lastBreak = none → b 31 / 16 = 0) ∧
      (∀ r : BreakReason, s.line.lastBreak = some r → b 31 / 16 =
        if r = .missing then 1 else if r = .extraFall then 2 else if r = .tooLong then 3 else if r = .overlong then 4
        else if r = .length then 5 else if r = .parity then 6 else if r = .range then 7 else if r = .weekday then 8 else 9) ∧
      b 31 % 16 = min 15 s.maint.raisings) ∧
  (∀ (now : Instant) (s : State), s.load.phase = .done →
    (∃ t, exec (.schedule now) s = .next t ∧
      let b (i : Nat) : Nat := (t.readByte i).toNat
      s.schedule.length ≤ 8 → ∀ i, i < 8 →
        (s.schedule[i]? = none → ∀ j, j < 8 → b (8 * i + j) = 0) ∧
        ∀ e, s.schedule[i]? = some e →
          let kind : Nat := if e.kind = .leapInsert then 0 else if e.kind = .leapDelete then 1 else 2
          let source : Nat := if e.source = .ref then 0 else if e.source = .rule then 1 else 2
          ((b (8 * i) * 16777216 + b (8 * i + 1) * 65536 + b (8 * i + 2) * 256 + b (8 * i + 3) : Nat) : Int) =
            e.instant % 4294967296 ∧
          b (8 * i + 4) = 128 + 32 * kind + 8 * source + (if e.committed then 4 else 0) ∧
          (b (8 * i + 5) : Int) = e.newOffset.getD 0 % 256 ∧ b (8 * i + 6) = 0 ∧ b (8 * i + 7) = 0) ∧
    (∀ page : Byte, page.toNat ≤ 7 → ∃ t, exec (.observations now (some page)) s = .next t ∧
      let b (i : Nat) : Nat := (t.readByte i).toNat
      ∀ i, i < 8 →
        (s.key.ring.reverse[8 * page.toNat + i]? = none → ∀ j, j < 12 → b (12 * i + j) = 0) ∧
        ∀ r, s.key.ring.reverse[8 * page.toNat + i]? = some r →
          (r.n0 = none → ∀ j, j < 4 → b (12 * i + j) = 255) ∧
          (∀ n, r.n0 = some n →
            ((b (12 * i) * 16777216 + b (12 * i + 1) * 65536 + b (12 * i + 2) * 256 + b (12 * i + 3) : Nat) : Int) =
              n % 4294967296) ∧
          (r.index = none → b (12 * i + 4) % 64 = 63) ∧ (∀ k, r.index = some k → b (12 * i + 4) % 64 = k % 64) ∧
          (b (12 * i + 4) / 64 : Int) = r.action.code ∧ (b (12 * i + 5) / 16 : Int) = r.outcome.code ∧
          (b (12 * i + 5) / 2 % 8 : Int) = r.symbol.code ∧ b (12 * i + 5) % 2 = 0 ∧
          (r.fallOffset = none → b (12 * i + 6) = 128 ∧ b (12 * i + 7) = 0 ∧ b (12 * i + 8) = 0) ∧
          (∀ us, r.fallOffset = some us →
            ((b (12 * i + 6) * 65536 + b (12 * i + 7) * 256 + b (12 * i + 8) : Nat) : Int) =
              max (-8388607) (min 8388607 us) % 16777216) ∧
          (r.riseOffset = none → b (12 * i + 9) = 128 ∧ b (12 * i + 10) = 0 ∧ b (12 * i + 11) = 0) ∧
          ∀ us, r.riseOffset = some us →
            ((b (12 * i + 9) * 65536 + b (12 * i + 10) * 256 + b (12 * i + 11) : Nat) : Int) =
              max (-8388607) (min 8388607 us) % 16777216) ∧
    (∃ t, exec (.currentFrame now) s = .next t ∧
      ∀ i, i < 61 → ((t.readByte (i / 4)).toNat / 4 ^ (3 - i % 4) % 4 : Int) =
        symbolCode (s.frames.current.bind (fun f => f.symbols[i]?))) ∧
    (∃ t, exec (.lineFrame now) s = .next t ∧
      let b (i : Nat) : Nat := (t.readByte i).toNat
      (s.line.last = none → ∀ i, b i = 0) ∧
      ∀ f, s.line.last = some f →
        ((b 0 * 16777216 + b 1 * 65536 + b 2 * 256 + b 3 : Nat) : Int) = f.n0 % 4294967296 ∧
        b 4 / 64 = (if f.symbols.length = 59 then 1 else if f.symbols.length = 60 then 2
          else if f.symbols.length = 61 then 3 else 0) ∧
        b 4 % 64 = (if f.mixed then 32 else 0) + 2 * fieldAt f.symbols 1 4 ∧ b 5 = lineMinute f.symbols ∧
        b 6 = lineHour f.symbols ∧ b 7 * 256 + b 8 = lineDay f.symbols ∧ b 9 = lineYear f.symbols ∧
        b 10 = lineWeekday f.symbols ∧ (b 11 : Int) = lineOffset f.symbols % 256 ∧ b 12 = lineSegment f.symbols ∧
        b 13 = lineSegmentIndex f.symbols ∧
        ((b 14 * 65536 + b 15 * 256 + b 16 : Nat) : Int) =
          max (-8388608) (min 8388607 (f.markTicks.tdiv 10)) % 16777216 ∧
        ((b 17 * 65536 + b 18 * 256 + b 19 : Nat) : Int) = max (-8388608) (min 8388607 f.markTicks) % 16777216) ∧
    ∃ t, exec (.alarms now) s = .next t ∧
      let b (i : Nat) : Nat := (t.readByte i).toNat
      ∀ i k, AlarmKind.all[i]? = some k →
        ((∀ e ∈ s.maint.alarms, e.kind ≠ k) → ∀ j, j < 4 → b (4 * i + j) = 0) ∧
        ∀ e, s.maint.alarms.find? (fun e => e.kind == k) = some e → e.count ≤ 255 →
          b (4 * i) = e.count ∧
          (e.firstN = none → b (4 * i + 1) = 255 ∧ b (4 * i + 2) = 255 ∧ b (4 * i + 3) = 255) ∧
          ∀ n, e.firstN = some n →
            ((b (4 * i + 1) * 65536 + b (4 * i + 2) * 256 + b (4 * i + 3) : Nat) : Int) = n / 60 % 16777215)

/-- R135 to R138, R141: WITHDRAW leaves SURVEY and DEFERRED for STANDBY at once and is held while ACTIVE; REJOIN takes STANDBY, where it
aborts a self-test, and FAULTED(DRIVE) to SURVEY; SELFTEST is armed in STANDBY with the time SET and ends as NO_TIME while UNSET. In the
other standings, and a SELFTEST with one under way, they are IGNORED and change nothing else. That KEY is sampled from the tick of a running
test's abort on is the model's reading (notes/assumptions/7.md). -/
def Obligations.CommandsAnswerByStanding : Prop :=
  ∀ (now : Instant) (s : State), s.load.phase = .done →
    let answered (code : Byte) (r : CommandResult) (s : State) : State := { s with
      tick := now.tick, clk := now.clk, maint := { s.maint with lastCommand := some code, lastResult := some r } }
    (((∃ p, s.ctl.standing = .survey p) ∨ s.ctl.standing = .deferred) →
      exec (.withdraw now) s = .next (answered 0x82#8 .accepted { s with
        ctl := { s.ctl with standing := .standby, pendingJoin := false, silenceFrom := none, silence := false }
        line := { s.line with candidate := none } })) ∧
    (s.ctl.standing = .active →
      exec (.withdraw now) s = .next (answered 0x82#8 .accepted { s with ctl := { s.ctl with pendingWithdraw := true } })) ∧
    ((s.ctl.standing = .standby ∨ s.ctl.standing = .faultedDrive ∨ s.ctl.standing = .faultedOsc) →
      exec (.withdraw now) s = .next (answered 0x82#8 .ignored s)) ∧
    (((s.ctl.standing = .standby ∧ s.ctl.test.state = .idle) ∨ s.ctl.standing = .faultedDrive) →
      exec (.rejoin now) s = .next (answered 0x83#8 .accepted { s with
        ctl := { s.ctl with
          standing := .survey .watching, pendingJoin := false, silenceFrom := some now.tick, silence := false }
        line := { s.line with candidate := none } })) ∧
    (s.ctl.standing = .standby → s.ctl.test.state ≠ .idle →
      ∃ t, exec (.rejoin now) s = .next t ∧ t.ctl.standing = .survey .watching ∧ t.ctl.test.state = .idle ∧
        t.ctl.test.result = .aborted ∧ t.ctl.test.reference = none ∧ t.maint.lastCommand = some 0x83#8 ∧
        t.maint.lastResult = some .accepted ∧ t.maint.alarms = s.maint.alarms ∧
        (s.ctl.test.state = .running →
          t.key = { s.key with level := none, levelFrom := some now.tick, run := none } ∧ t.line.decoder = .idle) ∧
        (s.ctl.test.state = .waiting → t.key = s.key ∧ t.line.decoder = s.line.decoder)) ∧
    (((∃ p, s.ctl.standing = .survey p) ∨ s.ctl.standing = .active ∨ s.ctl.standing = .deferred ∨
        s.ctl.standing = .faultedOsc) →
      exec (.rejoin now) s = .next (answered 0x83#8 .ignored s)) ∧
    (s.ctl.standing = .standby → s.ctl.test.state = .idle →
      ∃ t, exec (.selftest now) s = .next t ∧
        (s.time.n.isSome = true → t.ctl.test.state = .waiting ∧ t.ctl.test.result = .noResult) ∧
        (s.time.n = none → t.ctl.test.state = .idle ∧ t.ctl.test.result = .noTime) ∧
        t = answered 0x84#8 .accepted { s with ctl := { s.ctl with test := t.ctl.test } }) ∧
    ((s.ctl.standing ≠ .standby ∨ s.ctl.test.state ≠ .idle) →
      exec (.selftest now) s = .next (answered 0x84#8 .ignored s))

/-- R180 to R182, R188: a repetition takes the lamps as they stand: the bits of the three words, a blinking lamp dark in repetitions 2 and 3
of its group of four; the stretch counts fall by one, and the next repetition comes 125 ms on. The 24 bits go out each word bit 7 first,
each standing on STAT_DATA for a period of STAT_CLK, set while it is low before its rise; the latch pulse follows, at which the
registers take the words, and between repetitions and before the first the three lines rest low. That a period of STAT_CLK has equal
halves, and that STAT_DATA and STAT_CLK are low during the latch pulse, is the model's choice (notes/assumptions/29.md), and that the
registers take the words as the pulse begins its reading (notes/assumptions/27.md). -/
def Obligations.RepetitionsShowTheLamps : Prop :=
  (∀ (now : Instant) (s : State), s.load.phase = .done → s.maint.nextRepetition = some now.clk →
    ∃ w : LampWords, exec (.statusRepetition now) s = .next { s with
        tick := now.tick, clk := now.clk
        maint := { s.maint with
          latched := s.maint.registers now.clk
          shift := some { start := now.clk, words := w }
          rescueStretch := s.maint.rescueStretch - 1
          peerStretch := s.maint.peerStretch - 1
          groupCount := (s.maint.groupCount + 1) % 4
          nextRepetition := some (now.clk + 125000) } } ∧
      let on : Prop := s.maint.groupCount < 2
      let held (k : AlarmKind) : Prop := ∃ e ∈ s.maint.alarms, e.kind = k
      let lamp (b : Bool) (lit : Prop) : Prop := b = true ↔ lit
      (lamp (w.reference.getLsbD 7) (s.ref.state = .noref) ∧
        lamp (w.reference.getLsbD 6) (s.ref.state = .acquire ∧ on) ∧
        lamp (w.reference.getLsbD 5) (s.ref.state = .locked) ∧ lamp (w.reference.getLsbD 4) (s.ref.state = .holdover) ∧
        lamp (w.reference.getLsbD 3) (s.cls = .a) ∧ lamp (w.reference.getLsbD 2) (s.cls = .b) ∧
        lamp (w.reference.getLsbD 1) (s.cls = .c) ∧ lamp (w.reference.getLsbD 0) (s.timer.source = .line)) ∧
      (lamp (w.standing.getLsbD 7) (s.ctl.standing = .survey .watching ∨
          ((s.ctl.standing = .survey .adopting ∨ s.ctl.standing = .survey .confirming) ∧ on)) ∧
        lamp (w.standing.getLsbD 6) (s.ctl.standing = .active ∧ (s.time.pendingReset = none ∨ on)) ∧
        lamp (w.standing.getLsbD 5) (s.ctl.standing = .deferred) ∧ lamp (w.standing.getLsbD 4) (s.ctl.standing = .standby) ∧
        lamp (w.standing.getLsbD 3) (s.ctl.standing = .faultedDrive ∨ (s.ctl.standing = .faultedOsc ∧ on)) ∧
        lamp (w.standing.getLsbD 2) ((s.ctl.test.state = .idle ∧ s.ctl.test.result = .fail) ∨
          (s.ctl.test.state ≠ .idle ∧ on)) ∧
        lamp (w.standing.getLsbD 1) (s.ctl.pendingJoin = true) ∧ w.standing.getLsbD 0 = false) ∧
      (lamp (w.alarm.getLsbD 7) (s.maint.alertN = true) ∧ lamp (w.alarm.getLsbD 6) (held .refLost ∨ held .timeAged) ∧
        lamp (w.alarm.getLsbD 5) (held .conflict ∨ held .yielded ∨ held .peerTiming ∨ held .lineStuck) ∧
        lamp (w.alarm.getLsbD 4) (held .driveFault ∨ held .oscLost) ∧
        lamp (w.alarm.getLsbD 3) (held .schedFull ∨ held .configDefaults ∨ held .configClamped) ∧
        lamp (w.alarm.getLsbD 2) (0 < s.maint.rescueStretch) ∧ lamp (w.alarm.getLsbD 1) (0 < s.maint.peerStretch) ∧
        lamp (w.alarm.getLsbD 0) on) ∧
      w.bits.length = 24 ∧
      ∀ i, i < 8 → w.bits[i]? = some (w.reference.getLsbD (7 - i)) ∧ w.bits[8 + i]? = some (w.standing.getLsbD (7 - i)) ∧
        w.bits[16 + i]? = some (w.alarm.getLsbD (7 - i))) ∧
  (∀ (w : LampWords) (k past : Nat),
    (k < 24 → 4 * k ≤ past → past < 4 * k + 4 →
      w.pins past = { clock := if past < 4 * k + 2 then .low else .high
                      data := if w.bits[k]? = some true then .high else .low, latch := .low }) ∧
    (96 ≤ past → w.pins past = { clock := .low, data := .low, latch := if past < 100 then .high else .low })) ∧
  ∀ (m : Maintenance) (clk : Nat),
    (m.shift = none → m.statPins clk = { clock := .low, data := .low, latch := .low } ∧ m.registers clk = m.latched) ∧
    ∀ r, m.shift = some r → m.statPins clk = r.words.pins (clk - r.start) ∧
      (clk < r.start + 96 → m.registers clk = m.latched) ∧ (r.start + 96 ≤ clk → m.registers clk = some r.words)

/-! ## The check of records and images -/

/-- R185: the CRC-16: the register starts at 0xFFFF, each byte is combined into its high eight bits, and eight shifts follow, each with
0x1021 when the bit shifted out was 1; "123456789" ends at 0x29B1. A run followed by its own CRC, high byte first, ends at 0; and of
such a run, one with an error in any one bit does not. -/
def Obligations.CrcFindsEveryOneBitError : Prop :=
  crc16 [] = 0xFFFF#16 ∧
  (∀ (bytes : List Byte) (b : Byte), crc16 (bytes ++ [b]) = crcShifts 8 (crc16 bytes ^^^ (b ++ 0#8))) ∧
  (∀ (k : Nat) (r : BitVec 16), crcShifts 0 r = r ∧
    crcShifts (k + 1) r = crcShifts k (if r.getLsbD 15 then (r <<< 1) ^^^ 0x1021#16 else r <<< 1)) ∧
  crc16 [0x31#8, 0x32#8, 0x33#8, 0x34#8, 0x35#8, 0x36#8, 0x37#8, 0x38#8, 0x39#8] = 0x29B1#16 ∧
  (∀ bytes : List Byte,
    crc16 (bytes ++ [(crc16 bytes).extractLsb' 8 8, (crc16 bytes).extractLsb' 0 8]) = 0#16) ∧
  ∀ (pre post : List Byte) (b : Byte) (i : Nat), i < 8 → crc16 (pre ++ b :: post) = 0#16 →
    crc16 (pre ++ (b ^^^ (1#8 <<< i)) :: post) ≠ 0#16

/-! ## What every step keeps -/

/-- R25, R27, R88, R107, R175, R181, R182: every step keeps F, A and the initial F within their limits, and every counter, the ring, the
rebuild count, the group count and the stretch counts within their bounds. R177, R179: every step keeps the alarm set: each kind at most
once, counts of 1 to 255, the delay timer running exactly while an entry is held, and ALERT_N asserted only while the set is not empty. -/
def Obligations.EveryStepKeepsBoundsAndAlarms : Prop :=
  (∀ s t : State, TimerSafe s ∧ BoundsSafe s → step s = .next t → TimerSafe t ∧ BoundsSafe t) ∧
  (∀ s t : State, AlarmsSafe s → step s = .next t → AlarmsSafe t)

/-- R49, R96, R118, R130, R135, R138: after every step KEY is pulled only while the standing is ACTIVE, and ACTIVE only with the time SET
and the oscillator UP. -/
def Obligations.EveryStepKeepsTheKeying : Prop :=
  ∀ s t : State, KeyingSafe s → step s = .next t → KeyingSafe t

/-- R19, R44, R45, R47, R48, R50: every step keeps N within 0 to 3,155,759,999, none while the monitor is DOWN, and origin, age, pending
SET, pending re-set and the leap-60 flag in the relation to N and to the inserted second that the rules give them. That an advance that
would pass the range's end leaves N as it is belongs to states no run reaches and is the model's answer there (notes/assumptions/31.md),
and that a count or a re-set out of the range is not taken its reading (notes/assumptions/17.md). -/
def Obligations.EveryStepKeepsTheTimeScale : Prop :=
  ∀ s t : State, TimeSafe s → step s = .next t → TimeSafe t

/-- R60, R62, R64: every step keeps the Change Schedule: at most 8 entries, in order, no two leap entries nor two of one kind at an instant,
all later than N, and none while UNSET. -/
def Obligations.EveryStepKeepsTheSchedule : Prop :=
  ∀ s t : State, ScheduleSafe s → step s = .next t → ScheduleSafe t

end Statements
end

