-- ==== Sys2Proof/Laws/FrameOps.lean ====
section
/-!
SUPPORT. Frames of the shared operations: for each operation, one lemma that names every block of the state it leaves as it is, and in the
blocks it does change, the fields it leaves.
-/

namespace Sys2Proof.Machine

/-- The frame of `State.at`. -/
@[simp] theorem State.at_frame (now : Instant) (s : State) :
    (s.at now).timer = s.timer ∧ (s.at now).ref = s.ref ∧ (s.at now).time = s.time ∧
    (s.at now).schedule = s.schedule ∧ (s.at now).frames = s.frames ∧ (s.at now).key = s.key ∧
    (s.at now).line = s.line ∧ (s.at now).ctl = s.ctl ∧ (s.at now).load = s.load ∧ (s.at now).maint = s.maint ∧
    (s.at now).pending = s.pending := by
  simp [State.at]

/-- The frame of `State.count`. -/
@[simp] theorem State.count_frame (bump : Counters → Counters) (s : State) :
    (s.count bump).tick = s.tick ∧ (s.count bump).clk = s.clk ∧ (s.count bump).timer = s.timer ∧
    (s.count bump).ref = s.ref ∧ (s.count bump).time = s.time ∧ (s.count bump).schedule = s.schedule ∧
    (s.count bump).frames = s.frames ∧ (s.count bump).key = s.key ∧ (s.count bump).line = s.line ∧
    (s.count bump).ctl = s.ctl ∧ (s.count bump).load = s.load ∧ (s.count bump).maint.alarms = s.maint.alarms ∧
    (s.count bump).maint.raisings = s.maint.raisings ∧ (s.count bump).maint.alertFrom = s.maint.alertFrom ∧
    (s.count bump).maint.alertN = s.maint.alertN ∧ (s.count bump).maint.groupCount = s.maint.groupCount ∧
    (s.count bump).maint.rescueStretch = s.maint.rescueStretch ∧
    (s.count bump).maint.peerStretch = s.maint.peerStretch ∧ (s.count bump).maint.snapshot = s.maint.snapshot ∧
    (s.count bump).maint.lastCommand = s.maint.lastCommand ∧
    (s.count bump).maint.lastResult = s.maint.lastResult ∧
    (s.count bump).maint.nextRepetition = s.maint.nextRepetition ∧ (s.count bump).maint.shift = s.maint.shift ∧
    (s.count bump).maint.latched = s.maint.latched ∧ (s.count bump).maint.port = s.maint.port ∧
    (s.count bump).pending = s.pending := by
  simp [State.count]

/-- The frame of `State.raise`. -/
@[simp] theorem State.raise_frame (k : AlarmKind) (s : State) :
    (s.raise k).tick = s.tick ∧ (s.raise k).clk = s.clk ∧ (s.raise k).timer = s.timer ∧ (s.raise k).ref = s.ref ∧
    (s.raise k).time = s.time ∧ (s.raise k).schedule = s.schedule ∧ (s.raise k).frames = s.frames ∧
    (s.raise k).key = s.key ∧ (s.raise k).line = s.line ∧ (s.raise k).ctl = s.ctl ∧ (s.raise k).load = s.load ∧
    (s.raise k).maint.counters = s.maint.counters ∧ (s.raise k).maint.groupCount = s.maint.groupCount ∧
    (s.raise k).maint.rescueStretch = s.maint.rescueStretch ∧
    (s.raise k).maint.peerStretch = s.maint.peerStretch ∧ (s.raise k).maint.snapshot = s.maint.snapshot ∧
    (s.raise k).maint.lastCommand = s.maint.lastCommand ∧ (s.raise k).maint.lastResult = s.maint.lastResult ∧
    (s.raise k).maint.nextRepetition = s.maint.nextRepetition ∧ (s.raise k).maint.shift = s.maint.shift ∧
    (s.raise k).maint.latched = s.maint.latched ∧ (s.raise k).maint.port = s.maint.port ∧
    (s.raise k).pending = s.pending := by
  simp [State.raise]

/-- The frame of `State.enterQuiet`. -/
@[simp] theorem State.enterQuiet_frame (st : Standing) (s : State) :
    (s.enterQuiet st).tick = s.tick ∧ (s.enterQuiet st).clk = s.clk ∧ (s.enterQuiet st).timer = s.timer ∧
    (s.enterQuiet st).ref = s.ref ∧ (s.enterQuiet st).time = s.time ∧ (s.enterQuiet st).schedule = s.schedule ∧
    (s.enterQuiet st).frames = s.frames ∧ (s.enterQuiet st).key = s.key ∧
    (s.enterQuiet st).line.last = s.line.last ∧ (s.enterQuiet st).line.lastBreak = s.line.lastBreak ∧
    (s.enterQuiet st).line.notice = s.line.notice ∧ (s.enterQuiet st).line.decoder = s.line.decoder ∧
    (s.enterQuiet st).ctl.test = s.ctl.test ∧ (s.enterQuiet st).ctl.pendingWithdraw = s.ctl.pendingWithdraw ∧
    (s.enterQuiet st).ctl.yieldDue = s.ctl.yieldDue ∧ (s.enterQuiet st).ctl.faultReport = s.ctl.faultReport ∧
    (s.enterQuiet st).ctl.copy = s.ctl.copy ∧ (s.enterQuiet st).ctl.floor = s.ctl.floor ∧
    (s.enterQuiet st).ctl.lastComparison = s.ctl.lastComparison ∧ (s.enterQuiet st).load = s.load ∧
    (s.enterQuiet st).maint = s.maint ∧ (s.enterQuiet st).pending = s.pending := by
  simp [State.enterQuiet]

/-- The frame of `State.enterWatch`. -/
@[simp] theorem State.enterWatch_frame (st : Standing) (s : State) :
    (s.enterWatch st).tick = s.tick ∧ (s.enterWatch st).clk = s.clk ∧ (s.enterWatch st).timer = s.timer ∧
    (s.enterWatch st).ref = s.ref ∧ (s.enterWatch st).time = s.time ∧ (s.enterWatch st).schedule = s.schedule ∧
    (s.enterWatch st).frames = s.frames ∧ (s.enterWatch st).key = s.key ∧
    (s.enterWatch st).line.last = s.line.last ∧ (s.enterWatch st).line.lastBreak = s.line.lastBreak ∧
    (s.enterWatch st).line.notice = s.line.notice ∧ (s.enterWatch st).line.decoder = s.line.decoder ∧
    (s.enterWatch st).ctl.test = s.ctl.test ∧ (s.enterWatch st).ctl.pendingWithdraw = s.ctl.pendingWithdraw ∧
    (s.enterWatch st).ctl.yieldDue = s.ctl.yieldDue ∧ (s.enterWatch st).ctl.faultReport = s.ctl.faultReport ∧
    (s.enterWatch st).ctl.copy = s.ctl.copy ∧ (s.enterWatch st).ctl.floor = s.ctl.floor ∧
    (s.enterWatch st).ctl.lastComparison = s.ctl.lastComparison ∧ (s.enterWatch st).load = s.load ∧
    (s.enterWatch st).maint = s.maint ∧ (s.enterWatch st).pending = s.pending := by
  simp [State.enterWatch]

/-- The frame of `State.enterSurvey`. -/
@[simp] theorem State.enterSurvey_frame (s : State) :
    (s.enterSurvey).tick = s.tick ∧ (s.enterSurvey).clk = s.clk ∧ (s.enterSurvey).timer = s.timer ∧
    (s.enterSurvey).ref = s.ref ∧ (s.enterSurvey).time = s.time ∧ (s.enterSurvey).schedule = s.schedule ∧
    (s.enterSurvey).frames = s.frames ∧ (s.enterSurvey).key = s.key ∧ (s.enterSurvey).line.last = s.line.last ∧
    (s.enterSurvey).line.lastBreak = s.line.lastBreak ∧ (s.enterSurvey).line.notice = s.line.notice ∧
    (s.enterSurvey).line.decoder = s.line.decoder ∧ (s.enterSurvey).ctl.test = s.ctl.test ∧
    (s.enterSurvey).ctl.pendingWithdraw = s.ctl.pendingWithdraw ∧ (s.enterSurvey).ctl.yieldDue = s.ctl.yieldDue ∧
    (s.enterSurvey).ctl.faultReport = s.ctl.faultReport ∧ (s.enterSurvey).ctl.copy = s.ctl.copy ∧
    (s.enterSurvey).ctl.floor = s.ctl.floor ∧ (s.enterSurvey).ctl.lastComparison = s.ctl.lastComparison ∧
    (s.enterSurvey).load = s.load ∧ (s.enterSurvey).maint = s.maint ∧ (s.enterSurvey).pending = s.pending := by
  simp [State.enterSurvey]

/-- The frame of `State.enterDeferred`. -/
@[simp] theorem State.enterDeferred_frame (s : State) :
    (s.enterDeferred).tick = s.tick ∧ (s.enterDeferred).clk = s.clk ∧ (s.enterDeferred).timer = s.timer ∧
    (s.enterDeferred).ref = s.ref ∧ (s.enterDeferred).time = s.time ∧ (s.enterDeferred).schedule = s.schedule ∧
    (s.enterDeferred).frames = s.frames ∧ (s.enterDeferred).key = s.key ∧
    (s.enterDeferred).line.last = s.line.last ∧ (s.enterDeferred).line.lastBreak = s.line.lastBreak ∧
    (s.enterDeferred).line.notice = s.line.notice ∧ (s.enterDeferred).line.decoder = s.line.decoder ∧
    (s.enterDeferred).ctl.test = s.ctl.test ∧ (s.enterDeferred).ctl.pendingWithdraw = s.ctl.pendingWithdraw ∧
    (s.enterDeferred).ctl.yieldDue = s.ctl.yieldDue ∧ (s.enterDeferred).ctl.faultReport = s.ctl.faultReport ∧
    (s.enterDeferred).ctl.copy = s.ctl.copy ∧ (s.enterDeferred).ctl.floor = s.ctl.floor ∧
    (s.enterDeferred).ctl.lastComparison = s.ctl.lastComparison ∧ (s.enterDeferred).load = s.load ∧
    (s.enterDeferred).maint = s.maint ∧ (s.enterDeferred).pending = s.pending := by
  simp [State.enterDeferred]

/-- The frame of `State.setPhase`. -/
@[simp] theorem State.setPhase_frame (p : SurveyPhase) (s : State) :
    (s.setPhase p).tick = s.tick ∧ (s.setPhase p).clk = s.clk ∧ (s.setPhase p).timer = s.timer ∧
    (s.setPhase p).ref = s.ref ∧ (s.setPhase p).time = s.time ∧ (s.setPhase p).schedule = s.schedule ∧
    (s.setPhase p).frames = s.frames ∧ (s.setPhase p).key = s.key ∧ (s.setPhase p).line.last = s.line.last ∧
    (s.setPhase p).line.lastBreak = s.line.lastBreak ∧ (s.setPhase p).line.notice = s.line.notice ∧
    (s.setPhase p).line.decoder = s.line.decoder ∧ (s.setPhase p).ctl.test = s.ctl.test ∧
    (s.setPhase p).ctl.pendingWithdraw = s.ctl.pendingWithdraw ∧ (s.setPhase p).ctl.yieldDue = s.ctl.yieldDue ∧
    (s.setPhase p).ctl.faultReport = s.ctl.faultReport ∧ (s.setPhase p).ctl.pendingJoin = s.ctl.pendingJoin ∧
    (s.setPhase p).ctl.silence = s.ctl.silence ∧ (s.setPhase p).ctl.silenceFrom = s.ctl.silenceFrom ∧
    (s.setPhase p).ctl.copy = s.ctl.copy ∧ (s.setPhase p).ctl.floor = s.ctl.floor ∧
    (s.setPhase p).ctl.lastComparison = s.ctl.lastComparison ∧ (s.setPhase p).load = s.load ∧
    (s.setPhase p).maint = s.maint ∧ (s.setPhase p).pending = s.pending := by
  simp [State.setPhase]

/-- The frame of `State.startFilter`. -/
@[simp] theorem State.startFilter_frame (s : State) :
    s.startFilter.tick = s.tick ∧ s.startFilter.clk = s.clk ∧ s.startFilter.timer = s.timer ∧ s.startFilter.ref = s.ref ∧
    s.startFilter.time = s.time ∧ s.startFilter.schedule = s.schedule ∧ s.startFilter.frames = s.frames ∧
    s.startFilter.key = { s.key with level := none, levelFrom := some s.tick, run := none } ∧ s.startFilter.line = s.line ∧
    s.startFilter.ctl = s.ctl ∧ s.startFilter.load = s.load ∧ s.startFilter.maint = s.maint ∧
    s.startFilter.pending = s.pending := ⟨rfl, rfl, rfl, rfl, rfl, rfl, rfl, rfl, rfl, rfl, rfl, rfl, rfl⟩

/-- The frame of `State.endTest`. -/
@[simp] theorem State.endTest_frame (r : TestResult) (s : State) :
    (s.endTest r).tick = s.tick ∧ (s.endTest r).clk = s.clk ∧ (s.endTest r).timer = s.timer ∧
    (s.endTest r).ref = s.ref ∧ (s.endTest r).time = s.time ∧ (s.endTest r).schedule = s.schedule ∧
    (s.endTest r).frames = s.frames ∧ (s.endTest r).key.drive = s.key.drive ∧
    (s.endTest r).key.ring = s.key.ring ∧ (s.endTest r).key.t0 = s.key.t0 ∧
    (s.endTest r).key.opens = s.key.opens ∧ (s.endTest r).key.edges = s.key.edges ∧
    (s.endTest r).key.lastVerdict = s.key.lastVerdict ∧ (s.endTest r).line.last = s.line.last ∧
    (s.endTest r).line.candidate = s.line.candidate ∧ (s.endTest r).line.lastBreak = s.line.lastBreak ∧
    (s.endTest r).line.notice = s.line.notice ∧ (s.endTest r).ctl.standing = s.ctl.standing ∧
    (s.endTest r).ctl.pendingWithdraw = s.ctl.pendingWithdraw ∧ (s.endTest r).ctl.yieldDue = s.ctl.yieldDue ∧
    (s.endTest r).ctl.faultReport = s.ctl.faultReport ∧ (s.endTest r).ctl.pendingJoin = s.ctl.pendingJoin ∧
    (s.endTest r).ctl.silence = s.ctl.silence ∧ (s.endTest r).ctl.silenceFrom = s.ctl.silenceFrom ∧
    (s.endTest r).ctl.copy = s.ctl.copy ∧ (s.endTest r).ctl.floor = s.ctl.floor ∧
    (s.endTest r).ctl.lastComparison = s.ctl.lastComparison ∧ (s.endTest r).load = s.load ∧
    (s.endTest r).maint = s.maint ∧ (s.endTest r).pending = s.pending := by
  unfold State.endTest
  repeat' split
  all_goals simp

/-- The frame of `State.abortTest`. -/
@[simp] theorem State.abortTest_frame (s : State) :
    (s.abortTest).tick = s.tick ∧ (s.abortTest).clk = s.clk ∧ (s.abortTest).timer = s.timer ∧
    (s.abortTest).ref = s.ref ∧ (s.abortTest).time = s.time ∧ (s.abortTest).schedule = s.schedule ∧
    (s.abortTest).frames = s.frames ∧ (s.abortTest).key.drive = s.key.drive ∧
    (s.abortTest).key.ring = s.key.ring ∧ (s.abortTest).key.t0 = s.key.t0 ∧
    (s.abortTest).key.opens = s.key.opens ∧ (s.abortTest).key.edges = s.key.edges ∧
    (s.abortTest).key.lastVerdict = s.key.lastVerdict ∧ (s.abortTest).line.last = s.line.last ∧
    (s.abortTest).line.candidate = s.line.candidate ∧ (s.abortTest).line.lastBreak = s.line.lastBreak ∧
    (s.abortTest).line.notice = s.line.notice ∧ (s.abortTest).ctl.standing = s.ctl.standing ∧
    (s.abortTest).ctl.pendingWithdraw = s.ctl.pendingWithdraw ∧ (s.abortTest).ctl.yieldDue = s.ctl.yieldDue ∧
    (s.abortTest).ctl.faultReport = s.ctl.faultReport ∧ (s.abortTest).ctl.pendingJoin = s.ctl.pendingJoin ∧
    (s.abortTest).ctl.silence = s.ctl.silence ∧ (s.abortTest).ctl.silenceFrom = s.ctl.silenceFrom ∧
    (s.abortTest).ctl.copy = s.ctl.copy ∧ (s.abortTest).ctl.floor = s.ctl.floor ∧
    (s.abortTest).ctl.lastComparison = s.ctl.lastComparison ∧ (s.abortTest).load = s.load ∧
    (s.abortTest).maint = s.maint ∧ (s.abortTest).pending = s.pending := by
  unfold State.abortTest
  repeat' split
  all_goals simp

/-- The frame of `State.endTestUnset`. -/
@[simp] theorem State.endTestUnset_frame (s : State) :
    (s.endTestUnset).tick = s.tick ∧ (s.endTestUnset).clk = s.clk ∧ (s.endTestUnset).timer = s.timer ∧
    (s.endTestUnset).ref = s.ref ∧ (s.endTestUnset).time = s.time ∧ (s.endTestUnset).schedule = s.schedule ∧
    (s.endTestUnset).frames = s.frames ∧ (s.endTestUnset).key.drive = s.key.drive ∧
    (s.endTestUnset).key.ring = s.key.ring ∧ (s.endTestUnset).key.t0 = s.key.t0 ∧
    (s.endTestUnset).key.opens = s.key.opens ∧ (s.endTestUnset).key.edges = s.key.edges ∧
    (s.endTestUnset).key.lastVerdict = s.key.lastVerdict ∧ (s.endTestUnset).line.last = s.line.last ∧
    (s.endTestUnset).line.candidate = s.line.candidate ∧ (s.endTestUnset).line.lastBreak = s.line.lastBreak ∧
    (s.endTestUnset).line.notice = s.line.notice ∧ (s.endTestUnset).ctl.standing = s.ctl.standing ∧
    (s.endTestUnset).ctl.pendingWithdraw = s.ctl.pendingWithdraw ∧
    (s.endTestUnset).ctl.yieldDue = s.ctl.yieldDue ∧ (s.endTestUnset).ctl.faultReport = s.ctl.faultReport ∧
    (s.endTestUnset).ctl.pendingJoin = s.ctl.pendingJoin ∧ (s.endTestUnset).ctl.silence = s.ctl.silence ∧
    (s.endTestUnset).ctl.silenceFrom = s.ctl.silenceFrom ∧ (s.endTestUnset).ctl.copy = s.ctl.copy ∧
    (s.endTestUnset).ctl.floor = s.ctl.floor ∧ (s.endTestUnset).ctl.lastComparison = s.ctl.lastComparison ∧
    (s.endTestUnset).load = s.load ∧ (s.endTestUnset).maint = s.maint ∧ (s.endTestUnset).pending = s.pending := by
  unfold State.endTestUnset
  repeat' split
  all_goals simp

end Sys2Proof.Machine
end

