-- ==== Sys2Proof/Laws/FrameSchedule.lean ====
section
/-!
SUPPORT. Frames of the Change Schedule: for each operation, one lemma that names every block of the state it leaves as it is, and in the
blocks it does change, the fields it leaves.
-/

namespace Sys2Proof.Machine

/-- What every single offer keeps, a run of offers keeps. -/
theorem offers_keep {α : Type} (g : State → α) (h : ∀ s o, g (State.offer o s) = g s) (os : List Offer) (s : State) :
    g (os.foldl (fun acc o => acc.offer o) s) = g s := by
  induction os generalizing s with
  | nil => rfl
  | cons o os ih => rw [List.foldl_cons, ih, h]

/-- The frame of `State.markStale`. -/
@[simp] theorem State.markStale_frame (s : State) :
    (s.markStale).tick = s.tick ∧ (s.markStale).clk = s.clk ∧ (s.markStale).timer = s.timer ∧
    (s.markStale).ref = s.ref ∧ (s.markStale).time = s.time ∧ (s.markStale).schedule = s.schedule ∧
    (s.markStale).frames.rebuilds = s.frames.rebuilds ∧ (s.markStale).frames.current = s.frames.current ∧
    (s.markStale).frames.latch = s.frames.latch ∧ (s.markStale).key = s.key ∧ (s.markStale).line = s.line ∧
    (s.markStale).ctl = s.ctl ∧ (s.markStale).load = s.load ∧ (s.markStale).maint = s.maint ∧
    (s.markStale).pending = s.pending := by
  simp [State.markStale]

/-- The frame of `State.setSchedule`. -/
@[simp] theorem State.setSchedule_frame (entries : List Entry) (s : State) :
    (s.setSchedule entries).tick = s.tick ∧ (s.setSchedule entries).clk = s.clk ∧
    (s.setSchedule entries).timer = s.timer ∧ (s.setSchedule entries).ref = s.ref ∧
    (s.setSchedule entries).time = s.time ∧ (s.setSchedule entries).frames.rebuilds = s.frames.rebuilds ∧
    (s.setSchedule entries).frames.current = s.frames.current ∧
    (s.setSchedule entries).frames.latch = s.frames.latch ∧ (s.setSchedule entries).key = s.key ∧
    (s.setSchedule entries).line = s.line ∧ (s.setSchedule entries).ctl = s.ctl ∧
    (s.setSchedule entries).load = s.load ∧ (s.setSchedule entries).maint = s.maint ∧
    (s.setSchedule entries).pending = s.pending := by
  unfold State.setSchedule
  repeat' split
  all_goals simp

/-- The frame of `State.refuseOffer`. -/
@[simp] theorem State.refuseOffer_frame (o : Offer) (s : State) :
    (s.refuseOffer o).tick = s.tick ∧ (s.refuseOffer o).clk = s.clk ∧ (s.refuseOffer o).timer = s.timer ∧
    (s.refuseOffer o).ref = s.ref ∧ (s.refuseOffer o).time = s.time ∧ (s.refuseOffer o).schedule = s.schedule ∧
    (s.refuseOffer o).frames = s.frames ∧ (s.refuseOffer o).key = s.key ∧ (s.refuseOffer o).line = s.line ∧
    (s.refuseOffer o).ctl = s.ctl ∧ (s.refuseOffer o).load = s.load ∧
    (s.refuseOffer o).maint.alarms = s.maint.alarms ∧ (s.refuseOffer o).maint.raisings = s.maint.raisings ∧
    (s.refuseOffer o).maint.alertFrom = s.maint.alertFrom ∧ (s.refuseOffer o).maint.alertN = s.maint.alertN ∧
    (s.refuseOffer o).maint.groupCount = s.maint.groupCount ∧
    (s.refuseOffer o).maint.rescueStretch = s.maint.rescueStretch ∧
    (s.refuseOffer o).maint.peerStretch = s.maint.peerStretch ∧
    (s.refuseOffer o).maint.snapshot = s.maint.snapshot ∧
    (s.refuseOffer o).maint.lastCommand = s.maint.lastCommand ∧
    (s.refuseOffer o).maint.lastResult = s.maint.lastResult ∧
    (s.refuseOffer o).maint.nextRepetition = s.maint.nextRepetition ∧
    (s.refuseOffer o).maint.shift = s.maint.shift ∧
    (s.refuseOffer o).maint.latched = s.maint.latched ∧ (s.refuseOffer o).maint.port = s.maint.port ∧ (s.refuseOffer o).pending = s.pending := by
  unfold State.refuseOffer
  repeat' split
  all_goals simp

/-- The frame of `State.schedFull`. -/
@[simp] theorem State.schedFull_frame (s : State) :
    (s.schedFull).tick = s.tick ∧ (s.schedFull).clk = s.clk ∧ (s.schedFull).timer = s.timer ∧
    (s.schedFull).ref = s.ref ∧ (s.schedFull).time = s.time ∧ (s.schedFull).schedule = s.schedule ∧
    (s.schedFull).frames = s.frames ∧ (s.schedFull).key = s.key ∧ (s.schedFull).line = s.line ∧
    (s.schedFull).ctl = s.ctl ∧ (s.schedFull).load = s.load ∧
    (s.schedFull).maint.groupCount = s.maint.groupCount ∧
    (s.schedFull).maint.rescueStretch = s.maint.rescueStretch ∧
    (s.schedFull).maint.peerStretch = s.maint.peerStretch ∧ (s.schedFull).maint.snapshot = s.maint.snapshot ∧
    (s.schedFull).maint.lastCommand = s.maint.lastCommand ∧ (s.schedFull).maint.lastResult = s.maint.lastResult ∧
    (s.schedFull).maint.nextRepetition = s.maint.nextRepetition ∧ (s.schedFull).maint.shift = s.maint.shift ∧
    (s.schedFull).maint.latched = s.maint.latched ∧ (s.schedFull).maint.port = s.maint.port ∧
    (s.schedFull).pending = s.pending := by
  simp [State.schedFull]

/-- The frame of `State.insertOffer`. -/
@[simp] theorem State.insertOffer_frame (o : Offer) (s : State) :
    (s.insertOffer o).tick = s.tick ∧ (s.insertOffer o).clk = s.clk ∧ (s.insertOffer o).timer = s.timer ∧
    (s.insertOffer o).ref = s.ref ∧ (s.insertOffer o).time = s.time ∧
    (s.insertOffer o).frames.rebuilds = s.frames.rebuilds ∧ (s.insertOffer o).frames.current = s.frames.current ∧
    (s.insertOffer o).frames.latch = s.frames.latch ∧ (s.insertOffer o).key = s.key ∧
    (s.insertOffer o).line = s.line ∧ (s.insertOffer o).ctl = s.ctl ∧ (s.insertOffer o).load = s.load ∧
    (s.insertOffer o).maint.groupCount = s.maint.groupCount ∧
    (s.insertOffer o).maint.rescueStretch = s.maint.rescueStretch ∧
    (s.insertOffer o).maint.peerStretch = s.maint.peerStretch ∧
    (s.insertOffer o).maint.snapshot = s.maint.snapshot ∧
    (s.insertOffer o).maint.lastCommand = s.maint.lastCommand ∧
    (s.insertOffer o).maint.lastResult = s.maint.lastResult ∧
    (s.insertOffer o).maint.nextRepetition = s.maint.nextRepetition ∧
    (s.insertOffer o).maint.shift = s.maint.shift ∧
    (s.insertOffer o).maint.latched = s.maint.latched ∧ (s.insertOffer o).maint.port = s.maint.port ∧ (s.insertOffer o).pending = s.pending := by
  unfold State.insertOffer
  repeat' split
  all_goals simp

/-- The frame of `State.placeOffer`. -/
@[simp] theorem State.placeOffer_frame (o : Offer) (s : State) :
    (s.placeOffer o).tick = s.tick ∧ (s.placeOffer o).clk = s.clk ∧ (s.placeOffer o).timer = s.timer ∧
    (s.placeOffer o).ref = s.ref ∧ (s.placeOffer o).time = s.time ∧
    (s.placeOffer o).frames.rebuilds = s.frames.rebuilds ∧ (s.placeOffer o).frames.current = s.frames.current ∧
    (s.placeOffer o).frames.latch = s.frames.latch ∧ (s.placeOffer o).key = s.key ∧
    (s.placeOffer o).line = s.line ∧ (s.placeOffer o).ctl = s.ctl ∧ (s.placeOffer o).load = s.load ∧
    (s.placeOffer o).maint.groupCount = s.maint.groupCount ∧
    (s.placeOffer o).maint.rescueStretch = s.maint.rescueStretch ∧
    (s.placeOffer o).maint.peerStretch = s.maint.peerStretch ∧
    (s.placeOffer o).maint.snapshot = s.maint.snapshot ∧
    (s.placeOffer o).maint.lastCommand = s.maint.lastCommand ∧
    (s.placeOffer o).maint.lastResult = s.maint.lastResult ∧
    (s.placeOffer o).maint.nextRepetition = s.maint.nextRepetition ∧
    (s.placeOffer o).maint.shift = s.maint.shift ∧
    (s.placeOffer o).maint.latched = s.maint.latched ∧ (s.placeOffer o).maint.port = s.maint.port ∧ (s.placeOffer o).pending = s.pending := by
  unfold State.placeOffer
  repeat' split
  all_goals simp

/-- The frame of `State.offer`. -/
@[simp] theorem State.offer_frame (o : Offer) (s : State) :
    (s.offer o).tick = s.tick ∧ (s.offer o).clk = s.clk ∧ (s.offer o).timer = s.timer ∧ (s.offer o).ref = s.ref ∧
    (s.offer o).time = s.time ∧ (s.offer o).frames.rebuilds = s.frames.rebuilds ∧
    (s.offer o).frames.current = s.frames.current ∧ (s.offer o).frames.latch = s.frames.latch ∧
    (s.offer o).key = s.key ∧ (s.offer o).line = s.line ∧ (s.offer o).ctl = s.ctl ∧ (s.offer o).load = s.load ∧
    (s.offer o).maint.groupCount = s.maint.groupCount ∧ (s.offer o).maint.rescueStretch = s.maint.rescueStretch ∧
    (s.offer o).maint.peerStretch = s.maint.peerStretch ∧ (s.offer o).maint.snapshot = s.maint.snapshot ∧
    (s.offer o).maint.lastCommand = s.maint.lastCommand ∧ (s.offer o).maint.lastResult = s.maint.lastResult ∧
    (s.offer o).maint.nextRepetition = s.maint.nextRepetition ∧ (s.offer o).maint.shift = s.maint.shift ∧
    (s.offer o).maint.latched = s.maint.latched ∧ (s.offer o).maint.port = s.maint.port ∧
    (s.offer o).pending = s.pending := by
  unfold State.offer
  repeat' split
  all_goals simp

/-- The frame of `State.expandRules`. -/
@[simp] theorem State.expandRules_frame (s : State) :
    (s.expandRules).tick = s.tick ∧ (s.expandRules).clk = s.clk ∧ (s.expandRules).timer = s.timer ∧
    (s.expandRules).ref = s.ref ∧ (s.expandRules).time = s.time ∧
    (s.expandRules).frames.rebuilds = s.frames.rebuilds ∧ (s.expandRules).frames.current = s.frames.current ∧
    (s.expandRules).frames.latch = s.frames.latch ∧ (s.expandRules).key = s.key ∧ (s.expandRules).line = s.line ∧
    (s.expandRules).ctl = s.ctl ∧ (s.expandRules).load = s.load ∧
    (s.expandRules).maint.groupCount = s.maint.groupCount ∧
    (s.expandRules).maint.rescueStretch = s.maint.rescueStretch ∧
    (s.expandRules).maint.peerStretch = s.maint.peerStretch ∧ (s.expandRules).maint.snapshot = s.maint.snapshot ∧
    (s.expandRules).maint.lastCommand = s.maint.lastCommand ∧
    (s.expandRules).maint.lastResult = s.maint.lastResult ∧
    (s.expandRules).maint.nextRepetition = s.maint.nextRepetition ∧ (s.expandRules).maint.shift = s.maint.shift ∧
    (s.expandRules).maint.latched = s.maint.latched ∧ (s.expandRules).maint.port = s.maint.port ∧
    (s.expandRules).pending = s.pending := by
  unfold State.expandRules
  split
  · refine ⟨offers_keep (fun s => s.tick) (fun s o => by simp) _ s,
      offers_keep (fun s => s.clk) (fun s o => by simp) _ s,
      offers_keep (fun s => s.timer) (fun s o => by simp) _ s,
      offers_keep (fun s => s.ref) (fun s o => by simp) _ s,
      offers_keep (fun s => s.time) (fun s o => by simp) _ s,
      offers_keep (fun s => s.frames.rebuilds) (fun s o => by simp) _ s,
      offers_keep (fun s => s.frames.current) (fun s o => by simp) _ s,
      offers_keep (fun s => s.frames.latch) (fun s o => by simp) _ s,
      offers_keep (fun s => s.key) (fun s o => by simp) _ s,
      offers_keep (fun s => s.line) (fun s o => by simp) _ s,
      offers_keep (fun s => s.ctl) (fun s o => by simp) _ s,
      offers_keep (fun s => s.load) (fun s o => by simp) _ s,
      offers_keep (fun s => s.maint.groupCount) (fun s o => by simp) _ s,
      offers_keep (fun s => s.maint.rescueStretch) (fun s o => by simp) _ s,
      offers_keep (fun s => s.maint.peerStretch) (fun s o => by simp) _ s,
      offers_keep (fun s => s.maint.snapshot) (fun s o => by simp) _ s,
      offers_keep (fun s => s.maint.lastCommand) (fun s o => by simp) _ s,
      offers_keep (fun s => s.maint.lastResult) (fun s o => by simp) _ s,
      offers_keep (fun s => s.maint.nextRepetition) (fun s o => by simp) _ s,
      offers_keep (fun s => s.maint.shift) (fun s o => by simp) _ s,
      offers_keep (fun s => s.maint.latched) (fun s o => by simp) _ s,
      offers_keep (fun s => s.maint.port) (fun s o => by simp) _ s,
      offers_keep (fun s => s.pending) (fun s o => by simp) _ s⟩
  · simp

/-- The frame of `State.cancelRefLeaps`. -/
@[simp] theorem State.cancelRefLeaps_frame (s : State) :
    (s.cancelRefLeaps).tick = s.tick ∧ (s.cancelRefLeaps).clk = s.clk ∧ (s.cancelRefLeaps).timer = s.timer ∧
    (s.cancelRefLeaps).ref = s.ref ∧ (s.cancelRefLeaps).time = s.time ∧
    (s.cancelRefLeaps).frames.rebuilds = s.frames.rebuilds ∧
    (s.cancelRefLeaps).frames.current = s.frames.current ∧ (s.cancelRefLeaps).frames.latch = s.frames.latch ∧
    (s.cancelRefLeaps).key = s.key ∧ (s.cancelRefLeaps).line = s.line ∧ (s.cancelRefLeaps).ctl = s.ctl ∧
    (s.cancelRefLeaps).load = s.load ∧ (s.cancelRefLeaps).maint = s.maint ∧
    (s.cancelRefLeaps).pending = s.pending := by
  simp [State.cancelRefLeaps]

/-- The frame of `State.removeLineEntries`. -/
@[simp] theorem State.removeLineEntries_frame (s : State) :
    (s.removeLineEntries).tick = s.tick ∧ (s.removeLineEntries).clk = s.clk ∧
    (s.removeLineEntries).timer = s.timer ∧ (s.removeLineEntries).ref = s.ref ∧
    (s.removeLineEntries).time = s.time ∧ (s.removeLineEntries).frames.rebuilds = s.frames.rebuilds ∧
    (s.removeLineEntries).frames.current = s.frames.current ∧
    (s.removeLineEntries).frames.latch = s.frames.latch ∧ (s.removeLineEntries).key = s.key ∧
    (s.removeLineEntries).line = s.line ∧ (s.removeLineEntries).ctl = s.ctl ∧
    (s.removeLineEntries).load = s.load ∧ (s.removeLineEntries).maint = s.maint ∧
    (s.removeLineEntries).pending = s.pending := by
  simp [State.removeLineEntries]

/-- The frame of `State.pruneForReset`. -/
@[simp] theorem State.pruneForReset_frame (n : Int) (s : State) :
    (s.pruneForReset n).tick = s.tick ∧ (s.pruneForReset n).clk = s.clk ∧ (s.pruneForReset n).timer = s.timer ∧
    (s.pruneForReset n).ref = s.ref ∧ (s.pruneForReset n).time = s.time ∧
    (s.pruneForReset n).frames.rebuilds = s.frames.rebuilds ∧
    (s.pruneForReset n).frames.current = s.frames.current ∧ (s.pruneForReset n).frames.latch = s.frames.latch ∧
    (s.pruneForReset n).key = s.key ∧ (s.pruneForReset n).line = s.line ∧ (s.pruneForReset n).ctl = s.ctl ∧
    (s.pruneForReset n).load = s.load ∧ (s.pruneForReset n).maint = s.maint ∧
    (s.pruneForReset n).pending = s.pending := by
  simp [State.pruneForReset]

/-- The frame of `State.commitLeap`. -/
@[simp] theorem State.commitLeap_frame (f : Frame) (s : State) :
    (s.commitLeap f).tick = s.tick ∧ (s.commitLeap f).clk = s.clk ∧ (s.commitLeap f).timer = s.timer ∧
    (s.commitLeap f).ref = s.ref ∧ (s.commitLeap f).time = s.time ∧
    (s.commitLeap f).frames.rebuilds = s.frames.rebuilds ∧ (s.commitLeap f).frames.current = s.frames.current ∧
    (s.commitLeap f).frames.latch = s.frames.latch ∧ (s.commitLeap f).key = s.key ∧
    (s.commitLeap f).line = s.line ∧ (s.commitLeap f).ctl = s.ctl ∧ (s.commitLeap f).load = s.load ∧
    (s.commitLeap f).maint = s.maint ∧ (s.commitLeap f).pending = s.pending := by
  simp [State.commitLeap]

/-- The frame of `State.retire`. -/
@[simp] theorem State.retire_frame (n : Int) (s : State) :
    (s.retire n).tick = s.tick ∧ (s.retire n).clk = s.clk ∧ (s.retire n).timer = s.timer ∧
    (s.retire n).ref = s.ref ∧ (s.retire n).time.n = s.time.n ∧ (s.retire n).time.origin = s.time.origin ∧
    (s.retire n).time.age = s.time.age ∧ (s.retire n).time.rangeEnding = s.time.rangeEnding ∧
    (s.retire n).time.pendingSet = s.time.pendingSet ∧ (s.retire n).time.pendingReset = s.time.pendingReset ∧
    (s.retire n).time.leap60 = s.time.leap60 ∧ (s.retire n).frames.rebuilds = s.frames.rebuilds ∧
    (s.retire n).frames.current = s.frames.current ∧ (s.retire n).frames.latch = s.frames.latch ∧
    (s.retire n).key = s.key ∧ (s.retire n).line = s.line ∧ (s.retire n).ctl = s.ctl ∧
    (s.retire n).load = s.load ∧ (s.retire n).maint = s.maint ∧ (s.retire n).pending = s.pending := by
  unfold State.retire
  repeat' split
  all_goals simp

end Sys2Proof.Machine
end

