-- ==== Sys2Proof/Laws/FrameFrames.lean ====
section
/-!
SUPPORT. Frames of the Frame Builder: for each operation, one lemma that names every block of the state it leaves as it is, and in the
blocks it does change, the fields it leaves.
-/

namespace Sys2Proof.Machine

/-- The frame of `State.buildNext`. -/
@[simp] theorem State.buildNext_frame (n0 : Int) (s : State) :
    (s.buildNext n0).tick = s.tick ∧ (s.buildNext n0).clk = s.clk ∧ (s.buildNext n0).timer = s.timer ∧
    (s.buildNext n0).ref = s.ref ∧ (s.buildNext n0).time = s.time ∧ (s.buildNext n0).schedule = s.schedule ∧
    (s.buildNext n0).frames.rebuilds = s.frames.rebuilds ∧ (s.buildNext n0).frames.current = s.frames.current ∧
    (s.buildNext n0).key = s.key ∧ (s.buildNext n0).line = s.line ∧ (s.buildNext n0).ctl = s.ctl ∧
    (s.buildNext n0).load = s.load ∧ (s.buildNext n0).maint = s.maint ∧ (s.buildNext n0).pending = s.pending := by
  simp [State.buildNext]

/-- The frame of `State.buildCurrent`. -/
@[simp] theorem State.buildCurrent_frame (n0 : Int) (s : State) :
    (s.buildCurrent n0).tick = s.tick ∧ (s.buildCurrent n0).clk = s.clk ∧ (s.buildCurrent n0).timer = s.timer ∧
    (s.buildCurrent n0).ref = s.ref ∧ (s.buildCurrent n0).time = s.time ∧
    (s.buildCurrent n0).schedule = s.schedule ∧ (s.buildCurrent n0).frames.rebuilds = s.frames.rebuilds ∧
    (s.buildCurrent n0).key = s.key ∧ (s.buildCurrent n0).line = s.line ∧ (s.buildCurrent n0).ctl = s.ctl ∧
    (s.buildCurrent n0).load = s.load ∧ (s.buildCurrent n0).maint = s.maint ∧
    (s.buildCurrent n0).pending = s.pending := by
  simp [State.buildCurrent]

/-- The frame of `State.rebuildStale`. -/
@[simp] theorem State.rebuildStale_frame (s : State) :
    (s.rebuildStale).tick = s.tick ∧ (s.rebuildStale).clk = s.clk ∧ (s.rebuildStale).timer = s.timer ∧
    (s.rebuildStale).ref = s.ref ∧ (s.rebuildStale).time = s.time ∧ (s.rebuildStale).schedule = s.schedule ∧
    (s.rebuildStale).frames.current = s.frames.current ∧ (s.rebuildStale).key = s.key ∧
    (s.rebuildStale).line = s.line ∧ (s.rebuildStale).ctl = s.ctl ∧ (s.rebuildStale).load = s.load ∧
    (s.rebuildStale).maint = s.maint ∧ (s.rebuildStale).pending = s.pending := by
  unfold State.rebuildStale
  repeat' split
  all_goals simp

/-- The frame of `State.frameBecameCurrent`. -/
@[simp] theorem State.frameBecameCurrent_frame (s : State) :
    (s.frameBecameCurrent).tick = s.tick ∧ (s.frameBecameCurrent).clk = s.clk ∧
    (s.frameBecameCurrent).timer = s.timer ∧ (s.frameBecameCurrent).ref = s.ref ∧
    (s.frameBecameCurrent).time = s.time ∧ (s.frameBecameCurrent).schedule = s.schedule ∧
    (s.frameBecameCurrent).frames = s.frames ∧ (s.frameBecameCurrent).key.drive = s.key.drive ∧
    (s.frameBecameCurrent).key.ring = s.key.ring ∧ (s.frameBecameCurrent).key.level = s.key.level ∧
    (s.frameBecameCurrent).key.t0 = s.key.t0 ∧ (s.frameBecameCurrent).key.opens = s.key.opens ∧
    (s.frameBecameCurrent).key.edges = s.key.edges ∧ (s.frameBecameCurrent).key.lastVerdict = s.key.lastVerdict ∧
    (s.frameBecameCurrent).line = s.line ∧ (s.frameBecameCurrent).ctl = s.ctl ∧
    (s.frameBecameCurrent).load = s.load ∧ (s.frameBecameCurrent).maint = s.maint ∧
    (s.frameBecameCurrent).pending = s.pending := by
  simp [State.frameBecameCurrent]

/-- The frame of `State.discardFrames`. -/
@[simp] theorem State.discardFrames_frame (s : State) :
    (s.discardFrames).tick = s.tick ∧ (s.discardFrames).clk = s.clk ∧ (s.discardFrames).timer = s.timer ∧
    (s.discardFrames).ref = s.ref ∧ (s.discardFrames).time = s.time ∧ (s.discardFrames).schedule = s.schedule ∧
    (s.discardFrames).frames.rebuilds = s.frames.rebuilds ∧ (s.discardFrames).key = s.key ∧
    (s.discardFrames).line = s.line ∧ (s.discardFrames).ctl = s.ctl ∧ (s.discardFrames).load = s.load ∧
    (s.discardFrames).maint = s.maint ∧ (s.discardFrames).pending = s.pending := by
  simp [State.discardFrames]

/-- The frame of `State.catchUpNow`. -/
@[simp] theorem State.catchUpNow_frame (s : State) :
    (s.catchUpNow).tick = s.tick ∧ (s.catchUpNow).clk = s.clk ∧ (s.catchUpNow).timer = s.timer ∧
    (s.catchUpNow).ref = s.ref ∧ (s.catchUpNow).time = s.time ∧ (s.catchUpNow).schedule = s.schedule ∧
    (s.catchUpNow).frames.rebuilds = s.frames.rebuilds ∧ (s.catchUpNow).key.drive = s.key.drive ∧
    (s.catchUpNow).key.ring = s.key.ring ∧ (s.catchUpNow).key.level = s.key.level ∧
    (s.catchUpNow).key.t0 = s.key.t0 ∧ (s.catchUpNow).key.opens = s.key.opens ∧
    (s.catchUpNow).key.edges = s.key.edges ∧ (s.catchUpNow).key.lastVerdict = s.key.lastVerdict ∧
    (s.catchUpNow).line = s.line ∧ (s.catchUpNow).ctl = s.ctl ∧ (s.catchUpNow).load = s.load ∧
    (s.catchUpNow).maint = s.maint ∧ (s.catchUpNow).pending = s.pending := by
  unfold State.catchUpNow; dsimp only
  repeat' split
  all_goals simp

/-- The frame of `State.catchUp`. -/
@[simp] theorem State.catchUp_frame (s : State) :
    (s.catchUp).tick = s.tick ∧ (s.catchUp).clk = s.clk ∧ (s.catchUp).timer = s.timer ∧ (s.catchUp).ref = s.ref ∧
    (s.catchUp).time = s.time ∧ (s.catchUp).schedule = s.schedule ∧
    (s.catchUp).frames.rebuilds = s.frames.rebuilds ∧ (s.catchUp).key.drive = s.key.drive ∧
    (s.catchUp).key.ring = s.key.ring ∧ (s.catchUp).key.level = s.key.level ∧ (s.catchUp).key.t0 = s.key.t0 ∧
    (s.catchUp).key.opens = s.key.opens ∧ (s.catchUp).key.edges = s.key.edges ∧
    (s.catchUp).key.lastVerdict = s.key.lastVerdict ∧ (s.catchUp).line = s.line ∧ (s.catchUp).ctl = s.ctl ∧
    (s.catchUp).load = s.load ∧ (s.catchUp).maint = s.maint ∧ (s.catchUp).pending = s.pending := by
  unfold State.catchUp
  repeat' split
  all_goals simp

/-- The frame of `State.buildPoint`. -/
@[simp] theorem State.buildPoint_frame (s : State) :
    (s.buildPoint).tick = s.tick ∧ (s.buildPoint).clk = s.clk ∧ (s.buildPoint).timer = s.timer ∧
    (s.buildPoint).ref = s.ref ∧ (s.buildPoint).time = s.time ∧ (s.buildPoint).schedule = s.schedule ∧
    (s.buildPoint).frames.rebuilds = s.frames.rebuilds ∧ (s.buildPoint).frames.current = s.frames.current ∧
    (s.buildPoint).key = s.key ∧ (s.buildPoint).line = s.line ∧ (s.buildPoint).ctl = s.ctl ∧
    (s.buildPoint).load = s.load ∧ (s.buildPoint).maint = s.maint ∧ (s.buildPoint).pending = s.pending := by
  unfold State.buildPoint
  repeat' split
  all_goals simp

/-- The frame of `State.frameSwap`. -/
@[simp] theorem State.frameSwap_frame (s : State) :
    (s.frameSwap).tick = s.tick ∧ (s.frameSwap).clk = s.clk ∧ (s.frameSwap).timer = s.timer ∧
    (s.frameSwap).ref = s.ref ∧ (s.frameSwap).time = s.time ∧ (s.frameSwap).key.drive = s.key.drive ∧
    (s.frameSwap).key.ring = s.key.ring ∧ (s.frameSwap).key.level = s.key.level ∧
    (s.frameSwap).key.t0 = s.key.t0 ∧ (s.frameSwap).key.opens = s.key.opens ∧
    (s.frameSwap).key.edges = s.key.edges ∧ (s.frameSwap).key.lastVerdict = s.key.lastVerdict ∧
    (s.frameSwap).line = s.line ∧ (s.frameSwap).ctl.standing = s.ctl.standing ∧
    (s.frameSwap).ctl.test = s.ctl.test ∧ (s.frameSwap).ctl.pendingWithdraw = s.ctl.pendingWithdraw ∧
    (s.frameSwap).ctl.yieldDue = s.ctl.yieldDue ∧ (s.frameSwap).ctl.faultReport = s.ctl.faultReport ∧
    (s.frameSwap).ctl.pendingJoin = s.ctl.pendingJoin ∧ (s.frameSwap).ctl.silence = s.ctl.silence ∧
    (s.frameSwap).ctl.silenceFrom = s.ctl.silenceFrom ∧ (s.frameSwap).ctl.floor = s.ctl.floor ∧
    (s.frameSwap).ctl.lastComparison = s.ctl.lastComparison ∧ (s.frameSwap).load = s.load ∧
    (s.frameSwap).maint = s.maint ∧ (s.frameSwap).pending = s.pending := by
  unfold State.frameSwap; dsimp only
  repeat' split
  all_goals simp

/-- The frame of `State.ownFrame`. -/
@[simp] theorem State.ownFrame_frame (n0 : Int) (s : State) :
    (s.ownFrame n0).1.tick = s.tick ∧ (s.ownFrame n0).1.clk = s.clk ∧ (s.ownFrame n0).1.timer = s.timer ∧
    (s.ownFrame n0).1.ref = s.ref ∧ (s.ownFrame n0).1.time = s.time ∧ (s.ownFrame n0).1.schedule = s.schedule ∧
    (s.ownFrame n0).1.frames.current = s.frames.current ∧ (s.ownFrame n0).1.key = s.key ∧
    (s.ownFrame n0).1.line = s.line ∧ (s.ownFrame n0).1.ctl = s.ctl ∧ (s.ownFrame n0).1.load = s.load ∧
    (s.ownFrame n0).1.maint = s.maint ∧ (s.ownFrame n0).1.pending = s.pending := by
  simp [State.ownFrame]

end Sys2Proof.Machine
end

