-- ==== Sys2Proof/Laws/FrameTimeScale.lean ====
section
/-!
SUPPORT. Frames of the Time Scale Unit and the sample operations: for each operation, one lemma that names every block of the state it leaves as it is, and in the
blocks it does change, the fields it leaves.
-/

namespace Sys2Proof.Machine

/-- The frame of `State.classChanged`. -/
@[simp] theorem State.classChanged_frame (before : TimeClass) (s : State) :
    (s.classChanged before).tick = s.tick ∧ (s.classChanged before).clk = s.clk ∧
    (s.classChanged before).timer = s.timer ∧ (s.classChanged before).ref = s.ref ∧
    (s.classChanged before).time = s.time ∧ (s.classChanged before).frames.rebuilds = s.frames.rebuilds ∧
    (s.classChanged before).frames.current = s.frames.current ∧
    (s.classChanged before).frames.latch = s.frames.latch ∧ (s.classChanged before).key = s.key ∧
    (s.classChanged before).line.last = s.line.last ∧ (s.classChanged before).line.lastBreak = s.line.lastBreak ∧
    (s.classChanged before).line.notice = s.line.notice ∧ (s.classChanged before).line.decoder = s.line.decoder ∧
    (s.classChanged before).ctl.test = s.ctl.test ∧
    (s.classChanged before).ctl.pendingWithdraw = s.ctl.pendingWithdraw ∧
    (s.classChanged before).ctl.yieldDue = s.ctl.yieldDue ∧
    (s.classChanged before).ctl.faultReport = s.ctl.faultReport ∧ (s.classChanged before).ctl.copy = s.ctl.copy ∧
    (s.classChanged before).ctl.floor = s.ctl.floor ∧
    (s.classChanged before).ctl.lastComparison = s.ctl.lastComparison ∧ (s.classChanged before).load = s.load ∧
    (s.classChanged before).maint = s.maint ∧ (s.classChanged before).pending = s.pending := by
  unfold State.classChanged; dsimp only
  repeat' split
  all_goals simp

/-- The frame of `State.setN`. -/
@[simp] theorem State.setN_frame (n : Int) (s : State) :
    (s.setN n).tick = s.tick ∧ (s.setN n).clk = s.clk ∧ (s.setN n).timer.monitor = s.timer.monitor ∧
    (s.setN n).timer.f = s.timer.f ∧ (s.setN n).timer.a = s.timer.a ∧
    (s.setN n).timer.driveTaken = s.timer.driveTaken ∧ (s.setN n).timer.nextEpoch = s.timer.nextEpoch ∧
    (s.setN n).ref = s.ref ∧ (s.setN n).time.origin = s.time.origin ∧ (s.setN n).time.age = s.time.age ∧
    (s.setN n).time.pendingSet = s.time.pendingSet ∧ (s.setN n).time.pendingReset = s.time.pendingReset ∧
    (s.setN n).time.leap60 = s.time.leap60 ∧ (s.setN n).time.offset = s.time.offset ∧
    (s.setN n).schedule = s.schedule ∧ (s.setN n).frames = s.frames ∧ (s.setN n).key = s.key ∧
    (s.setN n).line = s.line ∧ (s.setN n).ctl.standing = s.ctl.standing ∧ (s.setN n).ctl.test = s.ctl.test ∧
    (s.setN n).ctl.pendingWithdraw = s.ctl.pendingWithdraw ∧ (s.setN n).ctl.yieldDue = s.ctl.yieldDue ∧
    (s.setN n).ctl.faultReport = s.ctl.faultReport ∧ (s.setN n).ctl.silence = s.ctl.silence ∧
    (s.setN n).ctl.silenceFrom = s.ctl.silenceFrom ∧ (s.setN n).ctl.copy = s.ctl.copy ∧
    (s.setN n).ctl.floor = s.ctl.floor ∧ (s.setN n).ctl.lastComparison = s.ctl.lastComparison ∧
    (s.setN n).load = s.load ∧ (s.setN n).maint = s.maint ∧ (s.setN n).pending = s.pending := by
  simp [State.setN]

/-- The frame of `State.endRange`. -/
@[simp] theorem State.endRange_frame (s : State) :
    (s.endRange).tick = s.tick ∧ (s.endRange).clk = s.clk ∧ (s.endRange).timer.monitor = s.timer.monitor ∧
    (s.endRange).timer.f = s.timer.f ∧ (s.endRange).timer.a = s.timer.a ∧
    (s.endRange).timer.driveTaken = s.timer.driveTaken ∧ (s.endRange).timer.nextEpoch = s.timer.nextEpoch ∧
    (s.endRange).frames.rebuilds = s.frames.rebuilds ∧ (s.endRange).key.drive = s.key.drive ∧
    (s.endRange).key.ring = s.key.ring ∧ (s.endRange).key.t0 = s.key.t0 ∧ (s.endRange).key.opens = s.key.opens ∧
    (s.endRange).key.edges = s.key.edges ∧ (s.endRange).key.lastVerdict = s.key.lastVerdict ∧
    (s.endRange).line.last = s.line.last ∧ (s.endRange).line.lastBreak = s.line.lastBreak ∧
    (s.endRange).line.notice = s.line.notice ∧ (s.endRange).ctl.pendingWithdraw = s.ctl.pendingWithdraw ∧
    (s.endRange).ctl.yieldDue = s.ctl.yieldDue ∧ (s.endRange).ctl.faultReport = s.ctl.faultReport ∧
    (s.endRange).ctl.copy = s.ctl.copy ∧ (s.endRange).ctl.floor = s.ctl.floor ∧
    (s.endRange).ctl.lastComparison = s.ctl.lastComparison ∧ (s.endRange).load = s.load ∧
    (s.endRange).maint = s.maint ∧ (s.endRange).pending = s.pending := by
  unfold State.endRange; dsimp only
  repeat' split
  all_goals simp

/-- The frame of `State.setTime`. -/
@[simp] theorem State.setTime_frame (n : Int) (origin : Origin) (s : State) :
    (s.setTime n origin).tick = s.tick ∧ (s.setTime n origin).clk = s.clk ∧
    (s.setTime n origin).timer.monitor = s.timer.monitor ∧ (s.setTime n origin).timer.f = s.timer.f ∧
    (s.setTime n origin).timer.a = s.timer.a ∧ (s.setTime n origin).timer.driveTaken = s.timer.driveTaken ∧
    (s.setTime n origin).timer.nextEpoch = s.timer.nextEpoch ∧ (s.setTime n origin).ref = s.ref ∧
    (s.setTime n origin).time.pendingReset = s.time.pendingReset ∧
    (s.setTime n origin).frames.rebuilds = s.frames.rebuilds ∧ (s.setTime n origin).key.drive = s.key.drive ∧
    (s.setTime n origin).key.ring = s.key.ring ∧ (s.setTime n origin).key.level = s.key.level ∧
    (s.setTime n origin).key.t0 = s.key.t0 ∧ (s.setTime n origin).key.opens = s.key.opens ∧
    (s.setTime n origin).key.edges = s.key.edges ∧ (s.setTime n origin).key.lastVerdict = s.key.lastVerdict ∧
    (s.setTime n origin).line.last = s.line.last ∧ (s.setTime n origin).line.lastBreak = s.line.lastBreak ∧
    (s.setTime n origin).line.notice = s.line.notice ∧ (s.setTime n origin).line.decoder = s.line.decoder ∧
    (s.setTime n origin).ctl.test = s.ctl.test ∧
    (s.setTime n origin).ctl.pendingWithdraw = s.ctl.pendingWithdraw ∧
    (s.setTime n origin).ctl.yieldDue = s.ctl.yieldDue ∧
    (s.setTime n origin).ctl.faultReport = s.ctl.faultReport ∧ (s.setTime n origin).ctl.copy = s.ctl.copy ∧
    (s.setTime n origin).ctl.floor = s.ctl.floor ∧
    (s.setTime n origin).ctl.lastComparison = s.ctl.lastComparison ∧ (s.setTime n origin).load = s.load ∧
    (s.setTime n origin).maint.groupCount = s.maint.groupCount ∧
    (s.setTime n origin).maint.rescueStretch = s.maint.rescueStretch ∧
    (s.setTime n origin).maint.peerStretch = s.maint.peerStretch ∧
    (s.setTime n origin).maint.snapshot = s.maint.snapshot ∧
    (s.setTime n origin).maint.lastCommand = s.maint.lastCommand ∧
    (s.setTime n origin).maint.lastResult = s.maint.lastResult ∧
    (s.setTime n origin).maint.nextRepetition = s.maint.nextRepetition ∧
    (s.setTime n origin).maint.shift = s.maint.shift ∧
    (s.setTime n origin).maint.latched = s.maint.latched ∧ (s.setTime n origin).maint.port = s.maint.port ∧ (s.setTime n origin).pending = s.pending := by
  simp [State.setTime]

/-- The frame of `State.resetApplied`. -/
@[simp] theorem State.resetApplied_frame (s : State) :
    (s.resetApplied).tick = s.tick ∧ (s.resetApplied).clk = s.clk ∧ (s.resetApplied).timer = s.timer ∧
    (s.resetApplied).ref = s.ref ∧ (s.resetApplied).time = { s.time with leap60 := false } ∧ (s.resetApplied).schedule = s.schedule ∧
    (s.resetApplied).frames.rebuilds = s.frames.rebuilds ∧ (s.resetApplied).key.drive = s.key.drive ∧
    (s.resetApplied).key.ring = s.key.ring ∧ (s.resetApplied).key.t0 = s.key.t0 ∧
    (s.resetApplied).key.opens = s.key.opens ∧ (s.resetApplied).key.edges = s.key.edges ∧
    (s.resetApplied).key.lastVerdict = s.key.lastVerdict ∧ (s.resetApplied).line.last = s.line.last ∧
    (s.resetApplied).line.candidate = s.line.candidate ∧ (s.resetApplied).line.lastBreak = s.line.lastBreak ∧
    (s.resetApplied).line.notice = s.line.notice ∧ (s.resetApplied).ctl.standing = s.ctl.standing ∧
    (s.resetApplied).ctl.pendingWithdraw = s.ctl.pendingWithdraw ∧
    (s.resetApplied).ctl.yieldDue = s.ctl.yieldDue ∧ (s.resetApplied).ctl.faultReport = s.ctl.faultReport ∧
    (s.resetApplied).ctl.silence = s.ctl.silence ∧ (s.resetApplied).ctl.silenceFrom = s.ctl.silenceFrom ∧
    (s.resetApplied).ctl.copy = s.ctl.copy ∧ (s.resetApplied).ctl.lastComparison = s.ctl.lastComparison ∧
    (s.resetApplied).load = s.load ∧ (s.resetApplied).maint = s.maint ∧ (s.resetApplied).pending = s.pending := by
  unfold State.resetApplied; dsimp only
  repeat' split
  all_goals simp

/-- The frame of `State.resetSchedule`. -/
@[simp] theorem State.resetSchedule_frame (n : Int) (s : State) :
    (s.resetSchedule n).tick = s.tick ∧ (s.resetSchedule n).clk = s.clk ∧ (s.resetSchedule n).timer = s.timer ∧
    (s.resetSchedule n).ref = s.ref ∧ (s.resetSchedule n).time = s.time ∧
    (s.resetSchedule n).frames.rebuilds = s.frames.rebuilds ∧
    (s.resetSchedule n).frames.current = s.frames.current ∧ (s.resetSchedule n).frames.latch = s.frames.latch ∧
    (s.resetSchedule n).key = s.key ∧ (s.resetSchedule n).line = s.line ∧ (s.resetSchedule n).ctl = s.ctl ∧
    (s.resetSchedule n).load = s.load ∧ (s.resetSchedule n).maint = s.maint ∧ (s.resetSchedule n).pending = s.pending := by
  unfold State.resetSchedule; dsimp only
  repeat' split
  all_goals simp

/-- The frame of `State.dropPendingReset`. -/
@[simp] theorem State.dropPendingReset_frame (s : State) :
    s.dropPendingReset.tick = s.tick ∧ s.dropPendingReset.clk = s.clk ∧ s.dropPendingReset.timer = s.timer ∧
    s.dropPendingReset.ref = s.ref ∧ s.dropPendingReset.time.n = s.time.n ∧
    s.dropPendingReset.time.origin = s.time.origin ∧ s.dropPendingReset.time.age = s.time.age ∧
    s.dropPendingReset.time.leap60 = s.time.leap60 ∧ s.dropPendingReset.time.offset = s.time.offset ∧
    s.dropPendingReset.time.pendingSet = s.time.pendingSet ∧
    s.dropPendingReset.time.rangeEnding = s.time.rangeEnding ∧ s.dropPendingReset.schedule = s.schedule ∧
    s.dropPendingReset.frames = s.frames ∧ s.dropPendingReset.key = s.key ∧ s.dropPendingReset.line = s.line ∧
    s.dropPendingReset.ctl = s.ctl ∧ s.dropPendingReset.load = s.load ∧ s.dropPendingReset.maint = s.maint ∧
    s.dropPendingReset.pending = s.pending := by
  simp [State.dropPendingReset]

/-- The frame of `State.shiftCount`. -/
@[simp] theorem State.shiftCount_frame (d : Int) (s : State) :
    (s.shiftCount d).tick = s.tick ∧ (s.shiftCount d).clk = s.clk ∧
    (s.shiftCount d).timer.monitor = s.timer.monitor ∧ (s.shiftCount d).timer.f = s.timer.f ∧
    (s.shiftCount d).timer.a = s.timer.a ∧ (s.shiftCount d).timer.driveTaken = s.timer.driveTaken ∧
    (s.shiftCount d).timer.nextEpoch = s.timer.nextEpoch ∧ (s.shiftCount d).ref = s.ref ∧
    (s.shiftCount d).time.origin = s.time.origin ∧ (s.shiftCount d).time.age = s.time.age ∧
    (s.shiftCount d).time.pendingSet = s.time.pendingSet ∧
    (s.shiftCount d).time.pendingReset = s.time.pendingReset ∧
    (s.shiftCount d).frames.rebuilds = s.frames.rebuilds ∧ (s.shiftCount d).frames.current = s.frames.current ∧
    (s.shiftCount d).frames.latch = s.frames.latch ∧ (s.shiftCount d).key = s.key ∧
    (s.shiftCount d).line = s.line ∧ (s.shiftCount d).ctl.standing = s.ctl.standing ∧
    (s.shiftCount d).ctl.test = s.ctl.test ∧ (s.shiftCount d).ctl.pendingWithdraw = s.ctl.pendingWithdraw ∧
    (s.shiftCount d).ctl.yieldDue = s.ctl.yieldDue ∧ (s.shiftCount d).ctl.faultReport = s.ctl.faultReport ∧
    (s.shiftCount d).ctl.silence = s.ctl.silence ∧ (s.shiftCount d).ctl.silenceFrom = s.ctl.silenceFrom ∧
    (s.shiftCount d).ctl.copy = s.ctl.copy ∧ (s.shiftCount d).ctl.floor = s.ctl.floor ∧
    (s.shiftCount d).ctl.lastComparison = s.ctl.lastComparison ∧ (s.shiftCount d).load = s.load ∧
    (s.shiftCount d).maint.groupCount = s.maint.groupCount ∧
    (s.shiftCount d).maint.rescueStretch = s.maint.rescueStretch ∧
    (s.shiftCount d).maint.peerStretch = s.maint.peerStretch ∧
    (s.shiftCount d).maint.snapshot = s.maint.snapshot ∧
    (s.shiftCount d).maint.lastCommand = s.maint.lastCommand ∧
    (s.shiftCount d).maint.lastResult = s.maint.lastResult ∧
    (s.shiftCount d).maint.nextRepetition = s.maint.nextRepetition ∧
    (s.shiftCount d).maint.shift = s.maint.shift ∧
    (s.shiftCount d).maint.latched = s.maint.latched ∧ (s.shiftCount d).maint.port = s.maint.port ∧ (s.shiftCount d).pending = s.pending := by
  unfold State.shiftCount
  repeat' split
  all_goals simp

/-- The frame of `State.shiftAtEpoch`. -/
@[simp] theorem State.shiftAtEpoch_frame (d : Int) (s : State) :
    (s.shiftAtEpoch d).tick = s.tick ∧ (s.shiftAtEpoch d).clk = s.clk ∧
    (s.shiftAtEpoch d).timer.monitor = s.timer.monitor ∧ (s.shiftAtEpoch d).timer.f = s.timer.f ∧
    (s.shiftAtEpoch d).timer.a = s.timer.a ∧ (s.shiftAtEpoch d).timer.driveTaken = s.timer.driveTaken ∧
    (s.shiftAtEpoch d).timer.nextEpoch = s.timer.nextEpoch ∧ (s.shiftAtEpoch d).ref = s.ref ∧
    (s.shiftAtEpoch d).time.origin = s.time.origin ∧ (s.shiftAtEpoch d).time.age = s.time.age ∧
    (s.shiftAtEpoch d).time.pendingSet = s.time.pendingSet ∧
    (s.shiftAtEpoch d).time.pendingReset = s.time.pendingReset ∧
    (s.shiftAtEpoch d).frames.rebuilds = s.frames.rebuilds ∧ (s.shiftAtEpoch d).frames.current = s.frames.current ∧
    (s.shiftAtEpoch d).frames.latch = s.frames.latch ∧ (s.shiftAtEpoch d).key = s.key ∧
    (s.shiftAtEpoch d).line = s.line ∧ (s.shiftAtEpoch d).ctl.standing = s.ctl.standing ∧
    (s.shiftAtEpoch d).ctl.test = s.ctl.test ∧ (s.shiftAtEpoch d).ctl.pendingWithdraw = s.ctl.pendingWithdraw ∧
    (s.shiftAtEpoch d).ctl.yieldDue = s.ctl.yieldDue ∧ (s.shiftAtEpoch d).ctl.faultReport = s.ctl.faultReport ∧
    (s.shiftAtEpoch d).ctl.silence = s.ctl.silence ∧ (s.shiftAtEpoch d).ctl.silenceFrom = s.ctl.silenceFrom ∧
    (s.shiftAtEpoch d).ctl.copy = s.ctl.copy ∧ (s.shiftAtEpoch d).ctl.floor = s.ctl.floor ∧
    (s.shiftAtEpoch d).ctl.lastComparison = s.ctl.lastComparison ∧ (s.shiftAtEpoch d).load = s.load ∧
    (s.shiftAtEpoch d).maint.groupCount = s.maint.groupCount ∧
    (s.shiftAtEpoch d).maint.rescueStretch = s.maint.rescueStretch ∧
    (s.shiftAtEpoch d).maint.peerStretch = s.maint.peerStretch ∧
    (s.shiftAtEpoch d).maint.snapshot = s.maint.snapshot ∧
    (s.shiftAtEpoch d).maint.lastCommand = s.maint.lastCommand ∧
    (s.shiftAtEpoch d).maint.lastResult = s.maint.lastResult ∧
    (s.shiftAtEpoch d).maint.nextRepetition = s.maint.nextRepetition ∧
    (s.shiftAtEpoch d).maint.shift = s.maint.shift ∧
    (s.shiftAtEpoch d).maint.latched = s.maint.latched ∧ (s.shiftAtEpoch d).maint.port = s.maint.port ∧ (s.shiftAtEpoch d).pending = s.pending := by
  unfold State.shiftAtEpoch
  repeat' split
  all_goals simp

/-- The frame of `State.applyCountReset`. -/
@[simp] theorem State.applyCountReset_frame (d : Int) (s : State) :
    (s.applyCountReset d).tick = s.tick ∧ (s.applyCountReset d).clk = s.clk ∧
    (s.applyCountReset d).timer.monitor = s.timer.monitor ∧ (s.applyCountReset d).timer.f = s.timer.f ∧
    (s.applyCountReset d).timer.a = s.timer.a ∧ (s.applyCountReset d).timer.driveTaken = s.timer.driveTaken ∧
    (s.applyCountReset d).timer.nextEpoch = s.timer.nextEpoch ∧ (s.applyCountReset d).ref = s.ref ∧
    (s.applyCountReset d).time.origin = s.time.origin ∧ (s.applyCountReset d).time.age = s.time.age ∧
    (s.applyCountReset d).time.pendingSet = s.time.pendingSet ∧
    (s.applyCountReset d).time.pendingReset = s.time.pendingReset ∧
    (s.applyCountReset d).frames.rebuilds = s.frames.rebuilds ∧ (s.applyCountReset d).key.drive = s.key.drive ∧
    (s.applyCountReset d).key.ring = s.key.ring ∧ (s.applyCountReset d).key.t0 = s.key.t0 ∧
    (s.applyCountReset d).key.opens = s.key.opens ∧ (s.applyCountReset d).key.edges = s.key.edges ∧
    (s.applyCountReset d).key.lastVerdict = s.key.lastVerdict ∧ (s.applyCountReset d).line.last = s.line.last ∧
    (s.applyCountReset d).line.candidate = s.line.candidate ∧
    (s.applyCountReset d).line.lastBreak = s.line.lastBreak ∧ (s.applyCountReset d).line.notice = s.line.notice ∧
    (s.applyCountReset d).ctl.standing = s.ctl.standing ∧
    (s.applyCountReset d).ctl.pendingWithdraw = s.ctl.pendingWithdraw ∧
    (s.applyCountReset d).ctl.yieldDue = s.ctl.yieldDue ∧
    (s.applyCountReset d).ctl.faultReport = s.ctl.faultReport ∧
    (s.applyCountReset d).ctl.silence = s.ctl.silence ∧
    (s.applyCountReset d).ctl.silenceFrom = s.ctl.silenceFrom ∧ (s.applyCountReset d).ctl.copy = s.ctl.copy ∧
    (s.applyCountReset d).ctl.lastComparison = s.ctl.lastComparison ∧ (s.applyCountReset d).load = s.load ∧
    (s.applyCountReset d).maint.groupCount = s.maint.groupCount ∧
    (s.applyCountReset d).maint.rescueStretch = s.maint.rescueStretch ∧
    (s.applyCountReset d).maint.peerStretch = s.maint.peerStretch ∧
    (s.applyCountReset d).maint.snapshot = s.maint.snapshot ∧
    (s.applyCountReset d).maint.lastCommand = s.maint.lastCommand ∧
    (s.applyCountReset d).maint.lastResult = s.maint.lastResult ∧
    (s.applyCountReset d).maint.nextRepetition = s.maint.nextRepetition ∧
    (s.applyCountReset d).maint.shift = s.maint.shift ∧
    (s.applyCountReset d).maint.latched = s.maint.latched ∧ (s.applyCountReset d).maint.port = s.maint.port ∧ (s.applyCountReset d).pending = s.pending := by
  unfold State.applyCountReset
  repeat' split
  all_goals simp

/-- The frame of `State.advanceTo`. -/
@[simp] theorem State.advanceTo_frame (n' : Int) (step : LeapStep) (s : State) :
    (s.advanceTo n' step).tick = s.tick ∧ (s.advanceTo n' step).clk = s.clk ∧
    (s.advanceTo n' step).timer.monitor = s.timer.monitor ∧ (s.advanceTo n' step).timer.f = s.timer.f ∧
    (s.advanceTo n' step).timer.a = s.timer.a ∧ (s.advanceTo n' step).timer.driveTaken = s.timer.driveTaken ∧
    (s.advanceTo n' step).timer.nextEpoch = s.timer.nextEpoch ∧ (s.advanceTo n' step).ref = s.ref ∧
    (s.advanceTo n' step).time.origin = s.time.origin ∧ (s.advanceTo n' step).time.pendingSet = s.time.pendingSet ∧
    (s.advanceTo n' step).time.pendingReset = s.time.pendingReset ∧ (s.advanceTo n' step).time.offset = s.time.offset ∧
    (s.advanceTo n' step).schedule = s.schedule ∧ (s.advanceTo n' step).frames = s.frames ∧ (s.advanceTo n' step).key = s.key ∧
    (s.advanceTo n' step).line = s.line ∧ (s.advanceTo n' step).ctl.standing = s.ctl.standing ∧
    (s.advanceTo n' step).ctl.test = s.ctl.test ∧ (s.advanceTo n' step).ctl.pendingWithdraw = s.ctl.pendingWithdraw ∧
    (s.advanceTo n' step).ctl.yieldDue = s.ctl.yieldDue ∧ (s.advanceTo n' step).ctl.faultReport = s.ctl.faultReport ∧
    (s.advanceTo n' step).ctl.silence = s.ctl.silence ∧ (s.advanceTo n' step).ctl.silenceFrom = s.ctl.silenceFrom ∧
    (s.advanceTo n' step).ctl.copy = s.ctl.copy ∧ (s.advanceTo n' step).ctl.floor = s.ctl.floor ∧
    (s.advanceTo n' step).ctl.lastComparison = s.ctl.lastComparison ∧ (s.advanceTo n' step).load = s.load ∧
    (s.advanceTo n' step).maint = s.maint ∧ (s.advanceTo n' step).pending = s.pending := by
  simp [State.advanceTo]

/-- The frame of `State.countAtEpoch`. -/
@[simp] theorem State.countAtEpoch_frame (coming : Option (Int × LeapStep)) (e : Int) (s : State) :
    (s.countAtEpoch coming e).tick = s.tick ∧ (s.countAtEpoch coming e).clk = s.clk ∧
    (s.countAtEpoch coming e).timer.monitor = s.timer.monitor ∧ (s.countAtEpoch coming e).timer.f = s.timer.f ∧
    (s.countAtEpoch coming e).timer.a = s.timer.a ∧ (s.countAtEpoch coming e).timer.driveTaken = s.timer.driveTaken ∧
    (s.countAtEpoch coming e).timer.nextEpoch = s.timer.nextEpoch ∧
    (s.countAtEpoch coming e).frames.rebuilds = s.frames.rebuilds ∧ (s.countAtEpoch coming e).key.drive = s.key.drive ∧
    (s.countAtEpoch coming e).key.ring = s.key.ring ∧ (s.countAtEpoch coming e).key.t0 = s.key.t0 ∧
    (s.countAtEpoch coming e).key.opens = s.key.opens ∧ (s.countAtEpoch coming e).key.edges = s.key.edges ∧
    (s.countAtEpoch coming e).key.lastVerdict = s.key.lastVerdict ∧ (s.countAtEpoch coming e).line.last = s.line.last ∧
    (s.countAtEpoch coming e).line.lastBreak = s.line.lastBreak ∧ (s.countAtEpoch coming e).line.notice = s.line.notice ∧
    (s.countAtEpoch coming e).ctl.pendingWithdraw = s.ctl.pendingWithdraw ∧
    (s.countAtEpoch coming e).ctl.yieldDue = s.ctl.yieldDue ∧ (s.countAtEpoch coming e).ctl.faultReport = s.ctl.faultReport ∧
    (s.countAtEpoch coming e).ctl.copy = s.ctl.copy ∧ (s.countAtEpoch coming e).ctl.floor = s.ctl.floor ∧
    (s.countAtEpoch coming e).ctl.lastComparison = s.ctl.lastComparison ∧ (s.countAtEpoch coming e).load = s.load ∧
    (s.countAtEpoch coming e).maint.groupCount = s.maint.groupCount ∧
    (s.countAtEpoch coming e).maint.rescueStretch = s.maint.rescueStretch ∧
    (s.countAtEpoch coming e).maint.peerStretch = s.maint.peerStretch ∧
    (s.countAtEpoch coming e).maint.snapshot = s.maint.snapshot ∧
    (s.countAtEpoch coming e).maint.lastCommand = s.maint.lastCommand ∧
    (s.countAtEpoch coming e).maint.lastResult = s.maint.lastResult ∧
    (s.countAtEpoch coming e).maint.nextRepetition = s.maint.nextRepetition ∧
    (s.countAtEpoch coming e).maint.shift = s.maint.shift ∧
    (s.countAtEpoch coming e).maint.latched = s.maint.latched ∧ (s.countAtEpoch coming e).maint.port = s.maint.port ∧ (s.countAtEpoch coming e).pending = s.pending := by
  unfold State.countAtEpoch
  repeat' split
  all_goals simp

/-- The frame of `State.takePendingReset`. -/
@[simp] theorem State.takePendingReset_frame (s : State) :
    (s.takePendingReset).1.tick = s.tick ∧ (s.takePendingReset).1.clk = s.clk ∧
    (s.takePendingReset).1.timer.monitor = s.timer.monitor ∧ (s.takePendingReset).1.timer.f = s.timer.f ∧
    (s.takePendingReset).1.timer.a = s.timer.a ∧ (s.takePendingReset).1.timer.driveTaken = s.timer.driveTaken ∧
    (s.takePendingReset).1.timer.nextEpoch = s.timer.nextEpoch ∧ (s.takePendingReset).1.ref = s.ref ∧
    (s.takePendingReset).1.time.origin = s.time.origin ∧ (s.takePendingReset).1.time.age = s.time.age ∧
    (s.takePendingReset).1.time.pendingSet = s.time.pendingSet ∧
    (s.takePendingReset).1.frames.rebuilds = s.frames.rebuilds ∧
    (s.takePendingReset).1.frames.current = s.frames.current ∧
    (s.takePendingReset).1.frames.latch = s.frames.latch ∧ (s.takePendingReset).1.key = s.key ∧
    (s.takePendingReset).1.line = s.line ∧ (s.takePendingReset).1.ctl.standing = s.ctl.standing ∧
    (s.takePendingReset).1.ctl.test = s.ctl.test ∧
    (s.takePendingReset).1.ctl.pendingWithdraw = s.ctl.pendingWithdraw ∧
    (s.takePendingReset).1.ctl.yieldDue = s.ctl.yieldDue ∧
    (s.takePendingReset).1.ctl.faultReport = s.ctl.faultReport ∧
    (s.takePendingReset).1.ctl.silence = s.ctl.silence ∧
    (s.takePendingReset).1.ctl.silenceFrom = s.ctl.silenceFrom ∧ (s.takePendingReset).1.ctl.copy = s.ctl.copy ∧
    (s.takePendingReset).1.ctl.floor = s.ctl.floor ∧
    (s.takePendingReset).1.ctl.lastComparison = s.ctl.lastComparison ∧ (s.takePendingReset).1.load = s.load ∧
    (s.takePendingReset).1.maint.groupCount = s.maint.groupCount ∧
    (s.takePendingReset).1.maint.rescueStretch = s.maint.rescueStretch ∧
    (s.takePendingReset).1.maint.peerStretch = s.maint.peerStretch ∧
    (s.takePendingReset).1.maint.snapshot = s.maint.snapshot ∧
    (s.takePendingReset).1.maint.lastCommand = s.maint.lastCommand ∧
    (s.takePendingReset).1.maint.lastResult = s.maint.lastResult ∧
    (s.takePendingReset).1.maint.nextRepetition = s.maint.nextRepetition ∧
    (s.takePendingReset).1.maint.shift = s.maint.shift ∧
    (s.takePendingReset).1.maint.latched = s.maint.latched ∧ (s.takePendingReset).1.maint.port = s.maint.port ∧ (s.takePendingReset).1.pending = s.pending := by
  unfold State.takePendingReset
  repeat' split
  all_goals simp

/-- The frame of `State.entriesAtEpoch`. -/
@[simp] theorem State.entriesAtEpoch_frame (s : State) :
    (s.entriesAtEpoch).tick = s.tick ∧ (s.entriesAtEpoch).clk = s.clk ∧ (s.entriesAtEpoch).timer = s.timer ∧
    (s.entriesAtEpoch).ref = s.ref ∧ (s.entriesAtEpoch).time.n = s.time.n ∧
    (s.entriesAtEpoch).time.origin = s.time.origin ∧ (s.entriesAtEpoch).time.age = s.time.age ∧
    (s.entriesAtEpoch).time.rangeEnding = s.time.rangeEnding ∧
    (s.entriesAtEpoch).time.pendingSet = s.time.pendingSet ∧
    (s.entriesAtEpoch).time.pendingReset = s.time.pendingReset ∧ (s.entriesAtEpoch).time.leap60 = s.time.leap60 ∧
    (s.entriesAtEpoch).frames.rebuilds = s.frames.rebuilds ∧
    (s.entriesAtEpoch).frames.current = s.frames.current ∧ (s.entriesAtEpoch).frames.latch = s.frames.latch ∧
    (s.entriesAtEpoch).key = s.key ∧ (s.entriesAtEpoch).line = s.line ∧ (s.entriesAtEpoch).ctl = s.ctl ∧
    (s.entriesAtEpoch).load = s.load ∧ (s.entriesAtEpoch).maint.groupCount = s.maint.groupCount ∧
    (s.entriesAtEpoch).maint.rescueStretch = s.maint.rescueStretch ∧
    (s.entriesAtEpoch).maint.peerStretch = s.maint.peerStretch ∧
    (s.entriesAtEpoch).maint.snapshot = s.maint.snapshot ∧
    (s.entriesAtEpoch).maint.lastCommand = s.maint.lastCommand ∧
    (s.entriesAtEpoch).maint.lastResult = s.maint.lastResult ∧
    (s.entriesAtEpoch).maint.nextRepetition = s.maint.nextRepetition ∧
    (s.entriesAtEpoch).maint.shift = s.maint.shift ∧
    (s.entriesAtEpoch).maint.latched = s.maint.latched ∧ (s.entriesAtEpoch).maint.port = s.maint.port ∧ (s.entriesAtEpoch).pending = s.pending := by
  unfold State.entriesAtEpoch
  repeat' split
  all_goals simp

/-- The frame of `State.handWhileUnset`. -/
@[simp] theorem State.handWhileUnset_frame (h : HandedCount) (s : State) :
    (s.handWhileUnset h).1.tick = s.tick ∧ (s.handWhileUnset h).1.clk = s.clk ∧
    (s.handWhileUnset h).1.timer.monitor = s.timer.monitor ∧ (s.handWhileUnset h).1.timer.f = s.timer.f ∧
    (s.handWhileUnset h).1.timer.a = s.timer.a ∧ (s.handWhileUnset h).1.timer.driveTaken = s.timer.driveTaken ∧
    (s.handWhileUnset h).1.timer.nextEpoch = s.timer.nextEpoch ∧ (s.handWhileUnset h).1.ref = s.ref ∧
    (s.handWhileUnset h).1.time.pendingReset = s.time.pendingReset ∧
    (s.handWhileUnset h).1.frames.rebuilds = s.frames.rebuilds ∧ (s.handWhileUnset h).1.key.drive = s.key.drive ∧
    (s.handWhileUnset h).1.key.ring = s.key.ring ∧ (s.handWhileUnset h).1.key.level = s.key.level ∧
    (s.handWhileUnset h).1.key.t0 = s.key.t0 ∧ (s.handWhileUnset h).1.key.opens = s.key.opens ∧
    (s.handWhileUnset h).1.key.edges = s.key.edges ∧ (s.handWhileUnset h).1.key.lastVerdict = s.key.lastVerdict ∧
    (s.handWhileUnset h).1.line.last = s.line.last ∧ (s.handWhileUnset h).1.line.lastBreak = s.line.lastBreak ∧
    (s.handWhileUnset h).1.line.notice = s.line.notice ∧ (s.handWhileUnset h).1.line.decoder = s.line.decoder ∧
    (s.handWhileUnset h).1.ctl.test = s.ctl.test ∧
    (s.handWhileUnset h).1.ctl.pendingWithdraw = s.ctl.pendingWithdraw ∧
    (s.handWhileUnset h).1.ctl.yieldDue = s.ctl.yieldDue ∧
    (s.handWhileUnset h).1.ctl.faultReport = s.ctl.faultReport ∧ (s.handWhileUnset h).1.ctl.copy = s.ctl.copy ∧
    (s.handWhileUnset h).1.ctl.floor = s.ctl.floor ∧
    (s.handWhileUnset h).1.ctl.lastComparison = s.ctl.lastComparison ∧ (s.handWhileUnset h).1.load = s.load ∧
    (s.handWhileUnset h).1.maint.groupCount = s.maint.groupCount ∧
    (s.handWhileUnset h).1.maint.rescueStretch = s.maint.rescueStretch ∧
    (s.handWhileUnset h).1.maint.peerStretch = s.maint.peerStretch ∧
    (s.handWhileUnset h).1.maint.snapshot = s.maint.snapshot ∧
    (s.handWhileUnset h).1.maint.lastCommand = s.maint.lastCommand ∧
    (s.handWhileUnset h).1.maint.lastResult = s.maint.lastResult ∧
    (s.handWhileUnset h).1.maint.nextRepetition = s.maint.nextRepetition ∧
    (s.handWhileUnset h).1.maint.shift = s.maint.shift ∧
    (s.handWhileUnset h).1.maint.latched = s.maint.latched ∧ (s.handWhileUnset h).1.maint.port = s.maint.port ∧ (s.handWhileUnset h).1.pending = s.pending := by
  unfold State.handWhileUnset
  repeat' split
  all_goals simp

/-- The frame of `State.setOrigin`. -/
@[simp] theorem State.setOrigin_frame (origin : Origin) (s : State) :
    (s.setOrigin origin).tick = s.tick ∧ (s.setOrigin origin).clk = s.clk ∧ (s.setOrigin origin).timer = s.timer ∧
    (s.setOrigin origin).ref = s.ref ∧ (s.setOrigin origin).time.n = s.time.n ∧
    (s.setOrigin origin).time.rangeEnding = s.time.rangeEnding ∧
    (s.setOrigin origin).time.pendingSet = s.time.pendingSet ∧
    (s.setOrigin origin).time.pendingReset = s.time.pendingReset ∧
    (s.setOrigin origin).time.leap60 = s.time.leap60 ∧ (s.setOrigin origin).time.offset = s.time.offset ∧
    (s.setOrigin origin).schedule = s.schedule ∧ (s.setOrigin origin).frames = s.frames ∧
    (s.setOrigin origin).key = s.key ∧ (s.setOrigin origin).line = s.line ∧ (s.setOrigin origin).ctl = s.ctl ∧
    (s.setOrigin origin).load = s.load ∧ (s.setOrigin origin).maint = s.maint ∧
    (s.setOrigin origin).pending = s.pending := by
  simp [State.setOrigin]

/-- The frame of `State.deliverLine`. -/
@[simp] theorem State.deliverLine_frame (e : Int) (s : State) :
    (s.deliverLine e).tick = s.tick ∧ (s.deliverLine e).clk = s.clk ∧
    (s.deliverLine e).timer.monitor = s.timer.monitor ∧ (s.deliverLine e).timer.f = s.timer.f ∧
    (s.deliverLine e).timer.a = s.timer.a ∧ (s.deliverLine e).timer.driveTaken = s.timer.driveTaken ∧
    (s.deliverLine e).timer.nextEpoch = s.timer.nextEpoch ∧ (s.deliverLine e).timer.past = s.timer.past ∧
    (s.deliverLine e).ref = s.ref ∧ (s.deliverLine e).time = s.time ∧ (s.deliverLine e).schedule = s.schedule ∧
    (s.deliverLine e).frames = s.frames ∧ (s.deliverLine e).key = s.key ∧ (s.deliverLine e).line = s.line ∧
    (s.deliverLine e).ctl = s.ctl ∧ (s.deliverLine e).load = s.load ∧ (s.deliverLine e).maint = s.maint ∧
    (s.deliverLine e).pending = s.pending := by
  simp [State.deliverLine]

/-- The frame of `State.holdRef`. -/
@[simp] theorem State.holdRef_frame (e : Int) (s : State) :
    (s.holdRef e).tick = s.tick ∧ (s.holdRef e).clk = s.clk ∧ (s.holdRef e).timer.monitor = s.timer.monitor ∧
    (s.holdRef e).timer.f = s.timer.f ∧ (s.holdRef e).timer.a = s.timer.a ∧
    (s.holdRef e).timer.driveTaken = s.timer.driveTaken ∧ (s.holdRef e).timer.nextEpoch = s.timer.nextEpoch ∧
    (s.holdRef e).timer.past = s.timer.past ∧ (s.holdRef e).ref = s.ref ∧ (s.holdRef e).time = s.time ∧
    (s.holdRef e).schedule = s.schedule ∧ (s.holdRef e).frames = s.frames ∧ (s.holdRef e).key = s.key ∧
    (s.holdRef e).line = s.line ∧ (s.holdRef e).ctl = s.ctl ∧ (s.holdRef e).load = s.load ∧
    (s.holdRef e).maint = s.maint ∧ (s.holdRef e).pending = s.pending := by
  simp [State.holdRef]

/-- The frame of `State.holdStep`. -/
@[simp] theorem State.holdStep_frame (e : Int) (s : State) :
    (s.holdStep e).tick = s.tick ∧ (s.holdStep e).clk = s.clk ∧ (s.holdStep e).timer.monitor = s.timer.monitor ∧
    (s.holdStep e).timer.f = s.timer.f ∧ (s.holdStep e).timer.a = s.timer.a ∧
    (s.holdStep e).timer.driveTaken = s.timer.driveTaken ∧ (s.holdStep e).timer.nextEpoch = s.timer.nextEpoch ∧
    (s.holdStep e).timer.past = s.timer.past ∧ (s.holdStep e).ref = s.ref ∧ (s.holdStep e).time = s.time ∧
    (s.holdStep e).schedule = s.schedule ∧ (s.holdStep e).frames = s.frames ∧ (s.holdStep e).key = s.key ∧
    (s.holdStep e).line = s.line ∧ (s.holdStep e).ctl = s.ctl ∧ (s.holdStep e).load = s.load ∧
    (s.holdStep e).maint = s.maint ∧ (s.holdStep e).pending = s.pending := by
  simp [State.holdStep]

end Sys2Proof.Machine
end

