-- ==== Sys2Proof/Laws/FrameReference.lean ====
section
/-!
SUPPORT. Frames of the Reference Input Unit: for each operation, one lemma that names every block of the state it leaves as it is, and in the
blocks it does change, the fields it leaves.
-/

namespace Sys2Proof.Machine

/-- The frame of `State.leftLocked`. -/
@[simp] theorem State.leftLocked_frame (before : TimeClass) (s : State) :
    (s.leftLocked before).tick = s.tick ∧ (s.leftLocked before).clk = s.clk ∧
    (s.leftLocked before).timer = s.timer ∧ (s.leftLocked before).ref = s.ref ∧
    (s.leftLocked before).time = s.time ∧ (s.leftLocked before).frames.rebuilds = s.frames.rebuilds ∧
    (s.leftLocked before).frames.current = s.frames.current ∧
    (s.leftLocked before).frames.latch = s.frames.latch ∧ (s.leftLocked before).key = s.key ∧
    (s.leftLocked before).line.last = s.line.last ∧ (s.leftLocked before).line.lastBreak = s.line.lastBreak ∧
    (s.leftLocked before).line.notice = s.line.notice ∧ (s.leftLocked before).line.decoder = s.line.decoder ∧
    (s.leftLocked before).ctl.test = s.ctl.test ∧
    (s.leftLocked before).ctl.pendingWithdraw = s.ctl.pendingWithdraw ∧
    (s.leftLocked before).ctl.yieldDue = s.ctl.yieldDue ∧
    (s.leftLocked before).ctl.faultReport = s.ctl.faultReport ∧ (s.leftLocked before).ctl.copy = s.ctl.copy ∧
    (s.leftLocked before).ctl.floor = s.ctl.floor ∧
    (s.leftLocked before).ctl.lastComparison = s.ctl.lastComparison ∧ (s.leftLocked before).load = s.load ∧
    (s.leftLocked before).maint.counters = s.maint.counters ∧
    (s.leftLocked before).maint.groupCount = s.maint.groupCount ∧
    (s.leftLocked before).maint.rescueStretch = s.maint.rescueStretch ∧
    (s.leftLocked before).maint.peerStretch = s.maint.peerStretch ∧
    (s.leftLocked before).maint.snapshot = s.maint.snapshot ∧
    (s.leftLocked before).maint.lastCommand = s.maint.lastCommand ∧
    (s.leftLocked before).maint.lastResult = s.maint.lastResult ∧
    (s.leftLocked before).maint.nextRepetition = s.maint.nextRepetition ∧
    (s.leftLocked before).maint.shift = s.maint.shift ∧
    (s.leftLocked before).maint.latched = s.maint.latched ∧ (s.leftLocked before).maint.port = s.maint.port ∧ (s.leftLocked before).pending = s.pending := by
  unfold State.leftLocked
  repeat' split
  all_goals simp

/-- The frame of `State.lockedToAcquire`. -/
@[simp] theorem State.lockedToAcquire_frame (s : State) :
    (s.lockedToAcquire).tick = s.tick ∧ (s.lockedToAcquire).clk = s.clk ∧ (s.lockedToAcquire).timer = s.timer ∧
    (s.lockedToAcquire).time = s.time ∧ (s.lockedToAcquire).frames.rebuilds = s.frames.rebuilds ∧
    (s.lockedToAcquire).frames.current = s.frames.current ∧ (s.lockedToAcquire).frames.latch = s.frames.latch ∧
    (s.lockedToAcquire).key = s.key ∧ (s.lockedToAcquire).line.last = s.line.last ∧
    (s.lockedToAcquire).line.lastBreak = s.line.lastBreak ∧ (s.lockedToAcquire).line.notice = s.line.notice ∧
    (s.lockedToAcquire).line.decoder = s.line.decoder ∧ (s.lockedToAcquire).ctl.test = s.ctl.test ∧
    (s.lockedToAcquire).ctl.pendingWithdraw = s.ctl.pendingWithdraw ∧
    (s.lockedToAcquire).ctl.yieldDue = s.ctl.yieldDue ∧ (s.lockedToAcquire).ctl.faultReport = s.ctl.faultReport ∧
    (s.lockedToAcquire).ctl.copy = s.ctl.copy ∧ (s.lockedToAcquire).ctl.floor = s.ctl.floor ∧
    (s.lockedToAcquire).ctl.lastComparison = s.ctl.lastComparison ∧ (s.lockedToAcquire).load = s.load ∧
    (s.lockedToAcquire).maint.counters = s.maint.counters ∧
    (s.lockedToAcquire).maint.groupCount = s.maint.groupCount ∧
    (s.lockedToAcquire).maint.rescueStretch = s.maint.rescueStretch ∧
    (s.lockedToAcquire).maint.peerStretch = s.maint.peerStretch ∧
    (s.lockedToAcquire).maint.snapshot = s.maint.snapshot ∧
    (s.lockedToAcquire).maint.lastCommand = s.maint.lastCommand ∧
    (s.lockedToAcquire).maint.lastResult = s.maint.lastResult ∧
    (s.lockedToAcquire).maint.nextRepetition = s.maint.nextRepetition ∧
    (s.lockedToAcquire).maint.shift = s.maint.shift ∧
    (s.lockedToAcquire).maint.latched = s.maint.latched ∧ (s.lockedToAcquire).maint.port = s.maint.port ∧ (s.lockedToAcquire).pending = s.pending := by
  simp [State.lockedToAcquire]

/-- The frame of `State.lockedToHoldover`. -/
@[simp] theorem State.lockedToHoldover_frame (s : State) :
    (s.lockedToHoldover).tick = s.tick ∧ (s.lockedToHoldover).clk = s.clk ∧ (s.lockedToHoldover).timer = s.timer ∧
    (s.lockedToHoldover).time = s.time ∧ (s.lockedToHoldover).frames.rebuilds = s.frames.rebuilds ∧
    (s.lockedToHoldover).frames.current = s.frames.current ∧ (s.lockedToHoldover).frames.latch = s.frames.latch ∧
    (s.lockedToHoldover).key = s.key ∧ (s.lockedToHoldover).line.last = s.line.last ∧
    (s.lockedToHoldover).line.lastBreak = s.line.lastBreak ∧ (s.lockedToHoldover).line.notice = s.line.notice ∧
    (s.lockedToHoldover).line.decoder = s.line.decoder ∧ (s.lockedToHoldover).ctl.test = s.ctl.test ∧
    (s.lockedToHoldover).ctl.pendingWithdraw = s.ctl.pendingWithdraw ∧
    (s.lockedToHoldover).ctl.yieldDue = s.ctl.yieldDue ∧
    (s.lockedToHoldover).ctl.faultReport = s.ctl.faultReport ∧ (s.lockedToHoldover).ctl.copy = s.ctl.copy ∧
    (s.lockedToHoldover).ctl.floor = s.ctl.floor ∧
    (s.lockedToHoldover).ctl.lastComparison = s.ctl.lastComparison ∧ (s.lockedToHoldover).load = s.load ∧
    (s.lockedToHoldover).maint.counters = s.maint.counters ∧
    (s.lockedToHoldover).maint.groupCount = s.maint.groupCount ∧
    (s.lockedToHoldover).maint.rescueStretch = s.maint.rescueStretch ∧
    (s.lockedToHoldover).maint.peerStretch = s.maint.peerStretch ∧
    (s.lockedToHoldover).maint.snapshot = s.maint.snapshot ∧
    (s.lockedToHoldover).maint.lastCommand = s.maint.lastCommand ∧
    (s.lockedToHoldover).maint.lastResult = s.maint.lastResult ∧
    (s.lockedToHoldover).maint.nextRepetition = s.maint.nextRepetition ∧
    (s.lockedToHoldover).maint.shift = s.maint.shift ∧
    (s.lockedToHoldover).maint.latched = s.maint.latched ∧ (s.lockedToHoldover).maint.port = s.maint.port ∧ (s.lockedToHoldover).pending = s.pending := by
  simp [State.lockedToHoldover]

/-- The frame of `State.leapOffer`. -/
@[simp] theorem State.leapOffer_frame (r : RefRecord) (s : State) :
    (s.leapOffer r).tick = s.tick ∧ (s.leapOffer r).clk = s.clk ∧ (s.leapOffer r).timer = s.timer ∧
    (s.leapOffer r).ref = s.ref ∧ (s.leapOffer r).time = s.time ∧
    (s.leapOffer r).frames.rebuilds = s.frames.rebuilds ∧ (s.leapOffer r).frames.current = s.frames.current ∧
    (s.leapOffer r).frames.latch = s.frames.latch ∧ (s.leapOffer r).key = s.key ∧ (s.leapOffer r).line = s.line ∧
    (s.leapOffer r).ctl = s.ctl ∧ (s.leapOffer r).load = s.load ∧
    (s.leapOffer r).maint.groupCount = s.maint.groupCount ∧
    (s.leapOffer r).maint.rescueStretch = s.maint.rescueStretch ∧
    (s.leapOffer r).maint.peerStretch = s.maint.peerStretch ∧ (s.leapOffer r).maint.snapshot = s.maint.snapshot ∧
    (s.leapOffer r).maint.lastCommand = s.maint.lastCommand ∧
    (s.leapOffer r).maint.lastResult = s.maint.lastResult ∧
    (s.leapOffer r).maint.nextRepetition = s.maint.nextRepetition ∧ (s.leapOffer r).maint.shift = s.maint.shift ∧
    (s.leapOffer r).maint.latched = s.maint.latched ∧ (s.leapOffer r).maint.port = s.maint.port ∧
    (s.leapOffer r).pending = s.pending := by
  unfold State.leapOffer; dsimp only
  repeat' split
  all_goals simp

/-- The frame of `State.countNone`. -/
@[simp] theorem State.countNone_frame (r : RefRecord) (s : State) :
    (s.countNone r).tick = s.tick ∧ (s.countNone r).clk = s.clk ∧ (s.countNone r).timer = s.timer ∧
    (s.countNone r).ref.state = s.ref.state ∧ (s.countNone r).time = s.time ∧
    (s.countNone r).frames.rebuilds = s.frames.rebuilds ∧ (s.countNone r).frames.current = s.frames.current ∧
    (s.countNone r).frames.latch = s.frames.latch ∧ (s.countNone r).key = s.key ∧ (s.countNone r).line = s.line ∧
    (s.countNone r).ctl = s.ctl ∧ (s.countNone r).load = s.load ∧ (s.countNone r).maint = s.maint ∧
    (s.countNone r).pending = s.pending := by
  unfold State.countNone
  repeat' split
  all_goals simp

/-- The frame of `State.beginStreak`. -/
@[simp] theorem State.beginStreak_frame (r : RefRecord) (pe : PulseEpoch) (s : State) :
    (s.beginStreak r pe).tick = s.tick ∧ (s.beginStreak r pe).clk = s.clk ∧ (s.beginStreak r pe).timer = s.timer ∧
    (s.beginStreak r pe).time = s.time ∧ (s.beginStreak r pe).schedule = s.schedule ∧
    (s.beginStreak r pe).frames = s.frames ∧ (s.beginStreak r pe).key = s.key ∧ (s.beginStreak r pe).line = s.line ∧
    (s.beginStreak r pe).ctl = s.ctl ∧ (s.beginStreak r pe).load = s.load ∧ (s.beginStreak r pe).maint = s.maint ∧
    (s.beginStreak r pe).pending = s.pending := by
  simp [State.beginStreak]

/-- The frame of `State.breakStreak`. -/
@[simp] theorem State.breakStreak_frame (s : State) :
    (s.breakStreak).tick = s.tick ∧ (s.breakStreak).clk = s.clk ∧ (s.breakStreak).timer = s.timer ∧
    (s.breakStreak).ref.state = s.ref.state ∧ (s.breakStreak).time = s.time ∧
    (s.breakStreak).schedule = s.schedule ∧ (s.breakStreak).frames = s.frames ∧ (s.breakStreak).key = s.key ∧
    (s.breakStreak).line = s.line ∧ (s.breakStreak).ctl = s.ctl ∧ (s.breakStreak).load = s.load ∧
    (s.breakStreak).maint = s.maint ∧ (s.breakStreak).pending = s.pending := by
  simp [State.breakStreak]

/-- The frame of `State.completeAcquire`. -/
@[simp] theorem State.completeAcquire_frame (n : Int) (pe : PulseEpoch) (e : Int) (s : State) :
    (s.completeAcquire n pe e).tick = s.tick ∧ (s.completeAcquire n pe e).clk = s.clk ∧
    (s.completeAcquire n pe e).timer.monitor = s.timer.monitor ∧ (s.completeAcquire n pe e).timer.f = s.timer.f ∧
    (s.completeAcquire n pe e).timer.a = s.timer.a ∧
    (s.completeAcquire n pe e).timer.driveTaken = s.timer.driveTaken ∧
    (s.completeAcquire n pe e).timer.nextEpoch = s.timer.nextEpoch ∧
    (s.completeAcquire n pe e).frames.rebuilds = s.frames.rebuilds ∧
    (s.completeAcquire n pe e).key.drive = s.key.drive ∧ (s.completeAcquire n pe e).key.ring = s.key.ring ∧
    (s.completeAcquire n pe e).key.t0 = s.key.t0 ∧ (s.completeAcquire n pe e).key.opens = s.key.opens ∧
    (s.completeAcquire n pe e).key.edges = s.key.edges ∧
    (s.completeAcquire n pe e).key.lastVerdict = s.key.lastVerdict ∧
    (s.completeAcquire n pe e).line.last = s.line.last ∧
    (s.completeAcquire n pe e).line.lastBreak = s.line.lastBreak ∧
    (s.completeAcquire n pe e).line.notice = s.line.notice ∧
    (s.completeAcquire n pe e).ctl.pendingWithdraw = s.ctl.pendingWithdraw ∧
    (s.completeAcquire n pe e).ctl.yieldDue = s.ctl.yieldDue ∧
    (s.completeAcquire n pe e).ctl.faultReport = s.ctl.faultReport ∧
    (s.completeAcquire n pe e).ctl.copy = s.ctl.copy ∧
    (s.completeAcquire n pe e).ctl.lastComparison = s.ctl.lastComparison ∧
    (s.completeAcquire n pe e).load = s.load ∧ (s.completeAcquire n pe e).maint.groupCount = s.maint.groupCount ∧
    (s.completeAcquire n pe e).maint.rescueStretch = s.maint.rescueStretch ∧
    (s.completeAcquire n pe e).maint.peerStretch = s.maint.peerStretch ∧
    (s.completeAcquire n pe e).maint.snapshot = s.maint.snapshot ∧
    (s.completeAcquire n pe e).maint.lastCommand = s.maint.lastCommand ∧
    (s.completeAcquire n pe e).maint.lastResult = s.maint.lastResult ∧
    (s.completeAcquire n pe e).maint.nextRepetition = s.maint.nextRepetition ∧
    (s.completeAcquire n pe e).maint.shift = s.maint.shift ∧
    (s.completeAcquire n pe e).maint.latched = s.maint.latched ∧ (s.completeAcquire n pe e).maint.port = s.maint.port ∧ (s.completeAcquire n pe e).pending = s.pending := by
  unfold State.completeAcquire; dsimp only
  repeat' split
  all_goals simp

/-- The frame of `State.acquirePulse`. -/
@[simp] theorem State.acquirePulse_frame (r : RefRecord) (pe : PulseEpoch) (s : State) :
    (s.acquirePulse r pe).tick = s.tick ∧ (s.acquirePulse r pe).clk = s.clk ∧
    (s.acquirePulse r pe).timer.monitor = s.timer.monitor ∧ (s.acquirePulse r pe).timer.f = s.timer.f ∧
    (s.acquirePulse r pe).timer.a = s.timer.a ∧ (s.acquirePulse r pe).timer.driveTaken = s.timer.driveTaken ∧
    (s.acquirePulse r pe).timer.nextEpoch = s.timer.nextEpoch ∧
    (s.acquirePulse r pe).frames.rebuilds = s.frames.rebuilds ∧ (s.acquirePulse r pe).key.drive = s.key.drive ∧
    (s.acquirePulse r pe).key.ring = s.key.ring ∧ (s.acquirePulse r pe).key.t0 = s.key.t0 ∧
    (s.acquirePulse r pe).key.opens = s.key.opens ∧ (s.acquirePulse r pe).key.edges = s.key.edges ∧
    (s.acquirePulse r pe).key.lastVerdict = s.key.lastVerdict ∧ (s.acquirePulse r pe).line.last = s.line.last ∧
    (s.acquirePulse r pe).line.lastBreak = s.line.lastBreak ∧ (s.acquirePulse r pe).line.notice = s.line.notice ∧
    (s.acquirePulse r pe).ctl.pendingWithdraw = s.ctl.pendingWithdraw ∧
    (s.acquirePulse r pe).ctl.yieldDue = s.ctl.yieldDue ∧
    (s.acquirePulse r pe).ctl.faultReport = s.ctl.faultReport ∧ (s.acquirePulse r pe).ctl.copy = s.ctl.copy ∧
    (s.acquirePulse r pe).ctl.lastComparison = s.ctl.lastComparison ∧ (s.acquirePulse r pe).load = s.load ∧
    (s.acquirePulse r pe).maint.groupCount = s.maint.groupCount ∧
    (s.acquirePulse r pe).maint.rescueStretch = s.maint.rescueStretch ∧
    (s.acquirePulse r pe).maint.peerStretch = s.maint.peerStretch ∧
    (s.acquirePulse r pe).maint.snapshot = s.maint.snapshot ∧
    (s.acquirePulse r pe).maint.lastCommand = s.maint.lastCommand ∧
    (s.acquirePulse r pe).maint.lastResult = s.maint.lastResult ∧
    (s.acquirePulse r pe).maint.nextRepetition = s.maint.nextRepetition ∧
    (s.acquirePulse r pe).maint.shift = s.maint.shift ∧
    (s.acquirePulse r pe).maint.latched = s.maint.latched ∧ (s.acquirePulse r pe).maint.port = s.maint.port ∧ (s.acquirePulse r pe).pending = s.pending := by
  unfold State.acquirePulse
  repeat' split
  all_goals simp

/-- The frame of `State.outlierPulse`. -/
@[simp] theorem State.outlierPulse_frame (s : State) :
    (s.outlierPulse).tick = s.tick ∧ (s.outlierPulse).clk = s.clk ∧ (s.outlierPulse).timer = s.timer ∧
    (s.outlierPulse).time = s.time ∧ (s.outlierPulse).frames.rebuilds = s.frames.rebuilds ∧
    (s.outlierPulse).frames.current = s.frames.current ∧ (s.outlierPulse).frames.latch = s.frames.latch ∧
    (s.outlierPulse).key = s.key ∧ (s.outlierPulse).line.last = s.line.last ∧
    (s.outlierPulse).line.lastBreak = s.line.lastBreak ∧ (s.outlierPulse).line.notice = s.line.notice ∧
    (s.outlierPulse).line.decoder = s.line.decoder ∧ (s.outlierPulse).ctl.test = s.ctl.test ∧
    (s.outlierPulse).ctl.pendingWithdraw = s.ctl.pendingWithdraw ∧
    (s.outlierPulse).ctl.yieldDue = s.ctl.yieldDue ∧ (s.outlierPulse).ctl.faultReport = s.ctl.faultReport ∧
    (s.outlierPulse).ctl.copy = s.ctl.copy ∧ (s.outlierPulse).ctl.floor = s.ctl.floor ∧
    (s.outlierPulse).ctl.lastComparison = s.ctl.lastComparison ∧ (s.outlierPulse).load = s.load ∧
    (s.outlierPulse).maint.groupCount = s.maint.groupCount ∧
    (s.outlierPulse).maint.rescueStretch = s.maint.rescueStretch ∧
    (s.outlierPulse).maint.peerStretch = s.maint.peerStretch ∧
    (s.outlierPulse).maint.snapshot = s.maint.snapshot ∧
    (s.outlierPulse).maint.lastCommand = s.maint.lastCommand ∧
    (s.outlierPulse).maint.lastResult = s.maint.lastResult ∧
    (s.outlierPulse).maint.nextRepetition = s.maint.nextRepetition ∧
    (s.outlierPulse).maint.shift = s.maint.shift ∧
    (s.outlierPulse).maint.latched = s.maint.latched ∧ (s.outlierPulse).maint.port = s.maint.port ∧ (s.outlierPulse).pending = s.pending := by
  unfold State.outlierPulse; dsimp only
  repeat' split
  all_goals simp

/-- The frame of `State.samplePulse`. -/
@[simp] theorem State.samplePulse_frame (e : Int) (s : State) :
    (s.samplePulse e).tick = s.tick ∧ (s.samplePulse e).clk = s.clk ∧
    (s.samplePulse e).timer.monitor = s.timer.monitor ∧ (s.samplePulse e).timer.f = s.timer.f ∧
    (s.samplePulse e).timer.a = s.timer.a ∧ (s.samplePulse e).timer.driveTaken = s.timer.driveTaken ∧
    (s.samplePulse e).timer.nextEpoch = s.timer.nextEpoch ∧ (s.samplePulse e).timer.past = s.timer.past ∧
    (s.samplePulse e).ref.state = s.ref.state ∧ (s.samplePulse e).time = s.time ∧
    (s.samplePulse e).schedule = s.schedule ∧ (s.samplePulse e).frames = s.frames ∧
    (s.samplePulse e).key = s.key ∧ (s.samplePulse e).line = s.line ∧ (s.samplePulse e).ctl = s.ctl ∧
    (s.samplePulse e).load = s.load ∧ (s.samplePulse e).maint = s.maint ∧ (s.samplePulse e).pending = s.pending := by
  simp [State.samplePulse]

/-- The frame of `State.conflictPulse`. -/
@[simp] theorem State.conflictPulse_frame (s : State) :
    (s.conflictPulse).tick = s.tick ∧ (s.conflictPulse).clk = s.clk ∧ (s.conflictPulse).timer = s.timer ∧
    (s.conflictPulse).time = s.time ∧ (s.conflictPulse).frames.rebuilds = s.frames.rebuilds ∧
    (s.conflictPulse).frames.current = s.frames.current ∧ (s.conflictPulse).frames.latch = s.frames.latch ∧
    (s.conflictPulse).key = s.key ∧ (s.conflictPulse).line.last = s.line.last ∧
    (s.conflictPulse).line.lastBreak = s.line.lastBreak ∧ (s.conflictPulse).line.notice = s.line.notice ∧
    (s.conflictPulse).line.decoder = s.line.decoder ∧ (s.conflictPulse).ctl.test = s.ctl.test ∧
    (s.conflictPulse).ctl.pendingWithdraw = s.ctl.pendingWithdraw ∧
    (s.conflictPulse).ctl.yieldDue = s.ctl.yieldDue ∧ (s.conflictPulse).ctl.faultReport = s.ctl.faultReport ∧
    (s.conflictPulse).ctl.copy = s.ctl.copy ∧ (s.conflictPulse).ctl.floor = s.ctl.floor ∧
    (s.conflictPulse).ctl.lastComparison = s.ctl.lastComparison ∧ (s.conflictPulse).load = s.load ∧
    (s.conflictPulse).maint.groupCount = s.maint.groupCount ∧
    (s.conflictPulse).maint.rescueStretch = s.maint.rescueStretch ∧
    (s.conflictPulse).maint.peerStretch = s.maint.peerStretch ∧
    (s.conflictPulse).maint.snapshot = s.maint.snapshot ∧
    (s.conflictPulse).maint.lastCommand = s.maint.lastCommand ∧
    (s.conflictPulse).maint.lastResult = s.maint.lastResult ∧
    (s.conflictPulse).maint.nextRepetition = s.maint.nextRepetition ∧
    (s.conflictPulse).maint.shift = s.maint.shift ∧
    (s.conflictPulse).maint.latched = s.maint.latched ∧ (s.conflictPulse).maint.port = s.maint.port ∧ (s.conflictPulse).pending = s.pending := by
  unfold State.conflictPulse; dsimp only
  repeat' split
  all_goals simp

/-- The frame of `State.lockedGood`. -/
@[simp] theorem State.lockedGood_frame (r : RefRecord) (pe : PulseEpoch) (s : State) :
    (s.lockedGood r pe).tick = s.tick ∧ (s.lockedGood r pe).clk = s.clk ∧
    (s.lockedGood r pe).timer.monitor = s.timer.monitor ∧ (s.lockedGood r pe).timer.f = s.timer.f ∧
    (s.lockedGood r pe).timer.a = s.timer.a ∧ (s.lockedGood r pe).timer.driveTaken = s.timer.driveTaken ∧
    (s.lockedGood r pe).timer.nextEpoch = s.timer.nextEpoch ∧ (s.lockedGood r pe).timer.past = s.timer.past ∧
    (s.lockedGood r pe).time.n = s.time.n ∧ (s.lockedGood r pe).time.origin = s.time.origin ∧
    (s.lockedGood r pe).time.rangeEnding = s.time.rangeEnding ∧
    (s.lockedGood r pe).time.pendingSet = s.time.pendingSet ∧
    (s.lockedGood r pe).time.pendingReset = s.time.pendingReset ∧
    (s.lockedGood r pe).time.leap60 = s.time.leap60 ∧ (s.lockedGood r pe).time.offset = s.time.offset ∧
    (s.lockedGood r pe).frames.rebuilds = s.frames.rebuilds ∧
    (s.lockedGood r pe).frames.current = s.frames.current ∧ (s.lockedGood r pe).frames.latch = s.frames.latch ∧
    (s.lockedGood r pe).key = s.key ∧ (s.lockedGood r pe).line.last = s.line.last ∧
    (s.lockedGood r pe).line.lastBreak = s.line.lastBreak ∧ (s.lockedGood r pe).line.notice = s.line.notice ∧
    (s.lockedGood r pe).line.decoder = s.line.decoder ∧ (s.lockedGood r pe).ctl.test = s.ctl.test ∧
    (s.lockedGood r pe).ctl.pendingWithdraw = s.ctl.pendingWithdraw ∧
    (s.lockedGood r pe).ctl.yieldDue = s.ctl.yieldDue ∧ (s.lockedGood r pe).ctl.faultReport = s.ctl.faultReport ∧
    (s.lockedGood r pe).ctl.copy = s.ctl.copy ∧ (s.lockedGood r pe).ctl.floor = s.ctl.floor ∧
    (s.lockedGood r pe).ctl.lastComparison = s.ctl.lastComparison ∧ (s.lockedGood r pe).load = s.load ∧
    (s.lockedGood r pe).maint.groupCount = s.maint.groupCount ∧
    (s.lockedGood r pe).maint.rescueStretch = s.maint.rescueStretch ∧
    (s.lockedGood r pe).maint.peerStretch = s.maint.peerStretch ∧
    (s.lockedGood r pe).maint.snapshot = s.maint.snapshot ∧
    (s.lockedGood r pe).maint.lastCommand = s.maint.lastCommand ∧
    (s.lockedGood r pe).maint.lastResult = s.maint.lastResult ∧
    (s.lockedGood r pe).maint.nextRepetition = s.maint.nextRepetition ∧
    (s.lockedGood r pe).maint.shift = s.maint.shift ∧
    (s.lockedGood r pe).maint.latched = s.maint.latched ∧ (s.lockedGood r pe).maint.port = s.maint.port ∧ (s.lockedGood r pe).pending = s.pending := by
  unfold State.lockedGood; dsimp only
  repeat' split
  all_goals simp

/-- The frame of `State.lockedUnlabelled`. -/
@[simp] theorem State.lockedUnlabelled_frame (pe : PulseEpoch) (s : State) :
    (s.lockedUnlabelled pe).tick = s.tick ∧ (s.lockedUnlabelled pe).clk = s.clk ∧
    (s.lockedUnlabelled pe).timer.monitor = s.timer.monitor ∧ (s.lockedUnlabelled pe).timer.f = s.timer.f ∧
    (s.lockedUnlabelled pe).timer.a = s.timer.a ∧ (s.lockedUnlabelled pe).timer.driveTaken = s.timer.driveTaken ∧
    (s.lockedUnlabelled pe).timer.nextEpoch = s.timer.nextEpoch ∧
    (s.lockedUnlabelled pe).timer.past = s.timer.past ∧ (s.lockedUnlabelled pe).time = s.time ∧
    (s.lockedUnlabelled pe).frames.rebuilds = s.frames.rebuilds ∧
    (s.lockedUnlabelled pe).frames.current = s.frames.current ∧
    (s.lockedUnlabelled pe).frames.latch = s.frames.latch ∧ (s.lockedUnlabelled pe).key = s.key ∧
    (s.lockedUnlabelled pe).line.last = s.line.last ∧ (s.lockedUnlabelled pe).line.lastBreak = s.line.lastBreak ∧
    (s.lockedUnlabelled pe).line.notice = s.line.notice ∧ (s.lockedUnlabelled pe).line.decoder = s.line.decoder ∧
    (s.lockedUnlabelled pe).ctl.test = s.ctl.test ∧
    (s.lockedUnlabelled pe).ctl.pendingWithdraw = s.ctl.pendingWithdraw ∧
    (s.lockedUnlabelled pe).ctl.yieldDue = s.ctl.yieldDue ∧
    (s.lockedUnlabelled pe).ctl.faultReport = s.ctl.faultReport ∧ (s.lockedUnlabelled pe).ctl.copy = s.ctl.copy ∧
    (s.lockedUnlabelled pe).ctl.floor = s.ctl.floor ∧
    (s.lockedUnlabelled pe).ctl.lastComparison = s.ctl.lastComparison ∧ (s.lockedUnlabelled pe).load = s.load ∧
    (s.lockedUnlabelled pe).maint.groupCount = s.maint.groupCount ∧
    (s.lockedUnlabelled pe).maint.rescueStretch = s.maint.rescueStretch ∧
    (s.lockedUnlabelled pe).maint.peerStretch = s.maint.peerStretch ∧
    (s.lockedUnlabelled pe).maint.snapshot = s.maint.snapshot ∧
    (s.lockedUnlabelled pe).maint.lastCommand = s.maint.lastCommand ∧
    (s.lockedUnlabelled pe).maint.lastResult = s.maint.lastResult ∧
    (s.lockedUnlabelled pe).maint.nextRepetition = s.maint.nextRepetition ∧
    (s.lockedUnlabelled pe).maint.shift = s.maint.shift ∧
    (s.lockedUnlabelled pe).maint.latched = s.maint.latched ∧ (s.lockedUnlabelled pe).maint.port = s.maint.port ∧ (s.lockedUnlabelled pe).pending = s.pending := by
  unfold State.lockedUnlabelled; dsimp only
  repeat' split
  all_goals simp

/-- The frame of `State.lockedLow`. -/
@[simp] theorem State.lockedLow_frame (s : State) :
    (s.lockedLow).tick = s.tick ∧ (s.lockedLow).clk = s.clk ∧ (s.lockedLow).timer = s.timer ∧
    (s.lockedLow).ref.state = s.ref.state ∧ (s.lockedLow).time = s.time ∧ (s.lockedLow).schedule = s.schedule ∧
    (s.lockedLow).frames = s.frames ∧ (s.lockedLow).key = s.key ∧ (s.lockedLow).line = s.line ∧
    (s.lockedLow).ctl = s.ctl ∧ (s.lockedLow).load = s.load ∧ (s.lockedLow).maint = s.maint ∧
    (s.lockedLow).pending = s.pending := by
  simp [State.lockedLow]

/-- The frame of `State.acceptPulse`. -/
@[simp] theorem State.acceptPulse_frame (label : PulseLabel) (t : Int) (s : State) :
    (s.acceptPulse label t).tick = s.tick ∧ (s.acceptPulse label t).clk = s.clk ∧
    (s.acceptPulse label t).timer = s.timer ∧ (s.acceptPulse label t).ref.state = s.ref.state ∧
    (s.acceptPulse label t).time = s.time ∧ (s.acceptPulse label t).schedule = s.schedule ∧
    (s.acceptPulse label t).frames = s.frames ∧ (s.acceptPulse label t).key = s.key ∧
    (s.acceptPulse label t).line = s.line ∧ (s.acceptPulse label t).ctl = s.ctl ∧
    (s.acceptPulse label t).load = s.load ∧ (s.acceptPulse label t).maint.alarms = s.maint.alarms ∧
    (s.acceptPulse label t).maint.raisings = s.maint.raisings ∧
    (s.acceptPulse label t).maint.alertFrom = s.maint.alertFrom ∧
    (s.acceptPulse label t).maint.alertN = s.maint.alertN ∧
    (s.acceptPulse label t).maint.groupCount = s.maint.groupCount ∧
    (s.acceptPulse label t).maint.rescueStretch = s.maint.rescueStretch ∧
    (s.acceptPulse label t).maint.peerStretch = s.maint.peerStretch ∧
    (s.acceptPulse label t).maint.snapshot = s.maint.snapshot ∧
    (s.acceptPulse label t).maint.lastCommand = s.maint.lastCommand ∧
    (s.acceptPulse label t).maint.lastResult = s.maint.lastResult ∧
    (s.acceptPulse label t).maint.nextRepetition = s.maint.nextRepetition ∧
    (s.acceptPulse label t).maint.shift = s.maint.shift ∧
    (s.acceptPulse label t).maint.latched = s.maint.latched ∧ (s.acceptPulse label t).maint.port = s.maint.port ∧ (s.acceptPulse label t).pending = s.pending := by
  unfold State.acceptPulse
  repeat' split
  all_goals simp

/-- The frame of `State.handlePulse`. -/
@[simp] theorem State.handlePulse_frame (label : PulseLabel) (pe : PulseEpoch) (s : State) :
    (s.handlePulse label pe).tick = s.tick ∧ (s.handlePulse label pe).clk = s.clk ∧
    (s.handlePulse label pe).timer.monitor = s.timer.monitor ∧ (s.handlePulse label pe).timer.f = s.timer.f ∧
    (s.handlePulse label pe).timer.a = s.timer.a ∧
    (s.handlePulse label pe).timer.driveTaken = s.timer.driveTaken ∧
    (s.handlePulse label pe).timer.nextEpoch = s.timer.nextEpoch ∧
    (s.handlePulse label pe).frames.rebuilds = s.frames.rebuilds ∧
    (s.handlePulse label pe).key.drive = s.key.drive ∧ (s.handlePulse label pe).key.ring = s.key.ring ∧
    (s.handlePulse label pe).key.t0 = s.key.t0 ∧ (s.handlePulse label pe).key.opens = s.key.opens ∧
    (s.handlePulse label pe).key.edges = s.key.edges ∧
    (s.handlePulse label pe).key.lastVerdict = s.key.lastVerdict ∧
    (s.handlePulse label pe).line.last = s.line.last ∧
    (s.handlePulse label pe).line.lastBreak = s.line.lastBreak ∧
    (s.handlePulse label pe).line.notice = s.line.notice ∧
    (s.handlePulse label pe).ctl.pendingWithdraw = s.ctl.pendingWithdraw ∧
    (s.handlePulse label pe).ctl.yieldDue = s.ctl.yieldDue ∧
    (s.handlePulse label pe).ctl.faultReport = s.ctl.faultReport ∧
    (s.handlePulse label pe).ctl.copy = s.ctl.copy ∧
    (s.handlePulse label pe).ctl.lastComparison = s.ctl.lastComparison ∧ (s.handlePulse label pe).load = s.load ∧
    (s.handlePulse label pe).maint.groupCount = s.maint.groupCount ∧
    (s.handlePulse label pe).maint.rescueStretch = s.maint.rescueStretch ∧
    (s.handlePulse label pe).maint.peerStretch = s.maint.peerStretch ∧
    (s.handlePulse label pe).maint.snapshot = s.maint.snapshot ∧
    (s.handlePulse label pe).maint.lastCommand = s.maint.lastCommand ∧
    (s.handlePulse label pe).maint.lastResult = s.maint.lastResult ∧
    (s.handlePulse label pe).maint.nextRepetition = s.maint.nextRepetition ∧
    (s.handlePulse label pe).maint.shift = s.maint.shift ∧
    (s.handlePulse label pe).maint.latched = s.maint.latched ∧ (s.handlePulse label pe).maint.port = s.maint.port ∧ (s.handlePulse label pe).pending = s.pending := by
  unfold State.handlePulse
  repeat' split
  all_goals simp

/-- The frame of `State.secInEffect`. -/
@[simp] theorem State.secInEffect_frame (s : State) :
    (s.secInEffect).tick = s.tick ∧ (s.secInEffect).clk = s.clk ∧
    (s.secInEffect).timer.monitor = s.timer.monitor ∧ (s.secInEffect).timer.f = s.timer.f ∧
    (s.secInEffect).timer.a = s.timer.a ∧ (s.secInEffect).timer.driveTaken = s.timer.driveTaken ∧
    (s.secInEffect).timer.nextEpoch = s.timer.nextEpoch ∧ (s.secInEffect).frames.rebuilds = s.frames.rebuilds ∧
    (s.secInEffect).key.drive = s.key.drive ∧ (s.secInEffect).key.ring = s.key.ring ∧
    (s.secInEffect).key.t0 = s.key.t0 ∧ (s.secInEffect).key.opens = s.key.opens ∧
    (s.secInEffect).key.edges = s.key.edges ∧ (s.secInEffect).key.lastVerdict = s.key.lastVerdict ∧
    (s.secInEffect).line.last = s.line.last ∧ (s.secInEffect).line.lastBreak = s.line.lastBreak ∧
    (s.secInEffect).line.notice = s.line.notice ∧ (s.secInEffect).ctl.pendingWithdraw = s.ctl.pendingWithdraw ∧
    (s.secInEffect).ctl.yieldDue = s.ctl.yieldDue ∧ (s.secInEffect).ctl.faultReport = s.ctl.faultReport ∧
    (s.secInEffect).ctl.copy = s.ctl.copy ∧ (s.secInEffect).ctl.lastComparison = s.ctl.lastComparison ∧
    (s.secInEffect).load = s.load ∧ (s.secInEffect).maint.groupCount = s.maint.groupCount ∧
    (s.secInEffect).maint.rescueStretch = s.maint.rescueStretch ∧
    (s.secInEffect).maint.peerStretch = s.maint.peerStretch ∧ (s.secInEffect).maint.snapshot = s.maint.snapshot ∧
    (s.secInEffect).maint.lastCommand = s.maint.lastCommand ∧
    (s.secInEffect).maint.lastResult = s.maint.lastResult ∧
    (s.secInEffect).maint.nextRepetition = s.maint.nextRepetition ∧ (s.secInEffect).maint.shift = s.maint.shift ∧
    (s.secInEffect).maint.latched = s.maint.latched ∧ (s.secInEffect).maint.port = s.maint.port ∧
    (s.secInEffect).pending = s.pending := by
  unfold State.secInEffect; dsimp only
  repeat' split
  all_goals simp

/-- The frame of `State.windowEffect`. -/
@[simp] theorem State.windowEffect_frame (s : State) :
    (s.windowEffect).tick = s.tick ∧ (s.windowEffect).clk = s.clk ∧
    (s.windowEffect).timer.monitor = s.timer.monitor ∧ (s.windowEffect).timer.f = s.timer.f ∧
    (s.windowEffect).timer.a = s.timer.a ∧ (s.windowEffect).timer.driveTaken = s.timer.driveTaken ∧
    (s.windowEffect).timer.nextEpoch = s.timer.nextEpoch ∧ (s.windowEffect).time = s.time ∧
    (s.windowEffect).frames.rebuilds = s.frames.rebuilds ∧ (s.windowEffect).frames.current = s.frames.current ∧
    (s.windowEffect).frames.latch = s.frames.latch ∧ (s.windowEffect).key = s.key ∧
    (s.windowEffect).line.last = s.line.last ∧ (s.windowEffect).line.lastBreak = s.line.lastBreak ∧
    (s.windowEffect).line.notice = s.line.notice ∧ (s.windowEffect).line.decoder = s.line.decoder ∧
    (s.windowEffect).ctl.test = s.ctl.test ∧ (s.windowEffect).ctl.pendingWithdraw = s.ctl.pendingWithdraw ∧
    (s.windowEffect).ctl.yieldDue = s.ctl.yieldDue ∧ (s.windowEffect).ctl.faultReport = s.ctl.faultReport ∧
    (s.windowEffect).ctl.copy = s.ctl.copy ∧ (s.windowEffect).ctl.floor = s.ctl.floor ∧
    (s.windowEffect).ctl.lastComparison = s.ctl.lastComparison ∧ (s.windowEffect).load = s.load ∧
    (s.windowEffect).maint.counters = s.maint.counters ∧ (s.windowEffect).maint.groupCount = s.maint.groupCount ∧
    (s.windowEffect).maint.rescueStretch = s.maint.rescueStretch ∧
    (s.windowEffect).maint.peerStretch = s.maint.peerStretch ∧
    (s.windowEffect).maint.snapshot = s.maint.snapshot ∧
    (s.windowEffect).maint.lastCommand = s.maint.lastCommand ∧
    (s.windowEffect).maint.lastResult = s.maint.lastResult ∧
    (s.windowEffect).maint.nextRepetition = s.maint.nextRepetition ∧
    (s.windowEffect).maint.shift = s.maint.shift ∧
    (s.windowEffect).maint.latched = s.maint.latched ∧ (s.windowEffect).maint.port = s.maint.port ∧ (s.windowEffect).pending = s.pending := by
  unfold State.windowEffect; dsimp only
  repeat' split
  all_goals simp

/-- The frame of `State.acquireTimeoutEffect`. -/
@[simp] theorem State.acquireTimeoutEffect_frame (s : State) :
    (s.acquireTimeoutEffect).tick = s.tick ∧ (s.acquireTimeoutEffect).clk = s.clk ∧
    (s.acquireTimeoutEffect).timer = s.timer ∧ (s.acquireTimeoutEffect).time = s.time ∧
    (s.acquireTimeoutEffect).schedule = s.schedule ∧ (s.acquireTimeoutEffect).frames = s.frames ∧
    (s.acquireTimeoutEffect).key = s.key ∧ (s.acquireTimeoutEffect).line = s.line ∧
    (s.acquireTimeoutEffect).ctl = s.ctl ∧ (s.acquireTimeoutEffect).load = s.load ∧
    (s.acquireTimeoutEffect).maint = s.maint ∧ (s.acquireTimeoutEffect).pending = s.pending := by
  simp [State.acquireTimeoutEffect]

/-- The frame of `State.dropWaiting`. -/
@[simp] theorem State.dropWaiting_frame (s : State) :
    (s.dropWaiting).tick = s.tick ∧ (s.dropWaiting).clk = s.clk ∧ (s.dropWaiting).timer = s.timer ∧
    (s.dropWaiting).ref.state = s.ref.state ∧ (s.dropWaiting).time = s.time ∧
    (s.dropWaiting).schedule = s.schedule ∧ (s.dropWaiting).frames = s.frames ∧ (s.dropWaiting).key = s.key ∧
    (s.dropWaiting).line = s.line ∧ (s.dropWaiting).ctl = s.ctl ∧ (s.dropWaiting).load = s.load ∧
    (s.dropWaiting).maint.alarms = s.maint.alarms ∧ (s.dropWaiting).maint.raisings = s.maint.raisings ∧
    (s.dropWaiting).maint.alertFrom = s.maint.alertFrom ∧ (s.dropWaiting).maint.alertN = s.maint.alertN ∧
    (s.dropWaiting).maint.groupCount = s.maint.groupCount ∧
    (s.dropWaiting).maint.rescueStretch = s.maint.rescueStretch ∧
    (s.dropWaiting).maint.peerStretch = s.maint.peerStretch ∧ (s.dropWaiting).maint.snapshot = s.maint.snapshot ∧
    (s.dropWaiting).maint.lastCommand = s.maint.lastCommand ∧
    (s.dropWaiting).maint.lastResult = s.maint.lastResult ∧
    (s.dropWaiting).maint.nextRepetition = s.maint.nextRepetition ∧ (s.dropWaiting).maint.shift = s.maint.shift ∧
    (s.dropWaiting).maint.latched = s.maint.latched ∧ (s.dropWaiting).maint.port = s.maint.port ∧
    (s.dropWaiting).pending = s.pending := by
  simp [State.dropWaiting]

/-- The frame of `State.compareSeq`. -/
@[simp] theorem State.compareSeq_frame (seq : Nat) (s : State) :
    (s.compareSeq seq).tick = s.tick ∧ (s.compareSeq seq).clk = s.clk ∧ (s.compareSeq seq).timer = s.timer ∧
    (s.compareSeq seq).ref.state = s.ref.state ∧ (s.compareSeq seq).time = s.time ∧
    (s.compareSeq seq).schedule = s.schedule ∧ (s.compareSeq seq).frames = s.frames ∧
    (s.compareSeq seq).key = s.key ∧ (s.compareSeq seq).line = s.line ∧ (s.compareSeq seq).ctl = s.ctl ∧
    (s.compareSeq seq).load = s.load ∧ (s.compareSeq seq).maint.alarms = s.maint.alarms ∧
    (s.compareSeq seq).maint.raisings = s.maint.raisings ∧
    (s.compareSeq seq).maint.alertFrom = s.maint.alertFrom ∧ (s.compareSeq seq).maint.alertN = s.maint.alertN ∧
    (s.compareSeq seq).maint.groupCount = s.maint.groupCount ∧
    (s.compareSeq seq).maint.rescueStretch = s.maint.rescueStretch ∧
    (s.compareSeq seq).maint.peerStretch = s.maint.peerStretch ∧
    (s.compareSeq seq).maint.snapshot = s.maint.snapshot ∧
    (s.compareSeq seq).maint.lastCommand = s.maint.lastCommand ∧
    (s.compareSeq seq).maint.lastResult = s.maint.lastResult ∧
    (s.compareSeq seq).maint.nextRepetition = s.maint.nextRepetition ∧
    (s.compareSeq seq).maint.shift = s.maint.shift ∧
    (s.compareSeq seq).maint.latched = s.maint.latched ∧ (s.compareSeq seq).maint.port = s.maint.port ∧ (s.compareSeq seq).pending = s.pending := by
  unfold State.compareSeq
  repeat' split
  all_goals simp

/-- The frame of `State.acceptRecord`. -/
@[simp] theorem State.acceptRecord_frame (r : RefRecord) (s : State) :
    (s.acceptRecord r).tick = s.tick ∧ (s.acceptRecord r).clk = s.clk ∧ (s.acceptRecord r).timer = s.timer ∧
    (s.acceptRecord r).ref.state = s.ref.state ∧ (s.acceptRecord r).time = s.time ∧
    (s.acceptRecord r).schedule = s.schedule ∧ (s.acceptRecord r).frames = s.frames ∧
    (s.acceptRecord r).key = s.key ∧ (s.acceptRecord r).line = s.line ∧ (s.acceptRecord r).ctl = s.ctl ∧
    (s.acceptRecord r).load = s.load ∧ (s.acceptRecord r).maint.alarms = s.maint.alarms ∧
    (s.acceptRecord r).maint.raisings = s.maint.raisings ∧
    (s.acceptRecord r).maint.alertFrom = s.maint.alertFrom ∧ (s.acceptRecord r).maint.alertN = s.maint.alertN ∧
    (s.acceptRecord r).maint.groupCount = s.maint.groupCount ∧
    (s.acceptRecord r).maint.rescueStretch = s.maint.rescueStretch ∧
    (s.acceptRecord r).maint.peerStretch = s.maint.peerStretch ∧
    (s.acceptRecord r).maint.snapshot = s.maint.snapshot ∧
    (s.acceptRecord r).maint.lastCommand = s.maint.lastCommand ∧
    (s.acceptRecord r).maint.lastResult = s.maint.lastResult ∧
    (s.acceptRecord r).maint.nextRepetition = s.maint.nextRepetition ∧
    (s.acceptRecord r).maint.shift = s.maint.shift ∧
    (s.acceptRecord r).maint.latched = s.maint.latched ∧ (s.acceptRecord r).maint.port = s.maint.port ∧ (s.acceptRecord r).pending = s.pending := by
  unfold State.acceptRecord; dsimp only
  repeat' split
  all_goals simp

/-- The frame of `State.recordEffect`. -/
@[simp] theorem State.recordEffect_frame (bytes : List Byte) (s : State) :
    (s.recordEffect bytes).tick = s.tick ∧ (s.recordEffect bytes).clk = s.clk ∧
    (s.recordEffect bytes).timer = s.timer ∧ (s.recordEffect bytes).ref.state = s.ref.state ∧
    (s.recordEffect bytes).time = s.time ∧ (s.recordEffect bytes).schedule = s.schedule ∧
    (s.recordEffect bytes).frames = s.frames ∧ (s.recordEffect bytes).key = s.key ∧
    (s.recordEffect bytes).line = s.line ∧ (s.recordEffect bytes).ctl = s.ctl ∧
    (s.recordEffect bytes).load = s.load ∧ (s.recordEffect bytes).maint.alarms = s.maint.alarms ∧
    (s.recordEffect bytes).maint.raisings = s.maint.raisings ∧
    (s.recordEffect bytes).maint.alertFrom = s.maint.alertFrom ∧
    (s.recordEffect bytes).maint.alertN = s.maint.alertN ∧
    (s.recordEffect bytes).maint.groupCount = s.maint.groupCount ∧
    (s.recordEffect bytes).maint.rescueStretch = s.maint.rescueStretch ∧
    (s.recordEffect bytes).maint.peerStretch = s.maint.peerStretch ∧
    (s.recordEffect bytes).maint.snapshot = s.maint.snapshot ∧
    (s.recordEffect bytes).maint.lastCommand = s.maint.lastCommand ∧
    (s.recordEffect bytes).maint.lastResult = s.maint.lastResult ∧
    (s.recordEffect bytes).maint.nextRepetition = s.maint.nextRepetition ∧
    (s.recordEffect bytes).maint.shift = s.maint.shift ∧
    (s.recordEffect bytes).maint.latched = s.maint.latched ∧ (s.recordEffect bytes).maint.port = s.maint.port ∧ (s.recordEffect bytes).pending = s.pending := by
  unfold State.recordEffect; dsimp only
  repeat' split
  all_goals simp

/-- The frame of `State.abandonRecord`. -/
@[simp] theorem State.abandonRecord_frame (s : State) :
    (s.abandonRecord).tick = s.tick ∧ (s.abandonRecord).clk = s.clk ∧ (s.abandonRecord).timer = s.timer ∧
    (s.abandonRecord).ref.state = s.ref.state ∧ (s.abandonRecord).time = s.time ∧
    (s.abandonRecord).schedule = s.schedule ∧ (s.abandonRecord).frames = s.frames ∧
    (s.abandonRecord).key = s.key ∧ (s.abandonRecord).line = s.line ∧ (s.abandonRecord).ctl = s.ctl ∧
    (s.abandonRecord).load = s.load ∧ (s.abandonRecord).maint.alarms = s.maint.alarms ∧
    (s.abandonRecord).maint.raisings = s.maint.raisings ∧ (s.abandonRecord).maint.alertFrom = s.maint.alertFrom ∧
    (s.abandonRecord).maint.alertN = s.maint.alertN ∧ (s.abandonRecord).maint.groupCount = s.maint.groupCount ∧
    (s.abandonRecord).maint.rescueStretch = s.maint.rescueStretch ∧
    (s.abandonRecord).maint.peerStretch = s.maint.peerStretch ∧
    (s.abandonRecord).maint.snapshot = s.maint.snapshot ∧
    (s.abandonRecord).maint.lastCommand = s.maint.lastCommand ∧
    (s.abandonRecord).maint.lastResult = s.maint.lastResult ∧
    (s.abandonRecord).maint.nextRepetition = s.maint.nextRepetition ∧
    (s.abandonRecord).maint.shift = s.maint.shift ∧
    (s.abandonRecord).maint.latched = s.maint.latched ∧ (s.abandonRecord).maint.port = s.maint.port ∧ (s.abandonRecord).pending = s.pending := by
  simp [State.abandonRecord]

end Sys2Proof.Machine
end

