-- ==== Sys2Proof/Laws/FrameLineReader.lean ====
section
/-!
SUPPORT. Frames of the Line Reader: for each operation, one lemma that names every block of the state it leaves as it is, and in the
blocks it does change, the fields it leaves.
-/

namespace Sys2Proof.Machine

/-- The frame of `State.setJoin`. -/
@[simp] theorem State.setJoin_frame (join : Bool) (s : State) :
    (s.setJoin join).tick = s.tick ∧ (s.setJoin join).clk = s.clk ∧ (s.setJoin join).timer = s.timer ∧
    (s.setJoin join).ref = s.ref ∧ (s.setJoin join).time = s.time ∧ (s.setJoin join).schedule = s.schedule ∧
    (s.setJoin join).frames = s.frames ∧ (s.setJoin join).key = s.key ∧ (s.setJoin join).line = s.line ∧
    (s.setJoin join).ctl.standing = s.ctl.standing ∧ (s.setJoin join).ctl.test = s.ctl.test ∧
    (s.setJoin join).ctl.pendingWithdraw = s.ctl.pendingWithdraw ∧
    (s.setJoin join).ctl.yieldDue = s.ctl.yieldDue ∧ (s.setJoin join).ctl.faultReport = s.ctl.faultReport ∧
    (s.setJoin join).ctl.silence = s.ctl.silence ∧ (s.setJoin join).ctl.silenceFrom = s.ctl.silenceFrom ∧
    (s.setJoin join).ctl.copy = s.ctl.copy ∧ (s.setJoin join).ctl.floor = s.ctl.floor ∧
    (s.setJoin join).ctl.lastComparison = s.ctl.lastComparison ∧ (s.setJoin join).load = s.load ∧
    (s.setJoin join).maint = s.maint ∧ (s.setJoin join).pending = s.pending := by
  simp [State.setJoin]

/-- The frame of `State.deferByConflict`. -/
@[simp] theorem State.deferByConflict_frame (s : State) :
    (s.deferByConflict).tick = s.tick ∧ (s.deferByConflict).clk = s.clk ∧ (s.deferByConflict).timer = s.timer ∧
    (s.deferByConflict).ref = s.ref ∧ (s.deferByConflict).time = s.time ∧
    (s.deferByConflict).schedule = s.schedule ∧ (s.deferByConflict).frames = s.frames ∧
    (s.deferByConflict).key = s.key ∧ (s.deferByConflict).line.last = s.line.last ∧
    (s.deferByConflict).line.lastBreak = s.line.lastBreak ∧ (s.deferByConflict).line.notice = s.line.notice ∧
    (s.deferByConflict).line.decoder = s.line.decoder ∧ (s.deferByConflict).ctl.test = s.ctl.test ∧
    (s.deferByConflict).ctl.pendingWithdraw = s.ctl.pendingWithdraw ∧
    (s.deferByConflict).ctl.yieldDue = s.ctl.yieldDue ∧ (s.deferByConflict).ctl.faultReport = s.ctl.faultReport ∧
    (s.deferByConflict).ctl.copy = s.ctl.copy ∧ (s.deferByConflict).ctl.floor = s.ctl.floor ∧
    (s.deferByConflict).ctl.lastComparison = s.ctl.lastComparison ∧ (s.deferByConflict).load = s.load ∧
    (s.deferByConflict).maint.counters = s.maint.counters ∧
    (s.deferByConflict).maint.groupCount = s.maint.groupCount ∧
    (s.deferByConflict).maint.rescueStretch = s.maint.rescueStretch ∧
    (s.deferByConflict).maint.peerStretch = s.maint.peerStretch ∧
    (s.deferByConflict).maint.snapshot = s.maint.snapshot ∧
    (s.deferByConflict).maint.lastCommand = s.maint.lastCommand ∧
    (s.deferByConflict).maint.lastResult = s.maint.lastResult ∧
    (s.deferByConflict).maint.nextRepetition = s.maint.nextRepetition ∧
    (s.deferByConflict).maint.shift = s.maint.shift ∧
    (s.deferByConflict).maint.latched = s.maint.latched ∧ (s.deferByConflict).maint.port = s.maint.port ∧ (s.deferByConflict).pending = s.pending := by
  simp [State.deferByConflict]

/-- The frame of `State.frameToCompare`. -/
@[simp] theorem State.frameToCompare_frame (n0 : Int) (s : State) :
    (s.frameToCompare n0).1.tick = s.tick ∧ (s.frameToCompare n0).1.clk = s.clk ∧
    (s.frameToCompare n0).1.timer = s.timer ∧ (s.frameToCompare n0).1.ref = s.ref ∧
    (s.frameToCompare n0).1.time = s.time ∧ (s.frameToCompare n0).1.schedule = s.schedule ∧
    (s.frameToCompare n0).1.frames.current = s.frames.current ∧ (s.frameToCompare n0).1.key = s.key ∧
    (s.frameToCompare n0).1.line = s.line ∧ (s.frameToCompare n0).1.ctl = s.ctl ∧
    (s.frameToCompare n0).1.load = s.load ∧ (s.frameToCompare n0).1.maint = s.maint ∧
    (s.frameToCompare n0).1.pending = s.pending := by
  unfold State.frameToCompare
  repeat' split
  all_goals simp

/-- The frame of `State.compareLine`. -/
@[simp] theorem State.compareLine_frame (f : LineFrame) (s : State) :
    (s.compareLine f).1.tick = s.tick ∧ (s.compareLine f).1.clk = s.clk ∧ (s.compareLine f).1.timer = s.timer ∧
    (s.compareLine f).1.ref = s.ref ∧ (s.compareLine f).1.time = s.time ∧
    (s.compareLine f).1.schedule = s.schedule ∧ (s.compareLine f).1.frames.current = s.frames.current ∧
    (s.compareLine f).1.key = s.key ∧ (s.compareLine f).1.line = s.line ∧
    (s.compareLine f).1.ctl.standing = s.ctl.standing ∧ (s.compareLine f).1.ctl.test = s.ctl.test ∧
    (s.compareLine f).1.ctl.pendingWithdraw = s.ctl.pendingWithdraw ∧
    (s.compareLine f).1.ctl.yieldDue = s.ctl.yieldDue ∧ (s.compareLine f).1.ctl.faultReport = s.ctl.faultReport ∧
    (s.compareLine f).1.ctl.pendingJoin = s.ctl.pendingJoin ∧ (s.compareLine f).1.ctl.silence = s.ctl.silence ∧
    (s.compareLine f).1.ctl.silenceFrom = s.ctl.silenceFrom ∧ (s.compareLine f).1.ctl.copy = s.ctl.copy ∧
    (s.compareLine f).1.ctl.floor = s.ctl.floor ∧ (s.compareLine f).1.load = s.load ∧
    (s.compareLine f).1.maint = s.maint ∧ (s.compareLine f).1.pending = s.pending := by
  unfold State.compareLine; dsimp only
  repeat' split
  all_goals simp

/-- The frame of `State.actOnComparison`. -/
@[simp] theorem State.actOnComparison_frame (f : LineFrame) (result : Comparison) (s : State) :
    (s.actOnComparison f result).tick = s.tick ∧ (s.actOnComparison f result).clk = s.clk ∧
    (s.actOnComparison f result).timer = s.timer ∧ (s.actOnComparison f result).ref = s.ref ∧
    (s.actOnComparison f result).time = s.time ∧ (s.actOnComparison f result).schedule = s.schedule ∧
    (s.actOnComparison f result).frames = s.frames ∧ (s.actOnComparison f result).key = s.key ∧
    (s.actOnComparison f result).line.last = s.line.last ∧
    (s.actOnComparison f result).line.lastBreak = s.line.lastBreak ∧
    (s.actOnComparison f result).line.notice = s.line.notice ∧
    (s.actOnComparison f result).line.decoder = s.line.decoder ∧
    (s.actOnComparison f result).ctl.test = s.ctl.test ∧
    (s.actOnComparison f result).ctl.pendingWithdraw = s.ctl.pendingWithdraw ∧
    (s.actOnComparison f result).ctl.yieldDue = s.ctl.yieldDue ∧
    (s.actOnComparison f result).ctl.faultReport = s.ctl.faultReport ∧
    (s.actOnComparison f result).ctl.copy = s.ctl.copy ∧ (s.actOnComparison f result).ctl.floor = s.ctl.floor ∧
    (s.actOnComparison f result).ctl.lastComparison = s.ctl.lastComparison ∧
    (s.actOnComparison f result).load = s.load ∧ (s.actOnComparison f result).maint.counters = s.maint.counters ∧
    (s.actOnComparison f result).maint.groupCount = s.maint.groupCount ∧
    (s.actOnComparison f result).maint.rescueStretch = s.maint.rescueStretch ∧
    (s.actOnComparison f result).maint.peerStretch = s.maint.peerStretch ∧
    (s.actOnComparison f result).maint.snapshot = s.maint.snapshot ∧
    (s.actOnComparison f result).maint.lastCommand = s.maint.lastCommand ∧
    (s.actOnComparison f result).maint.lastResult = s.maint.lastResult ∧
    (s.actOnComparison f result).maint.nextRepetition = s.maint.nextRepetition ∧
    (s.actOnComparison f result).maint.shift = s.maint.shift ∧
    (s.actOnComparison f result).maint.latched = s.maint.latched ∧ (s.actOnComparison f result).maint.port = s.maint.port ∧ (s.actOnComparison f result).pending = s.pending := by
  unfold State.actOnComparison
  repeat' split
  all_goals simp

/-- The frame of `State.handFrame`. -/
@[simp] theorem State.handFrame_frame (f : LineFrame) (s : State) :
    (s.handFrame f).tick = s.tick ∧ (s.handFrame f).clk = s.clk ∧ (s.handFrame f).timer = s.timer ∧
    (s.handFrame f).ref = s.ref ∧ (s.handFrame f).time = s.time ∧ (s.handFrame f).schedule = s.schedule ∧
    (s.handFrame f).frames.current = s.frames.current ∧ (s.handFrame f).key = s.key ∧
    (s.handFrame f).line.last = s.line.last ∧ (s.handFrame f).line.lastBreak = s.line.lastBreak ∧
    (s.handFrame f).line.notice = s.line.notice ∧ (s.handFrame f).line.decoder = s.line.decoder ∧
    (s.handFrame f).ctl.test = s.ctl.test ∧ (s.handFrame f).ctl.pendingWithdraw = s.ctl.pendingWithdraw ∧
    (s.handFrame f).ctl.yieldDue = s.ctl.yieldDue ∧ (s.handFrame f).ctl.faultReport = s.ctl.faultReport ∧
    (s.handFrame f).ctl.copy = s.ctl.copy ∧ (s.handFrame f).ctl.floor = s.ctl.floor ∧
    (s.handFrame f).load = s.load ∧ (s.handFrame f).maint.counters = s.maint.counters ∧
    (s.handFrame f).maint.groupCount = s.maint.groupCount ∧
    (s.handFrame f).maint.rescueStretch = s.maint.rescueStretch ∧
    (s.handFrame f).maint.peerStretch = s.maint.peerStretch ∧ (s.handFrame f).maint.snapshot = s.maint.snapshot ∧
    (s.handFrame f).maint.lastCommand = s.maint.lastCommand ∧
    (s.handFrame f).maint.lastResult = s.maint.lastResult ∧
    (s.handFrame f).maint.nextRepetition = s.maint.nextRepetition ∧ (s.handFrame f).maint.shift = s.maint.shift ∧
    (s.handFrame f).maint.latched = s.maint.latched ∧ (s.handFrame f).maint.port = s.maint.port ∧
    (s.handFrame f).pending = s.pending := by
  unfold State.handFrame; dsimp only
  repeat' split
  all_goals simp

/-- The frame of `State.takeAdoption`. -/
@[simp] theorem State.takeAdoption_frame (f : LineFrame) (p : PastSecond) (since : Nat) (s : State) :
    (s.takeAdoption f p since).1.tick = s.tick ∧ (s.takeAdoption f p since).1.clk = s.clk ∧
    (s.takeAdoption f p since).1.timer.monitor = s.timer.monitor ∧
    (s.takeAdoption f p since).1.timer.f = s.timer.f ∧ (s.takeAdoption f p since).1.timer.a = s.timer.a ∧
    (s.takeAdoption f p since).1.timer.driveTaken = s.timer.driveTaken ∧
    (s.takeAdoption f p since).1.timer.nextEpoch = s.timer.nextEpoch ∧ (s.takeAdoption f p since).1.ref = s.ref ∧
    (s.takeAdoption f p since).1.frames.rebuilds = s.frames.rebuilds ∧
    (s.takeAdoption f p since).1.key.drive = s.key.drive ∧ (s.takeAdoption f p since).1.key.ring = s.key.ring ∧
    (s.takeAdoption f p since).1.key.t0 = s.key.t0 ∧ (s.takeAdoption f p since).1.key.opens = s.key.opens ∧
    (s.takeAdoption f p since).1.key.edges = s.key.edges ∧
    (s.takeAdoption f p since).1.key.lastVerdict = s.key.lastVerdict ∧
    (s.takeAdoption f p since).1.line.last = s.line.last ∧
    (s.takeAdoption f p since).1.line.lastBreak = s.line.lastBreak ∧
    (s.takeAdoption f p since).1.line.notice = s.line.notice ∧
    (s.takeAdoption f p since).1.ctl.pendingWithdraw = s.ctl.pendingWithdraw ∧
    (s.takeAdoption f p since).1.ctl.yieldDue = s.ctl.yieldDue ∧
    (s.takeAdoption f p since).1.ctl.faultReport = s.ctl.faultReport ∧
    (s.takeAdoption f p since).1.ctl.copy = s.ctl.copy ∧
    (s.takeAdoption f p since).1.ctl.lastComparison = s.ctl.lastComparison ∧
    (s.takeAdoption f p since).1.load = s.load ∧
    (s.takeAdoption f p since).1.maint.groupCount = s.maint.groupCount ∧
    (s.takeAdoption f p since).1.maint.rescueStretch = s.maint.rescueStretch ∧
    (s.takeAdoption f p since).1.maint.peerStretch = s.maint.peerStretch ∧
    (s.takeAdoption f p since).1.maint.snapshot = s.maint.snapshot ∧
    (s.takeAdoption f p since).1.maint.lastCommand = s.maint.lastCommand ∧
    (s.takeAdoption f p since).1.maint.lastResult = s.maint.lastResult ∧
    (s.takeAdoption f p since).1.maint.nextRepetition = s.maint.nextRepetition ∧
    (s.takeAdoption f p since).1.maint.shift = s.maint.shift ∧
    (s.takeAdoption f p since).1.maint.latched = s.maint.latched ∧ (s.takeAdoption f p since).1.maint.port = s.maint.port ∧ (s.takeAdoption f p since).1.pending = s.pending := by
  unfold State.takeAdoption
  repeat' split
  all_goals simp

/-- The frame of `State.adoptFrame`. -/
@[simp] theorem State.adoptFrame_frame (f : LineFrame) (s : State) :
    (s.adoptFrame f).tick = s.tick ∧ (s.adoptFrame f).clk = s.clk ∧
    (s.adoptFrame f).timer.monitor = s.timer.monitor ∧ (s.adoptFrame f).timer.f = s.timer.f ∧
    (s.adoptFrame f).timer.a = s.timer.a ∧ (s.adoptFrame f).timer.driveTaken = s.timer.driveTaken ∧
    (s.adoptFrame f).timer.nextEpoch = s.timer.nextEpoch ∧ (s.adoptFrame f).ref = s.ref ∧
    (s.adoptFrame f).frames.rebuilds = s.frames.rebuilds ∧ (s.adoptFrame f).key.drive = s.key.drive ∧
    (s.adoptFrame f).key.ring = s.key.ring ∧ (s.adoptFrame f).key.t0 = s.key.t0 ∧
    (s.adoptFrame f).key.opens = s.key.opens ∧ (s.adoptFrame f).key.edges = s.key.edges ∧
    (s.adoptFrame f).key.lastVerdict = s.key.lastVerdict ∧ (s.adoptFrame f).line.last = s.line.last ∧
    (s.adoptFrame f).line.lastBreak = s.line.lastBreak ∧ (s.adoptFrame f).line.notice = s.line.notice ∧
    (s.adoptFrame f).ctl.pendingWithdraw = s.ctl.pendingWithdraw ∧
    (s.adoptFrame f).ctl.yieldDue = s.ctl.yieldDue ∧ (s.adoptFrame f).ctl.faultReport = s.ctl.faultReport ∧
    (s.adoptFrame f).ctl.copy = s.ctl.copy ∧ (s.adoptFrame f).ctl.lastComparison = s.ctl.lastComparison ∧
    (s.adoptFrame f).load = s.load ∧ (s.adoptFrame f).maint.groupCount = s.maint.groupCount ∧
    (s.adoptFrame f).maint.rescueStretch = s.maint.rescueStretch ∧
    (s.adoptFrame f).maint.peerStretch = s.maint.peerStretch ∧
    (s.adoptFrame f).maint.snapshot = s.maint.snapshot ∧
    (s.adoptFrame f).maint.lastCommand = s.maint.lastCommand ∧
    (s.adoptFrame f).maint.lastResult = s.maint.lastResult ∧
    (s.adoptFrame f).maint.nextRepetition = s.maint.nextRepetition ∧
    (s.adoptFrame f).maint.shift = s.maint.shift ∧
    (s.adoptFrame f).maint.latched = s.maint.latched ∧ (s.adoptFrame f).maint.port = s.maint.port ∧ (s.adoptFrame f).pending = s.pending := by
  unfold State.adoptFrame; dsimp only
  repeat' split
  all_goals simp

/-- The frame of `State.emptyNotice`. -/
@[simp] theorem State.emptyNotice_frame (s : State) :
    (s.emptyNotice).tick = s.tick ∧ (s.emptyNotice).clk = s.clk ∧ (s.emptyNotice).timer = s.timer ∧
    (s.emptyNotice).ref = s.ref ∧ (s.emptyNotice).time = s.time ∧ (s.emptyNotice).schedule = s.schedule ∧
    (s.emptyNotice).frames = s.frames ∧ (s.emptyNotice).key = s.key ∧ (s.emptyNotice).line.last = s.line.last ∧
    (s.emptyNotice).line.candidate = s.line.candidate ∧ (s.emptyNotice).line.lastBreak = s.line.lastBreak ∧
    (s.emptyNotice).line.decoder = s.line.decoder ∧ (s.emptyNotice).ctl = s.ctl ∧ (s.emptyNotice).load = s.load ∧
    (s.emptyNotice).maint = s.maint ∧ (s.emptyNotice).pending = s.pending := by
  simp [State.emptyNotice]

/-- The frame of `State.noticeFrame`. -/
@[simp] theorem State.noticeFrame_frame (f : LineFrame) (s : State) :
    (s.noticeFrame f).tick = s.tick ∧ (s.noticeFrame f).clk = s.clk ∧ (s.noticeFrame f).timer = s.timer ∧
    (s.noticeFrame f).ref = s.ref ∧ (s.noticeFrame f).time = s.time ∧
    (s.noticeFrame f).frames.rebuilds = s.frames.rebuilds ∧ (s.noticeFrame f).frames.current = s.frames.current ∧
    (s.noticeFrame f).frames.latch = s.frames.latch ∧ (s.noticeFrame f).key = s.key ∧
    (s.noticeFrame f).line.last = s.line.last ∧ (s.noticeFrame f).line.candidate = s.line.candidate ∧
    (s.noticeFrame f).line.lastBreak = s.line.lastBreak ∧ (s.noticeFrame f).line.decoder = s.line.decoder ∧
    (s.noticeFrame f).ctl = s.ctl ∧ (s.noticeFrame f).load = s.load ∧
    (s.noticeFrame f).maint.groupCount = s.maint.groupCount ∧
    (s.noticeFrame f).maint.rescueStretch = s.maint.rescueStretch ∧
    (s.noticeFrame f).maint.peerStretch = s.maint.peerStretch ∧
    (s.noticeFrame f).maint.snapshot = s.maint.snapshot ∧
    (s.noticeFrame f).maint.lastCommand = s.maint.lastCommand ∧
    (s.noticeFrame f).maint.lastResult = s.maint.lastResult ∧
    (s.noticeFrame f).maint.nextRepetition = s.maint.nextRepetition ∧
    (s.noticeFrame f).maint.shift = s.maint.shift ∧
    (s.noticeFrame f).maint.latched = s.maint.latched ∧ (s.noticeFrame f).maint.port = s.maint.port ∧ (s.noticeFrame f).pending = s.pending := by
  unfold State.noticeFrame; dsimp only
  repeat' split
  all_goals simp

/-- The frame of `State.badFrame`. -/
@[simp] theorem State.badFrame_frame (reason : BreakReason) (s : State) :
    (s.badFrame reason).tick = s.tick ∧ (s.badFrame reason).clk = s.clk ∧ (s.badFrame reason).timer = s.timer ∧
    (s.badFrame reason).ref = s.ref ∧ (s.badFrame reason).time = s.time ∧
    (s.badFrame reason).schedule = s.schedule ∧ (s.badFrame reason).frames = s.frames ∧
    (s.badFrame reason).key = s.key ∧ (s.badFrame reason).line.last = s.line.last ∧
    (s.badFrame reason).line.decoder = s.line.decoder ∧ (s.badFrame reason).ctl = s.ctl ∧
    (s.badFrame reason).load = s.load ∧ (s.badFrame reason).maint.alarms = s.maint.alarms ∧
    (s.badFrame reason).maint.raisings = s.maint.raisings ∧
    (s.badFrame reason).maint.alertFrom = s.maint.alertFrom ∧ (s.badFrame reason).maint.alertN = s.maint.alertN ∧
    (s.badFrame reason).maint.groupCount = s.maint.groupCount ∧
    (s.badFrame reason).maint.rescueStretch = s.maint.rescueStretch ∧
    (s.badFrame reason).maint.peerStretch = s.maint.peerStretch ∧
    (s.badFrame reason).maint.snapshot = s.maint.snapshot ∧
    (s.badFrame reason).maint.lastCommand = s.maint.lastCommand ∧
    (s.badFrame reason).maint.lastResult = s.maint.lastResult ∧
    (s.badFrame reason).maint.nextRepetition = s.maint.nextRepetition ∧
    (s.badFrame reason).maint.shift = s.maint.shift ∧
    (s.badFrame reason).maint.latched = s.maint.latched ∧ (s.badFrame reason).maint.port = s.maint.port ∧ (s.badFrame reason).pending = s.pending := by
  simp [State.badFrame]

/-- The frame of `State.breakFrame`. -/
@[simp] theorem State.breakFrame_frame (reason : BreakReason) (s : State) :
    (s.breakFrame reason).tick = s.tick ∧ (s.breakFrame reason).clk = s.clk ∧
    (s.breakFrame reason).timer = s.timer ∧ (s.breakFrame reason).ref = s.ref ∧
    (s.breakFrame reason).time = s.time ∧ (s.breakFrame reason).schedule = s.schedule ∧
    (s.breakFrame reason).frames = s.frames ∧ (s.breakFrame reason).key = s.key ∧
    (s.breakFrame reason).line.last = s.line.last ∧ (s.breakFrame reason).ctl = s.ctl ∧
    (s.breakFrame reason).load = s.load ∧ (s.breakFrame reason).maint.alarms = s.maint.alarms ∧
    (s.breakFrame reason).maint.raisings = s.maint.raisings ∧
    (s.breakFrame reason).maint.alertFrom = s.maint.alertFrom ∧
    (s.breakFrame reason).maint.alertN = s.maint.alertN ∧
    (s.breakFrame reason).maint.groupCount = s.maint.groupCount ∧
    (s.breakFrame reason).maint.rescueStretch = s.maint.rescueStretch ∧
    (s.breakFrame reason).maint.peerStretch = s.maint.peerStretch ∧
    (s.breakFrame reason).maint.snapshot = s.maint.snapshot ∧
    (s.breakFrame reason).maint.lastCommand = s.maint.lastCommand ∧
    (s.breakFrame reason).maint.lastResult = s.maint.lastResult ∧
    (s.breakFrame reason).maint.nextRepetition = s.maint.nextRepetition ∧
    (s.breakFrame reason).maint.shift = s.maint.shift ∧
    (s.breakFrame reason).maint.latched = s.maint.latched ∧ (s.breakFrame reason).maint.port = s.maint.port ∧ (s.breakFrame reason).pending = s.pending := by
  unfold State.breakFrame; dsimp only
  repeat' split
  all_goals simp

/-- The frame of `State.deliverFrame`. -/
@[simp] theorem State.deliverFrame_frame (f : LineFrame) (s : State) :
    (s.deliverFrame f).tick = s.tick ∧ (s.deliverFrame f).clk = s.clk ∧
    (s.deliverFrame f).timer.monitor = s.timer.monitor ∧ (s.deliverFrame f).timer.f = s.timer.f ∧
    (s.deliverFrame f).timer.a = s.timer.a ∧ (s.deliverFrame f).timer.driveTaken = s.timer.driveTaken ∧
    (s.deliverFrame f).timer.nextEpoch = s.timer.nextEpoch ∧ (s.deliverFrame f).ref = s.ref ∧
    (s.deliverFrame f).key.drive = s.key.drive ∧
    (s.deliverFrame f).key.ring = s.key.ring ∧ (s.deliverFrame f).key.t0 = s.key.t0 ∧
    (s.deliverFrame f).key.opens = s.key.opens ∧ (s.deliverFrame f).key.edges = s.key.edges ∧
    (s.deliverFrame f).key.lastVerdict = s.key.lastVerdict ∧ (s.deliverFrame f).line.last = s.line.last ∧
    (s.deliverFrame f).line.lastBreak = s.line.lastBreak ∧
    (s.deliverFrame f).ctl.pendingWithdraw = s.ctl.pendingWithdraw ∧
    (s.deliverFrame f).ctl.yieldDue = s.ctl.yieldDue ∧ (s.deliverFrame f).ctl.faultReport = s.ctl.faultReport ∧
    (s.deliverFrame f).ctl.copy = s.ctl.copy ∧ (s.deliverFrame f).load = s.load ∧
    (s.deliverFrame f).maint.groupCount = s.maint.groupCount ∧
    (s.deliverFrame f).maint.rescueStretch = s.maint.rescueStretch ∧
    (s.deliverFrame f).maint.peerStretch = s.maint.peerStretch ∧
    (s.deliverFrame f).maint.snapshot = s.maint.snapshot ∧
    (s.deliverFrame f).maint.lastCommand = s.maint.lastCommand ∧
    (s.deliverFrame f).maint.lastResult = s.maint.lastResult ∧
    (s.deliverFrame f).maint.nextRepetition = s.maint.nextRepetition ∧
    (s.deliverFrame f).maint.shift = s.maint.shift ∧
    (s.deliverFrame f).maint.latched = s.maint.latched ∧ (s.deliverFrame f).maint.port = s.maint.port ∧ (s.deliverFrame f).pending = s.pending := by
  unfold State.deliverFrame
  repeat' split
  all_goals simp

/-- The frame of `State.closeFrame`. -/
@[simp] theorem State.closeFrame_frame (a : Assembly) (falls : List Int) (s : State) :
    (s.closeFrame a falls).tick = s.tick ∧ (s.closeFrame a falls).clk = s.clk ∧
    (s.closeFrame a falls).timer.monitor = s.timer.monitor ∧ (s.closeFrame a falls).timer.f = s.timer.f ∧
    (s.closeFrame a falls).timer.a = s.timer.a ∧ (s.closeFrame a falls).timer.driveTaken = s.timer.driveTaken ∧
    (s.closeFrame a falls).timer.nextEpoch = s.timer.nextEpoch ∧ (s.closeFrame a falls).ref = s.ref ∧
    (s.closeFrame a falls).key.drive = s.key.drive ∧ (s.closeFrame a falls).key.ring = s.key.ring ∧
    (s.closeFrame a falls).key.t0 = s.key.t0 ∧ (s.closeFrame a falls).key.opens = s.key.opens ∧
    (s.closeFrame a falls).key.edges = s.key.edges ∧ (s.closeFrame a falls).key.lastVerdict = s.key.lastVerdict ∧
    (s.closeFrame a falls).ctl.pendingWithdraw = s.ctl.pendingWithdraw ∧
    (s.closeFrame a falls).ctl.yieldDue = s.ctl.yieldDue ∧
    (s.closeFrame a falls).ctl.faultReport = s.ctl.faultReport ∧ (s.closeFrame a falls).ctl.copy = s.ctl.copy ∧
    (s.closeFrame a falls).load = s.load ∧ (s.closeFrame a falls).maint.groupCount = s.maint.groupCount ∧
    (s.closeFrame a falls).maint.rescueStretch = s.maint.rescueStretch ∧
    (s.closeFrame a falls).maint.peerStretch = s.maint.peerStretch ∧
    (s.closeFrame a falls).maint.snapshot = s.maint.snapshot ∧
    (s.closeFrame a falls).maint.lastCommand = s.maint.lastCommand ∧
    (s.closeFrame a falls).maint.lastResult = s.maint.lastResult ∧
    (s.closeFrame a falls).maint.nextRepetition = s.maint.nextRepetition ∧
    (s.closeFrame a falls).maint.shift = s.maint.shift ∧
    (s.closeFrame a falls).maint.latched = s.maint.latched ∧ (s.closeFrame a falls).maint.port = s.maint.port ∧ (s.closeFrame a falls).pending = s.pending := by
  unfold State.closeFrame
  repeat' split
  all_goals simp

/-- The frame of `State.setRole`. -/
@[simp] theorem State.setRole_frame (role : ReductionRole) (s : State) :
    (s.setRole role).tick = s.tick ∧ (s.setRole role).clk = s.clk ∧ (s.setRole role).timer = s.timer ∧
    (s.setRole role).ref = s.ref ∧ (s.setRole role).time = s.time ∧ (s.setRole role).schedule = s.schedule ∧
    (s.setRole role).frames = s.frames ∧ (s.setRole role).key = s.key ∧ (s.setRole role).line.last = s.line.last ∧
    (s.setRole role).line.candidate = s.line.candidate ∧ (s.setRole role).line.lastBreak = s.line.lastBreak ∧
    (s.setRole role).line.notice = s.line.notice ∧ (s.setRole role).line.decoder = s.line.decoder ∧
    (s.setRole role).ctl = s.ctl ∧ (s.setRole role).load = s.load ∧ (s.setRole role).maint = s.maint ∧
    (s.setRole role).pending = s.pending := by
  simp [State.setRole]

/-- The frame of `State.sampleLine`. -/
@[simp] theorem State.sampleLine_frame (fall : Int) (s : State) :
    (s.sampleLine fall).tick = s.tick ∧ (s.sampleLine fall).clk = s.clk ∧
    (s.sampleLine fall).timer.monitor = s.timer.monitor ∧ (s.sampleLine fall).timer.f = s.timer.f ∧
    (s.sampleLine fall).timer.a = s.timer.a ∧ (s.sampleLine fall).timer.driveTaken = s.timer.driveTaken ∧
    (s.sampleLine fall).timer.nextEpoch = s.timer.nextEpoch ∧ (s.sampleLine fall).timer.past = s.timer.past ∧
    (s.sampleLine fall).ref = s.ref ∧ (s.sampleLine fall).time = s.time ∧
    (s.sampleLine fall).schedule = s.schedule ∧ (s.sampleLine fall).frames = s.frames ∧
    (s.sampleLine fall).key = s.key ∧ (s.sampleLine fall).line.last = s.line.last ∧
    (s.sampleLine fall).line.candidate = s.line.candidate ∧
    (s.sampleLine fall).line.lastBreak = s.line.lastBreak ∧ (s.sampleLine fall).line.notice = s.line.notice ∧
    (s.sampleLine fall).line.decoder = s.line.decoder ∧ (s.sampleLine fall).ctl = s.ctl ∧
    (s.sampleLine fall).load = s.load ∧ (s.sampleLine fall).maint = s.maint ∧
    (s.sampleLine fall).pending = s.pending := by
  unfold State.sampleLine; dsimp only
  repeat' split
  all_goals simp

/-- The frame of `State.decodeFall`. -/
@[simp] theorem State.decodeFall_frame (fall : Int) (s : State) :
    (s.decodeFall fall).tick = s.tick ∧ (s.decodeFall fall).clk = s.clk ∧ (s.decodeFall fall).timer = s.timer ∧
    (s.decodeFall fall).ref = s.ref ∧ (s.decodeFall fall).time = s.time ∧
    (s.decodeFall fall).schedule = s.schedule ∧ (s.decodeFall fall).frames = s.frames ∧
    (s.decodeFall fall).key = s.key ∧ (s.decodeFall fall).line.last = s.line.last ∧
    (s.decodeFall fall).ctl = s.ctl ∧ (s.decodeFall fall).load = s.load ∧
    (s.decodeFall fall).maint.alarms = s.maint.alarms ∧ (s.decodeFall fall).maint.raisings = s.maint.raisings ∧
    (s.decodeFall fall).maint.alertFrom = s.maint.alertFrom ∧ (s.decodeFall fall).maint.alertN = s.maint.alertN ∧
    (s.decodeFall fall).maint.groupCount = s.maint.groupCount ∧
    (s.decodeFall fall).maint.rescueStretch = s.maint.rescueStretch ∧
    (s.decodeFall fall).maint.peerStretch = s.maint.peerStretch ∧
    (s.decodeFall fall).maint.snapshot = s.maint.snapshot ∧
    (s.decodeFall fall).maint.lastCommand = s.maint.lastCommand ∧
    (s.decodeFall fall).maint.lastResult = s.maint.lastResult ∧
    (s.decodeFall fall).maint.nextRepetition = s.maint.nextRepetition ∧
    (s.decodeFall fall).maint.shift = s.maint.shift ∧
    (s.decodeFall fall).maint.latched = s.maint.latched ∧ (s.decodeFall fall).maint.port = s.maint.port ∧ (s.decodeFall fall).pending = s.pending := by
  unfold State.decodeFall
  repeat' split
  all_goals simp

/-- The frame of `State.settleFall`. -/
@[simp] theorem State.settleFall_frame (fall : Int) (s : State) :
    (s.settleFall fall).tick = s.tick ∧ (s.settleFall fall).clk = s.clk ∧
    (s.settleFall fall).timer.monitor = s.timer.monitor ∧ (s.settleFall fall).timer.f = s.timer.f ∧
    (s.settleFall fall).timer.a = s.timer.a ∧ (s.settleFall fall).timer.driveTaken = s.timer.driveTaken ∧
    (s.settleFall fall).timer.nextEpoch = s.timer.nextEpoch ∧ (s.settleFall fall).timer.past = s.timer.past ∧
    (s.settleFall fall).ref = s.ref ∧ (s.settleFall fall).time = s.time ∧
    (s.settleFall fall).schedule = s.schedule ∧ (s.settleFall fall).frames = s.frames ∧
    (s.settleFall fall).key = s.key ∧ (s.settleFall fall).line.last = s.line.last ∧
    (s.settleFall fall).ctl = s.ctl ∧ (s.settleFall fall).load = s.load ∧
    (s.settleFall fall).maint.alarms = s.maint.alarms ∧ (s.settleFall fall).maint.raisings = s.maint.raisings ∧
    (s.settleFall fall).maint.alertFrom = s.maint.alertFrom ∧ (s.settleFall fall).maint.alertN = s.maint.alertN ∧
    (s.settleFall fall).maint.groupCount = s.maint.groupCount ∧
    (s.settleFall fall).maint.rescueStretch = s.maint.rescueStretch ∧
    (s.settleFall fall).maint.peerStretch = s.maint.peerStretch ∧
    (s.settleFall fall).maint.snapshot = s.maint.snapshot ∧
    (s.settleFall fall).maint.lastCommand = s.maint.lastCommand ∧
    (s.settleFall fall).maint.lastResult = s.maint.lastResult ∧
    (s.settleFall fall).maint.nextRepetition = s.maint.nextRepetition ∧
    (s.settleFall fall).maint.shift = s.maint.shift ∧
    (s.settleFall fall).maint.latched = s.maint.latched ∧ (s.settleFall fall).maint.port = s.maint.port ∧ (s.settleFall fall).pending = s.pending := by
  simp [State.settleFall]

/-- The frame of `State.settleNow`. -/
@[simp] theorem State.settleNow_frame (s : State) :
    (s.settleNow).tick = s.tick ∧ (s.settleNow).clk = s.clk ∧ (s.settleNow).timer.monitor = s.timer.monitor ∧
    (s.settleNow).timer.f = s.timer.f ∧ (s.settleNow).timer.a = s.timer.a ∧
    (s.settleNow).timer.driveTaken = s.timer.driveTaken ∧ (s.settleNow).timer.nextEpoch = s.timer.nextEpoch ∧
    (s.settleNow).timer.past = s.timer.past ∧ (s.settleNow).ref = s.ref ∧ (s.settleNow).time = s.time ∧
    (s.settleNow).schedule = s.schedule ∧ (s.settleNow).frames = s.frames ∧ (s.settleNow).key = s.key ∧
    (s.settleNow).line.last = s.line.last ∧ (s.settleNow).ctl = s.ctl ∧ (s.settleNow).load = s.load ∧
    (s.settleNow).maint.alarms = s.maint.alarms ∧ (s.settleNow).maint.raisings = s.maint.raisings ∧
    (s.settleNow).maint.alertFrom = s.maint.alertFrom ∧ (s.settleNow).maint.alertN = s.maint.alertN ∧
    (s.settleNow).maint.groupCount = s.maint.groupCount ∧
    (s.settleNow).maint.rescueStretch = s.maint.rescueStretch ∧
    (s.settleNow).maint.peerStretch = s.maint.peerStretch ∧ (s.settleNow).maint.snapshot = s.maint.snapshot ∧
    (s.settleNow).maint.lastCommand = s.maint.lastCommand ∧ (s.settleNow).maint.lastResult = s.maint.lastResult ∧
    (s.settleNow).maint.nextRepetition = s.maint.nextRepetition ∧ (s.settleNow).maint.shift = s.maint.shift ∧
    (s.settleNow).maint.latched = s.maint.latched ∧ (s.settleNow).maint.port = s.maint.port ∧
    (s.settleNow).pending = s.pending := by
  unfold State.settleNow
  repeat' split
  all_goals simp

/-- The frame of `State.startFrame`. -/
@[simp] theorem State.startFrame_frame (fall : Int) (s : State) :
    (s.startFrame fall).tick = s.tick ∧ (s.startFrame fall).clk = s.clk ∧ (s.startFrame fall).timer = s.timer ∧
    (s.startFrame fall).ref = s.ref ∧ (s.startFrame fall).time = s.time ∧
    (s.startFrame fall).schedule = s.schedule ∧ (s.startFrame fall).frames = s.frames ∧
    (s.startFrame fall).key = s.key ∧ (s.startFrame fall).line.last = s.line.last ∧
    (s.startFrame fall).line.candidate = s.line.candidate ∧
    (s.startFrame fall).line.lastBreak = s.line.lastBreak ∧ (s.startFrame fall).line.notice = s.line.notice ∧
    (s.startFrame fall).ctl = s.ctl ∧ (s.startFrame fall).load = s.load ∧ (s.startFrame fall).maint = s.maint ∧
    (s.startFrame fall).pending = s.pending := by
  simp [State.startFrame]

/-- The frame of `State.recogniseMark`. -/
@[simp] theorem State.recogniseMark_frame (s : State) :
    (s.recogniseMark).tick = s.tick ∧ (s.recogniseMark).clk = s.clk ∧
    (s.recogniseMark).timer.monitor = s.timer.monitor ∧ (s.recogniseMark).timer.f = s.timer.f ∧
    (s.recogniseMark).timer.a = s.timer.a ∧ (s.recogniseMark).timer.driveTaken = s.timer.driveTaken ∧
    (s.recogniseMark).timer.nextEpoch = s.timer.nextEpoch ∧ (s.recogniseMark).ref = s.ref ∧
    (s.recogniseMark).key.drive = s.key.drive ∧
    (s.recogniseMark).key.ring = s.key.ring ∧ (s.recogniseMark).key.t0 = s.key.t0 ∧
    (s.recogniseMark).key.opens = s.key.opens ∧ (s.recogniseMark).key.edges = s.key.edges ∧
    (s.recogniseMark).key.lastVerdict = s.key.lastVerdict ∧
    (s.recogniseMark).ctl.pendingWithdraw = s.ctl.pendingWithdraw ∧
    (s.recogniseMark).ctl.yieldDue = s.ctl.yieldDue ∧ (s.recogniseMark).ctl.faultReport = s.ctl.faultReport ∧
    (s.recogniseMark).ctl.copy = s.ctl.copy ∧ (s.recogniseMark).load = s.load ∧
    (s.recogniseMark).maint.groupCount = s.maint.groupCount ∧
    (s.recogniseMark).maint.rescueStretch = s.maint.rescueStretch ∧
    (s.recogniseMark).maint.peerStretch = s.maint.peerStretch ∧
    (s.recogniseMark).maint.snapshot = s.maint.snapshot ∧
    (s.recogniseMark).maint.lastCommand = s.maint.lastCommand ∧
    (s.recogniseMark).maint.lastResult = s.maint.lastResult ∧
    (s.recogniseMark).maint.nextRepetition = s.maint.nextRepetition ∧
    (s.recogniseMark).maint.shift = s.maint.shift ∧
    (s.recogniseMark).maint.latched = s.maint.latched ∧ (s.recogniseMark).maint.port = s.maint.port ∧ (s.recogniseMark).pending = s.pending := by
  unfold State.recogniseMark; dsimp only
  repeat' split
  all_goals simp

/-- The frame of `State.markNow`. -/
@[simp] theorem State.markNow_frame (s : State) :
    (s.markNow).tick = s.tick ∧ (s.markNow).clk = s.clk ∧ (s.markNow).timer.monitor = s.timer.monitor ∧
    (s.markNow).timer.f = s.timer.f ∧ (s.markNow).timer.a = s.timer.a ∧
    (s.markNow).timer.driveTaken = s.timer.driveTaken ∧ (s.markNow).timer.nextEpoch = s.timer.nextEpoch ∧
    (s.markNow).ref = s.ref ∧ (s.markNow).key.drive = s.key.drive ∧ (s.markNow).key.ring = s.key.ring ∧ (s.markNow).key.t0 = s.key.t0 ∧
    (s.markNow).key.opens = s.key.opens ∧ (s.markNow).key.edges = s.key.edges ∧
    (s.markNow).key.lastVerdict = s.key.lastVerdict ∧ (s.markNow).ctl.pendingWithdraw = s.ctl.pendingWithdraw ∧
    (s.markNow).ctl.yieldDue = s.ctl.yieldDue ∧ (s.markNow).ctl.faultReport = s.ctl.faultReport ∧
    (s.markNow).ctl.copy = s.ctl.copy ∧ (s.markNow).load = s.load ∧
    (s.markNow).maint.groupCount = s.maint.groupCount ∧ (s.markNow).maint.rescueStretch = s.maint.rescueStretch ∧
    (s.markNow).maint.peerStretch = s.maint.peerStretch ∧ (s.markNow).maint.snapshot = s.maint.snapshot ∧
    (s.markNow).maint.lastCommand = s.maint.lastCommand ∧ (s.markNow).maint.lastResult = s.maint.lastResult ∧
    (s.markNow).maint.nextRepetition = s.maint.nextRepetition ∧ (s.markNow).maint.shift = s.maint.shift ∧
    (s.markNow).maint.latched = s.maint.latched ∧ (s.markNow).maint.port = s.maint.port ∧
    (s.markNow).pending = s.pending := by
  unfold State.markNow
  repeat' split
  all_goals simp

/-- The frame of `State.overlongNow`. -/
@[simp] theorem State.overlongNow_frame (s : State) :
    (s.overlongNow).tick = s.tick ∧ (s.overlongNow).clk = s.clk ∧
    (s.overlongNow).timer.monitor = s.timer.monitor ∧ (s.overlongNow).timer.f = s.timer.f ∧
    (s.overlongNow).timer.a = s.timer.a ∧ (s.overlongNow).timer.driveTaken = s.timer.driveTaken ∧
    (s.overlongNow).timer.nextEpoch = s.timer.nextEpoch ∧ (s.overlongNow).ref = s.ref ∧
    (s.overlongNow).key.drive = s.key.drive ∧
    (s.overlongNow).key.ring = s.key.ring ∧ (s.overlongNow).key.t0 = s.key.t0 ∧
    (s.overlongNow).key.opens = s.key.opens ∧ (s.overlongNow).key.edges = s.key.edges ∧
    (s.overlongNow).key.lastVerdict = s.key.lastVerdict ∧
    (s.overlongNow).ctl.pendingWithdraw = s.ctl.pendingWithdraw ∧ (s.overlongNow).ctl.yieldDue = s.ctl.yieldDue ∧
    (s.overlongNow).ctl.faultReport = s.ctl.faultReport ∧ (s.overlongNow).ctl.copy = s.ctl.copy ∧
    (s.overlongNow).load = s.load ∧ (s.overlongNow).maint.groupCount = s.maint.groupCount ∧
    (s.overlongNow).maint.rescueStretch = s.maint.rescueStretch ∧
    (s.overlongNow).maint.peerStretch = s.maint.peerStretch ∧ (s.overlongNow).maint.snapshot = s.maint.snapshot ∧
    (s.overlongNow).maint.lastCommand = s.maint.lastCommand ∧
    (s.overlongNow).maint.lastResult = s.maint.lastResult ∧
    (s.overlongNow).maint.nextRepetition = s.maint.nextRepetition ∧ (s.overlongNow).maint.shift = s.maint.shift ∧
    (s.overlongNow).maint.latched = s.maint.latched ∧ (s.overlongNow).maint.port = s.maint.port ∧
    (s.overlongNow).pending = s.pending := by
  unfold State.overlongNow; dsimp only
  repeat' split
  all_goals simp

/-- The frame of `State.takeSymbol`. -/
@[simp] theorem State.takeSymbol_frame (y : Symbol) (s : State) :
    (s.takeSymbol y).tick = s.tick ∧ (s.takeSymbol y).clk = s.clk ∧ (s.takeSymbol y).timer = s.timer ∧
    (s.takeSymbol y).ref = s.ref ∧ (s.takeSymbol y).time = s.time ∧ (s.takeSymbol y).schedule = s.schedule ∧
    (s.takeSymbol y).frames = s.frames ∧ (s.takeSymbol y).key = s.key ∧ (s.takeSymbol y).line.last = s.line.last ∧
    (s.takeSymbol y).ctl = s.ctl ∧ (s.takeSymbol y).load = s.load ∧
    (s.takeSymbol y).maint.alarms = s.maint.alarms ∧ (s.takeSymbol y).maint.raisings = s.maint.raisings ∧
    (s.takeSymbol y).maint.alertFrom = s.maint.alertFrom ∧ (s.takeSymbol y).maint.alertN = s.maint.alertN ∧
    (s.takeSymbol y).maint.groupCount = s.maint.groupCount ∧
    (s.takeSymbol y).maint.rescueStretch = s.maint.rescueStretch ∧
    (s.takeSymbol y).maint.peerStretch = s.maint.peerStretch ∧
    (s.takeSymbol y).maint.snapshot = s.maint.snapshot ∧
    (s.takeSymbol y).maint.lastCommand = s.maint.lastCommand ∧
    (s.takeSymbol y).maint.lastResult = s.maint.lastResult ∧
    (s.takeSymbol y).maint.nextRepetition = s.maint.nextRepetition ∧
    (s.takeSymbol y).maint.shift = s.maint.shift ∧
    (s.takeSymbol y).maint.latched = s.maint.latched ∧ (s.takeSymbol y).maint.port = s.maint.port ∧ (s.takeSymbol y).pending = s.pending := by
  unfold State.takeSymbol
  repeat' split
  all_goals simp

/-- The frame of `State.settleGlitch`. -/
@[simp] theorem State.settleGlitch_frame (s : State) :
    (s.settleGlitch).tick = s.tick ∧ (s.settleGlitch).clk = s.clk ∧ (s.settleGlitch).timer = s.timer ∧
    (s.settleGlitch).ref = s.ref ∧ (s.settleGlitch).time = s.time ∧ (s.settleGlitch).schedule = s.schedule ∧
    (s.settleGlitch).frames = s.frames ∧ (s.settleGlitch).key = s.key ∧ (s.settleGlitch).line.last = s.line.last ∧
    (s.settleGlitch).ctl = s.ctl ∧ (s.settleGlitch).load = s.load ∧
    (s.settleGlitch).maint.alarms = s.maint.alarms ∧ (s.settleGlitch).maint.raisings = s.maint.raisings ∧
    (s.settleGlitch).maint.alertFrom = s.maint.alertFrom ∧ (s.settleGlitch).maint.alertN = s.maint.alertN ∧
    (s.settleGlitch).maint.groupCount = s.maint.groupCount ∧
    (s.settleGlitch).maint.rescueStretch = s.maint.rescueStretch ∧
    (s.settleGlitch).maint.peerStretch = s.maint.peerStretch ∧
    (s.settleGlitch).maint.snapshot = s.maint.snapshot ∧
    (s.settleGlitch).maint.lastCommand = s.maint.lastCommand ∧
    (s.settleGlitch).maint.lastResult = s.maint.lastResult ∧
    (s.settleGlitch).maint.nextRepetition = s.maint.nextRepetition ∧
    (s.settleGlitch).maint.shift = s.maint.shift ∧
    (s.settleGlitch).maint.latched = s.maint.latched ∧ (s.settleGlitch).maint.port = s.maint.port ∧ (s.settleGlitch).pending = s.pending := by
  unfold State.settleGlitch
  repeat' split
  all_goals simp

/-- The frame of `State.decoderFall`. -/
@[simp] theorem State.decoderFall_frame (fall : Int) (s : State) :
    (s.decoderFall fall).tick = s.tick ∧ (s.decoderFall fall).clk = s.clk ∧ (s.decoderFall fall).timer = s.timer ∧
    (s.decoderFall fall).ref = s.ref ∧ (s.decoderFall fall).time = s.time ∧
    (s.decoderFall fall).schedule = s.schedule ∧ (s.decoderFall fall).frames = s.frames ∧
    (s.decoderFall fall).key = s.key ∧ (s.decoderFall fall).line.last = s.line.last ∧
    (s.decoderFall fall).line.candidate = s.line.candidate ∧
    (s.decoderFall fall).line.lastBreak = s.line.lastBreak ∧ (s.decoderFall fall).line.notice = s.line.notice ∧
    (s.decoderFall fall).line.decoder = s.line.decoder ∧ (s.decoderFall fall).ctl = s.ctl ∧
    (s.decoderFall fall).load = s.load ∧ (s.decoderFall fall).maint = s.maint ∧
    (s.decoderFall fall).pending = s.pending := by
  unfold State.decoderFall
  repeat' split
  all_goals simp

/-- The frame of `State.riseTaken`. -/
@[simp] theorem State.riseTaken_frame (y : Symbol) (s : State) :
    (s.riseTaken y).tick = s.tick ∧ (s.riseTaken y).clk = s.clk ∧ (s.riseTaken y).timer = s.timer ∧
    (s.riseTaken y).ref = s.ref ∧ (s.riseTaken y).time = s.time ∧ (s.riseTaken y).schedule = s.schedule ∧
    (s.riseTaken y).frames = s.frames ∧ (s.riseTaken y).key = s.key ∧ (s.riseTaken y).line.last = s.line.last ∧
    (s.riseTaken y).ctl = s.ctl ∧ (s.riseTaken y).load = s.load ∧ (s.riseTaken y).maint.alarms = s.maint.alarms ∧
    (s.riseTaken y).maint.raisings = s.maint.raisings ∧ (s.riseTaken y).maint.alertFrom = s.maint.alertFrom ∧
    (s.riseTaken y).maint.alertN = s.maint.alertN ∧ (s.riseTaken y).maint.groupCount = s.maint.groupCount ∧
    (s.riseTaken y).maint.rescueStretch = s.maint.rescueStretch ∧
    (s.riseTaken y).maint.peerStretch = s.maint.peerStretch ∧ (s.riseTaken y).maint.snapshot = s.maint.snapshot ∧
    (s.riseTaken y).maint.lastCommand = s.maint.lastCommand ∧
    (s.riseTaken y).maint.lastResult = s.maint.lastResult ∧
    (s.riseTaken y).maint.nextRepetition = s.maint.nextRepetition ∧ (s.riseTaken y).maint.shift = s.maint.shift ∧
    (s.riseTaken y).maint.latched = s.maint.latched ∧ (s.riseTaken y).maint.port = s.maint.port ∧
    (s.riseTaken y).pending = s.pending := by
  unfold State.riseTaken
  repeat' split
  all_goals simp

/-- The frame of `State.decoderRise`. -/
@[simp] theorem State.decoderRise_frame (rise : Int) (s : State) :
    (s.decoderRise rise).tick = s.tick ∧ (s.decoderRise rise).clk = s.clk ∧
    (s.decoderRise rise).timer.monitor = s.timer.monitor ∧ (s.decoderRise rise).timer.f = s.timer.f ∧
    (s.decoderRise rise).timer.a = s.timer.a ∧ (s.decoderRise rise).timer.driveTaken = s.timer.driveTaken ∧
    (s.decoderRise rise).timer.nextEpoch = s.timer.nextEpoch ∧ (s.decoderRise rise).ref = s.ref ∧
    (s.decoderRise rise).key.drive = s.key.drive ∧
    (s.decoderRise rise).key.ring = s.key.ring ∧ (s.decoderRise rise).key.t0 = s.key.t0 ∧
    (s.decoderRise rise).key.opens = s.key.opens ∧ (s.decoderRise rise).key.edges = s.key.edges ∧
    (s.decoderRise rise).key.lastVerdict = s.key.lastVerdict ∧
    (s.decoderRise rise).ctl.pendingWithdraw = s.ctl.pendingWithdraw ∧
    (s.decoderRise rise).ctl.yieldDue = s.ctl.yieldDue ∧
    (s.decoderRise rise).ctl.faultReport = s.ctl.faultReport ∧ (s.decoderRise rise).ctl.copy = s.ctl.copy ∧
    (s.decoderRise rise).load = s.load ∧ (s.decoderRise rise).maint.groupCount = s.maint.groupCount ∧
    (s.decoderRise rise).maint.rescueStretch = s.maint.rescueStretch ∧
    (s.decoderRise rise).maint.peerStretch = s.maint.peerStretch ∧
    (s.decoderRise rise).maint.snapshot = s.maint.snapshot ∧
    (s.decoderRise rise).maint.lastCommand = s.maint.lastCommand ∧
    (s.decoderRise rise).maint.lastResult = s.maint.lastResult ∧
    (s.decoderRise rise).maint.nextRepetition = s.maint.nextRepetition ∧
    (s.decoderRise rise).maint.shift = s.maint.shift ∧
    (s.decoderRise rise).maint.latched = s.maint.latched ∧ (s.decoderRise rise).maint.port = s.maint.port ∧ (s.decoderRise rise).pending = s.pending := by
  unfold State.decoderRise
  repeat' split
  all_goals simp

/-- The frame of `State.wakeDecoder`. -/
@[simp] theorem State.wakeDecoder_frame (s : State) :
    (s.wakeDecoder).tick = s.tick ∧ (s.wakeDecoder).clk = s.clk ∧ (s.wakeDecoder).timer = s.timer ∧
    (s.wakeDecoder).ref = s.ref ∧ (s.wakeDecoder).time = s.time ∧ (s.wakeDecoder).schedule = s.schedule ∧
    (s.wakeDecoder).frames = s.frames ∧ (s.wakeDecoder).key = s.key ∧ (s.wakeDecoder).line.last = s.line.last ∧
    (s.wakeDecoder).line.candidate = s.line.candidate ∧ (s.wakeDecoder).line.lastBreak = s.line.lastBreak ∧
    (s.wakeDecoder).line.notice = s.line.notice ∧ (s.wakeDecoder).ctl = s.ctl ∧ (s.wakeDecoder).load = s.load ∧
    (s.wakeDecoder).maint = s.maint ∧ (s.wakeDecoder).pending = s.pending := by
  unfold State.wakeDecoder
  repeat' split
  all_goals simp

/-- The frame of `State.firstLevelEffect`. -/
@[simp] theorem State.firstLevelEffect_frame (level : Level) (s : State) :
    (s.firstLevelEffect level).tick = s.tick ∧ (s.firstLevelEffect level).clk = s.clk ∧
    (s.firstLevelEffect level).timer = s.timer ∧ (s.firstLevelEffect level).ref = s.ref ∧
    (s.firstLevelEffect level).time = s.time ∧ (s.firstLevelEffect level).schedule = s.schedule ∧
    (s.firstLevelEffect level).frames = s.frames ∧ (s.firstLevelEffect level).key.drive = s.key.drive ∧
    (s.firstLevelEffect level).key.ring = s.key.ring ∧ (s.firstLevelEffect level).key.t0 = s.key.t0 ∧
    (s.firstLevelEffect level).key.opens = s.key.opens ∧ (s.firstLevelEffect level).key.edges = s.key.edges ∧
    (s.firstLevelEffect level).key.lastVerdict = s.key.lastVerdict ∧
    (s.firstLevelEffect level).line.last = s.line.last ∧
    (s.firstLevelEffect level).line.candidate = s.line.candidate ∧
    (s.firstLevelEffect level).line.lastBreak = s.line.lastBreak ∧
    (s.firstLevelEffect level).line.notice = s.line.notice ∧ (s.firstLevelEffect level).ctl = s.ctl ∧
    (s.firstLevelEffect level).load = s.load ∧ (s.firstLevelEffect level).maint = s.maint ∧
    (s.firstLevelEffect level).pending = s.pending := by
  simp [State.firstLevelEffect]

/-- The frame of `State.keyFallEffect`. -/
@[simp] theorem State.keyFallEffect_frame (s : State) :
    (s.keyFallEffect).tick = s.tick ∧ (s.keyFallEffect).clk = s.clk ∧ (s.keyFallEffect).timer = s.timer ∧
    (s.keyFallEffect).ref = s.ref ∧ (s.keyFallEffect).time = s.time ∧ (s.keyFallEffect).schedule = s.schedule ∧
    (s.keyFallEffect).frames = s.frames ∧ (s.keyFallEffect).line.last = s.line.last ∧
    (s.keyFallEffect).line.candidate = s.line.candidate ∧ (s.keyFallEffect).line.lastBreak = s.line.lastBreak ∧
    (s.keyFallEffect).line.notice = s.line.notice ∧ (s.keyFallEffect).line.decoder = s.line.decoder ∧
    (s.keyFallEffect).ctl.standing = s.ctl.standing ∧ (s.keyFallEffect).ctl.test = s.ctl.test ∧
    (s.keyFallEffect).ctl.pendingWithdraw = s.ctl.pendingWithdraw ∧
    (s.keyFallEffect).ctl.yieldDue = s.ctl.yieldDue ∧ (s.keyFallEffect).ctl.faultReport = s.ctl.faultReport ∧
    (s.keyFallEffect).ctl.pendingJoin = s.ctl.pendingJoin ∧ (s.keyFallEffect).ctl.copy = s.ctl.copy ∧
    (s.keyFallEffect).ctl.floor = s.ctl.floor ∧ (s.keyFallEffect).ctl.lastComparison = s.ctl.lastComparison ∧
    (s.keyFallEffect).load = s.load ∧ (s.keyFallEffect).maint = s.maint ∧ (s.keyFallEffect).pending = s.pending := by
  unfold State.keyFallEffect
  repeat' split
  all_goals simp

/-- The frame of `State.keyRiseEffect`. -/
@[simp] theorem State.keyRiseEffect_frame (s : State) :
    (s.keyRiseEffect).tick = s.tick ∧ (s.keyRiseEffect).clk = s.clk ∧
    (s.keyRiseEffect).timer.monitor = s.timer.monitor ∧ (s.keyRiseEffect).timer.f = s.timer.f ∧
    (s.keyRiseEffect).timer.a = s.timer.a ∧ (s.keyRiseEffect).timer.driveTaken = s.timer.driveTaken ∧
    (s.keyRiseEffect).timer.nextEpoch = s.timer.nextEpoch ∧ (s.keyRiseEffect).ref = s.ref ∧
    (s.keyRiseEffect).ctl.pendingWithdraw = s.ctl.pendingWithdraw ∧
    (s.keyRiseEffect).ctl.yieldDue = s.ctl.yieldDue ∧ (s.keyRiseEffect).ctl.faultReport = s.ctl.faultReport ∧
    (s.keyRiseEffect).ctl.copy = s.ctl.copy ∧ (s.keyRiseEffect).load = s.load ∧
    (s.keyRiseEffect).maint.groupCount = s.maint.groupCount ∧
    (s.keyRiseEffect).maint.rescueStretch = s.maint.rescueStretch ∧
    (s.keyRiseEffect).maint.peerStretch = s.maint.peerStretch ∧
    (s.keyRiseEffect).maint.snapshot = s.maint.snapshot ∧
    (s.keyRiseEffect).maint.lastCommand = s.maint.lastCommand ∧
    (s.keyRiseEffect).maint.lastResult = s.maint.lastResult ∧
    (s.keyRiseEffect).maint.nextRepetition = s.maint.nextRepetition ∧
    (s.keyRiseEffect).maint.shift = s.maint.shift ∧
    (s.keyRiseEffect).maint.latched = s.maint.latched ∧ (s.keyRiseEffect).maint.port = s.maint.port ∧ (s.keyRiseEffect).pending = s.pending := by
  simp [State.keyRiseEffect]

/-- The frame of `State.spacingEffect`. -/
@[simp] theorem State.spacingEffect_frame (s : State) :
    (s.spacingEffect).tick = s.tick ∧ (s.spacingEffect).clk = s.clk ∧ (s.spacingEffect).timer = s.timer ∧
    (s.spacingEffect).ref = s.ref ∧ (s.spacingEffect).time = s.time ∧ (s.spacingEffect).schedule = s.schedule ∧
    (s.spacingEffect).frames = s.frames ∧ (s.spacingEffect).key = s.key ∧
    (s.spacingEffect).line.last = s.line.last ∧ (s.spacingEffect).ctl = s.ctl ∧ (s.spacingEffect).load = s.load ∧
    (s.spacingEffect).maint.alarms = s.maint.alarms ∧ (s.spacingEffect).maint.raisings = s.maint.raisings ∧
    (s.spacingEffect).maint.alertFrom = s.maint.alertFrom ∧ (s.spacingEffect).maint.alertN = s.maint.alertN ∧
    (s.spacingEffect).maint.groupCount = s.maint.groupCount ∧
    (s.spacingEffect).maint.rescueStretch = s.maint.rescueStretch ∧
    (s.spacingEffect).maint.peerStretch = s.maint.peerStretch ∧
    (s.spacingEffect).maint.snapshot = s.maint.snapshot ∧
    (s.spacingEffect).maint.lastCommand = s.maint.lastCommand ∧
    (s.spacingEffect).maint.lastResult = s.maint.lastResult ∧
    (s.spacingEffect).maint.nextRepetition = s.maint.nextRepetition ∧
    (s.spacingEffect).maint.shift = s.maint.shift ∧
    (s.spacingEffect).maint.latched = s.maint.latched ∧ (s.spacingEffect).maint.port = s.maint.port ∧ (s.spacingEffect).pending = s.pending := by
  unfold State.spacingEffect
  repeat' split
  all_goals simp

end Sys2Proof.Machine
end

