-- ==== Sys2Proof/Laws/FrameKeying.lean ====
section
/-!
SUPPORT. Frames of the Keying Unit, the turn of a second and the oscillator monitor: for each operation, one lemma that names every block of the state it leaves as it is, and in the
blocks it does change, the fields it leaves.
-/

namespace Sys2Proof.Machine

/-- The frame of `State.releaseEffect`. -/
@[simp] theorem State.releaseEffect_frame (s : State) :
    (s.releaseEffect).tick = s.tick ∧ (s.releaseEffect).clk = s.clk ∧ (s.releaseEffect).timer = s.timer ∧
    (s.releaseEffect).ref = s.ref ∧ (s.releaseEffect).time = s.time ∧ (s.releaseEffect).schedule = s.schedule ∧
    (s.releaseEffect).frames = s.frames ∧ (s.releaseEffect).key.ring = s.key.ring ∧
    (s.releaseEffect).key.level = s.key.level ∧ (s.releaseEffect).key.t0 = s.key.t0 ∧
    (s.releaseEffect).key.opens = s.key.opens ∧ (s.releaseEffect).key.edges = s.key.edges ∧
    (s.releaseEffect).key.lastVerdict = s.key.lastVerdict ∧ (s.releaseEffect).line = s.line ∧
    (s.releaseEffect).ctl = s.ctl ∧ (s.releaseEffect).load = s.load ∧ (s.releaseEffect).maint = s.maint ∧
    (s.releaseEffect).pending = s.pending := by
  simp [State.releaseEffect]

/-- The frame of `State.readbackEffect`. -/
@[simp] theorem State.readbackEffect_frame (s : State) :
    (s.readbackEffect).tick = s.tick ∧ (s.readbackEffect).clk = s.clk ∧ (s.readbackEffect).timer = s.timer ∧
    (s.readbackEffect).ref = s.ref ∧ (s.readbackEffect).time = s.time ∧ (s.readbackEffect).schedule = s.schedule ∧
    (s.readbackEffect).frames = s.frames ∧ (s.readbackEffect).line = s.line ∧ (s.readbackEffect).ctl = s.ctl ∧
    (s.readbackEffect).load = s.load ∧ (s.readbackEffect).maint = s.maint ∧
    (s.readbackEffect).pending = s.pending := by
  unfold State.readbackEffect
  repeat' split
  all_goals simp

/-- The frame of `State.listenTaken`. -/
@[simp] theorem State.listenTaken_frame (t0 fall : Int) (s : State) :
    (s.listenTaken t0 fall).tick = s.tick ∧ (s.listenTaken t0 fall).clk = s.clk ∧
    (s.listenTaken t0 fall).timer.monitor = s.timer.monitor ∧ (s.listenTaken t0 fall).timer.f = s.timer.f ∧
    (s.listenTaken t0 fall).timer.a = s.timer.a ∧ (s.listenTaken t0 fall).timer.driveTaken = s.timer.driveTaken ∧
    (s.listenTaken t0 fall).timer.nextEpoch = s.timer.nextEpoch ∧
    (s.listenTaken t0 fall).timer.past = s.timer.past ∧ (s.listenTaken t0 fall).ref = s.ref ∧
    (s.listenTaken t0 fall).time = s.time ∧ (s.listenTaken t0 fall).schedule = s.schedule ∧
    (s.listenTaken t0 fall).frames = s.frames ∧ (s.listenTaken t0 fall).line = s.line ∧
    (s.listenTaken t0 fall).ctl = s.ctl ∧ (s.listenTaken t0 fall).load = s.load ∧
    (s.listenTaken t0 fall).maint = s.maint ∧ (s.listenTaken t0 fall).pending = s.pending := by
  unfold State.listenTaken; dsimp only
  repeat' split
  all_goals simp

/-- The frame of `State.rescueBegins`. -/
@[simp] theorem State.rescueBegins_frame (t0 : Int) (s : State) :
    (s.rescueBegins t0).tick = s.tick ∧ (s.rescueBegins t0).clk = s.clk ∧ (s.rescueBegins t0).timer = s.timer ∧
    (s.rescueBegins t0).ref = s.ref ∧ (s.rescueBegins t0).time = s.time ∧
    (s.rescueBegins t0).schedule = s.schedule ∧ (s.rescueBegins t0).frames = s.frames ∧
    (s.rescueBegins t0).key.ring = s.key.ring ∧ (s.rescueBegins t0).key.level = s.key.level ∧
    (s.rescueBegins t0).key.t0 = s.key.t0 ∧ (s.rescueBegins t0).key.edges = s.key.edges ∧
    (s.rescueBegins t0).key.lastVerdict = s.key.lastVerdict ∧ (s.rescueBegins t0).line = s.line ∧
    (s.rescueBegins t0).ctl = s.ctl ∧ (s.rescueBegins t0).load = s.load ∧
    (s.rescueBegins t0).maint.alarms = s.maint.alarms ∧ (s.rescueBegins t0).maint.raisings = s.maint.raisings ∧
    (s.rescueBegins t0).maint.alertFrom = s.maint.alertFrom ∧ (s.rescueBegins t0).maint.alertN = s.maint.alertN ∧
    (s.rescueBegins t0).maint.groupCount = s.maint.groupCount ∧
    (s.rescueBegins t0).maint.peerStretch = s.maint.peerStretch ∧
    (s.rescueBegins t0).maint.snapshot = s.maint.snapshot ∧
    (s.rescueBegins t0).maint.lastCommand = s.maint.lastCommand ∧
    (s.rescueBegins t0).maint.lastResult = s.maint.lastResult ∧
    (s.rescueBegins t0).maint.nextRepetition = s.maint.nextRepetition ∧
    (s.rescueBegins t0).maint.shift = s.maint.shift ∧
    (s.rescueBegins t0).maint.latched = s.maint.latched ∧ (s.rescueBegins t0).maint.port = s.maint.port ∧ (s.rescueBegins t0).pending = s.pending := by
  simp [State.rescueBegins, Keying.updateOpen]

/-- The frame of `State.graceEffect`. -/
@[simp] theorem State.graceEffect_frame (s : State) :
    (s.graceEffect).tick = s.tick ∧ (s.graceEffect).clk = s.clk ∧
    (s.graceEffect).timer.monitor = s.timer.monitor ∧ (s.graceEffect).timer.f = s.timer.f ∧
    (s.graceEffect).timer.a = s.timer.a ∧ (s.graceEffect).timer.driveTaken = s.timer.driveTaken ∧
    (s.graceEffect).timer.nextEpoch = s.timer.nextEpoch ∧ (s.graceEffect).timer.past = s.timer.past ∧
    (s.graceEffect).ref = s.ref ∧ (s.graceEffect).time = s.time ∧ (s.graceEffect).schedule = s.schedule ∧
    (s.graceEffect).frames = s.frames ∧ (s.graceEffect).line = s.line ∧ (s.graceEffect).ctl = s.ctl ∧
    (s.graceEffect).load = s.load ∧ (s.graceEffect).maint.alarms = s.maint.alarms ∧
    (s.graceEffect).maint.raisings = s.maint.raisings ∧ (s.graceEffect).maint.alertFrom = s.maint.alertFrom ∧
    (s.graceEffect).maint.alertN = s.maint.alertN ∧ (s.graceEffect).maint.groupCount = s.maint.groupCount ∧
    (s.graceEffect).maint.peerStretch = s.maint.peerStretch ∧ (s.graceEffect).maint.snapshot = s.maint.snapshot ∧
    (s.graceEffect).maint.lastCommand = s.maint.lastCommand ∧
    (s.graceEffect).maint.lastResult = s.maint.lastResult ∧
    (s.graceEffect).maint.nextRepetition = s.maint.nextRepetition ∧ (s.graceEffect).maint.shift = s.maint.shift ∧
    (s.graceEffect).maint.latched = s.maint.latched ∧ (s.graceEffect).maint.port = s.maint.port ∧
    (s.graceEffect).pending = s.pending := by
  unfold State.graceEffect
  repeat' split
  all_goals simp

/-- The frame of `State.countOutcome`. -/
@[simp] theorem State.countOutcome_frame (outcome : SecondOutcome) (s : State) :
    (s.countOutcome outcome).tick = s.tick ∧ (s.countOutcome outcome).clk = s.clk ∧
    (s.countOutcome outcome).timer = s.timer ∧ (s.countOutcome outcome).ref = s.ref ∧
    (s.countOutcome outcome).time = s.time ∧ (s.countOutcome outcome).schedule = s.schedule ∧
    (s.countOutcome outcome).frames = s.frames ∧ (s.countOutcome outcome).key = s.key ∧
    (s.countOutcome outcome).line = s.line ∧ (s.countOutcome outcome).ctl = s.ctl ∧
    (s.countOutcome outcome).load = s.load ∧ (s.countOutcome outcome).maint.alarms = s.maint.alarms ∧
    (s.countOutcome outcome).maint.raisings = s.maint.raisings ∧
    (s.countOutcome outcome).maint.alertFrom = s.maint.alertFrom ∧
    (s.countOutcome outcome).maint.alertN = s.maint.alertN ∧
    (s.countOutcome outcome).maint.groupCount = s.maint.groupCount ∧
    (s.countOutcome outcome).maint.rescueStretch = s.maint.rescueStretch ∧
    (s.countOutcome outcome).maint.peerStretch = s.maint.peerStretch ∧
    (s.countOutcome outcome).maint.snapshot = s.maint.snapshot ∧
    (s.countOutcome outcome).maint.lastCommand = s.maint.lastCommand ∧
    (s.countOutcome outcome).maint.lastResult = s.maint.lastResult ∧
    (s.countOutcome outcome).maint.nextRepetition = s.maint.nextRepetition ∧
    (s.countOutcome outcome).maint.shift = s.maint.shift ∧
    (s.countOutcome outcome).maint.latched = s.maint.latched ∧ (s.countOutcome outcome).maint.port = s.maint.port ∧ (s.countOutcome outcome).pending = s.pending := by
  unfold State.countOutcome
  repeat' split
  all_goals simp

/-- The frame of `State.alarmOutcome`. -/
@[simp] theorem State.alarmOutcome_frame (outcome : SecondOutcome) (s : State) :
    (s.alarmOutcome outcome).tick = s.tick ∧ (s.alarmOutcome outcome).clk = s.clk ∧
    (s.alarmOutcome outcome).timer = s.timer ∧ (s.alarmOutcome outcome).ref = s.ref ∧
    (s.alarmOutcome outcome).time = s.time ∧ (s.alarmOutcome outcome).schedule = s.schedule ∧
    (s.alarmOutcome outcome).frames = s.frames ∧ (s.alarmOutcome outcome).key = s.key ∧
    (s.alarmOutcome outcome).line = s.line ∧ (s.alarmOutcome outcome).ctl = s.ctl ∧
    (s.alarmOutcome outcome).load = s.load ∧ (s.alarmOutcome outcome).maint.counters = s.maint.counters ∧
    (s.alarmOutcome outcome).maint.groupCount = s.maint.groupCount ∧
    (s.alarmOutcome outcome).maint.rescueStretch = s.maint.rescueStretch ∧
    (s.alarmOutcome outcome).maint.peerStretch = s.maint.peerStretch ∧
    (s.alarmOutcome outcome).maint.snapshot = s.maint.snapshot ∧
    (s.alarmOutcome outcome).maint.lastCommand = s.maint.lastCommand ∧
    (s.alarmOutcome outcome).maint.lastResult = s.maint.lastResult ∧
    (s.alarmOutcome outcome).maint.nextRepetition = s.maint.nextRepetition ∧
    (s.alarmOutcome outcome).maint.shift = s.maint.shift ∧
    (s.alarmOutcome outcome).maint.latched = s.maint.latched ∧ (s.alarmOutcome outcome).maint.port = s.maint.port ∧ (s.alarmOutcome outcome).pending = s.pending := by
  unfold State.alarmOutcome
  repeat' split
  all_goals simp

/-- The frame of `State.runDriveFault`. -/
@[simp] theorem State.runDriveFault_frame (action : Action) (outcome : SecondOutcome) (s : State) :
    (s.runDriveFault action outcome).tick = s.tick ∧ (s.runDriveFault action outcome).clk = s.clk ∧
    (s.runDriveFault action outcome).timer = s.timer ∧ (s.runDriveFault action outcome).ref = s.ref ∧
    (s.runDriveFault action outcome).time = s.time ∧ (s.runDriveFault action outcome).schedule = s.schedule ∧
    (s.runDriveFault action outcome).frames = s.frames ∧
    (s.runDriveFault action outcome).key.drive = s.key.drive ∧
    (s.runDriveFault action outcome).key.ring = s.key.ring ∧
    (s.runDriveFault action outcome).key.level = s.key.level ∧
    (s.runDriveFault action outcome).key.t0 = s.key.t0 ∧
    (s.runDriveFault action outcome).key.opens = s.key.opens ∧
    (s.runDriveFault action outcome).key.edges = s.key.edges ∧
    (s.runDriveFault action outcome).key.lastVerdict = s.key.lastVerdict ∧
    (s.runDriveFault action outcome).line = s.line ∧
    (s.runDriveFault action outcome).ctl.standing = s.ctl.standing ∧
    (s.runDriveFault action outcome).ctl.test = s.ctl.test ∧
    (s.runDriveFault action outcome).ctl.pendingWithdraw = s.ctl.pendingWithdraw ∧
    (s.runDriveFault action outcome).ctl.yieldDue = s.ctl.yieldDue ∧
    (s.runDriveFault action outcome).ctl.pendingJoin = s.ctl.pendingJoin ∧
    (s.runDriveFault action outcome).ctl.silence = s.ctl.silence ∧
    (s.runDriveFault action outcome).ctl.silenceFrom = s.ctl.silenceFrom ∧
    (s.runDriveFault action outcome).ctl.copy = s.ctl.copy ∧
    (s.runDriveFault action outcome).ctl.floor = s.ctl.floor ∧
    (s.runDriveFault action outcome).ctl.lastComparison = s.ctl.lastComparison ∧
    (s.runDriveFault action outcome).load = s.load ∧ (s.runDriveFault action outcome).maint = s.maint ∧
    (s.runDriveFault action outcome).pending = s.pending := by
  unfold State.runDriveFault State.runDriveFault.pulled
  repeat' split
  all_goals simp

/-- The frame of `State.giveVerdict`. -/
@[simp] theorem State.giveVerdict_frame (n0 : Int) (s : State) :
    (s.giveVerdict n0).tick = s.tick ∧ (s.giveVerdict n0).clk = s.clk ∧ (s.giveVerdict n0).timer = s.timer ∧
    (s.giveVerdict n0).ref = s.ref ∧ (s.giveVerdict n0).time = s.time ∧ (s.giveVerdict n0).schedule = s.schedule ∧
    (s.giveVerdict n0).frames = s.frames ∧ (s.giveVerdict n0).key.drive = s.key.drive ∧
    (s.giveVerdict n0).key.ring = s.key.ring ∧ (s.giveVerdict n0).key.level = s.key.level ∧
    (s.giveVerdict n0).key.t0 = s.key.t0 ∧ (s.giveVerdict n0).key.opens = s.key.opens ∧
    (s.giveVerdict n0).key.edges = s.key.edges ∧ (s.giveVerdict n0).line = s.line ∧
    (s.giveVerdict n0).ctl.standing = s.ctl.standing ∧ (s.giveVerdict n0).ctl.test = s.ctl.test ∧
    (s.giveVerdict n0).ctl.pendingWithdraw = s.ctl.pendingWithdraw ∧
    (s.giveVerdict n0).ctl.faultReport = s.ctl.faultReport ∧
    (s.giveVerdict n0).ctl.pendingJoin = s.ctl.pendingJoin ∧ (s.giveVerdict n0).ctl.silence = s.ctl.silence ∧
    (s.giveVerdict n0).ctl.silenceFrom = s.ctl.silenceFrom ∧ (s.giveVerdict n0).ctl.copy = s.ctl.copy ∧
    (s.giveVerdict n0).ctl.floor = s.ctl.floor ∧ (s.giveVerdict n0).ctl.lastComparison = s.ctl.lastComparison ∧
    (s.giveVerdict n0).load = s.load ∧ (s.giveVerdict n0).maint.groupCount = s.maint.groupCount ∧
    (s.giveVerdict n0).maint.rescueStretch = s.maint.rescueStretch ∧
    (s.giveVerdict n0).maint.snapshot = s.maint.snapshot ∧
    (s.giveVerdict n0).maint.lastCommand = s.maint.lastCommand ∧
    (s.giveVerdict n0).maint.lastResult = s.maint.lastResult ∧
    (s.giveVerdict n0).maint.nextRepetition = s.maint.nextRepetition ∧
    (s.giveVerdict n0).maint.shift = s.maint.shift ∧
    (s.giveVerdict n0).maint.latched = s.maint.latched ∧ (s.giveVerdict n0).maint.port = s.maint.port ∧ (s.giveVerdict n0).pending = s.pending := by
  unfold State.giveVerdict; dsimp only
  repeat' split
  all_goals simp

/-- The frame of `State.verdictAt`. -/
@[simp] theorem State.verdictAt_frame (o : OpenSecond) (s : State) :
    (s.verdictAt o).tick = s.tick ∧ (s.verdictAt o).clk = s.clk ∧ (s.verdictAt o).timer = s.timer ∧
    (s.verdictAt o).ref = s.ref ∧ (s.verdictAt o).time = s.time ∧ (s.verdictAt o).schedule = s.schedule ∧
    (s.verdictAt o).frames = s.frames ∧ (s.verdictAt o).key.drive = s.key.drive ∧
    (s.verdictAt o).key.ring = s.key.ring ∧ (s.verdictAt o).key.level = s.key.level ∧
    (s.verdictAt o).key.t0 = s.key.t0 ∧ (s.verdictAt o).key.opens = s.key.opens ∧
    (s.verdictAt o).key.edges = s.key.edges ∧ (s.verdictAt o).line = s.line ∧
    (s.verdictAt o).ctl.standing = s.ctl.standing ∧ (s.verdictAt o).ctl.test = s.ctl.test ∧
    (s.verdictAt o).ctl.pendingWithdraw = s.ctl.pendingWithdraw ∧
    (s.verdictAt o).ctl.faultReport = s.ctl.faultReport ∧ (s.verdictAt o).ctl.pendingJoin = s.ctl.pendingJoin ∧
    (s.verdictAt o).ctl.silence = s.ctl.silence ∧ (s.verdictAt o).ctl.silenceFrom = s.ctl.silenceFrom ∧
    (s.verdictAt o).ctl.copy = s.ctl.copy ∧ (s.verdictAt o).ctl.floor = s.ctl.floor ∧
    (s.verdictAt o).ctl.lastComparison = s.ctl.lastComparison ∧ (s.verdictAt o).load = s.load ∧
    (s.verdictAt o).maint.groupCount = s.maint.groupCount ∧
    (s.verdictAt o).maint.rescueStretch = s.maint.rescueStretch ∧
    (s.verdictAt o).maint.snapshot = s.maint.snapshot ∧ (s.verdictAt o).maint.lastCommand = s.maint.lastCommand ∧
    (s.verdictAt o).maint.lastResult = s.maint.lastResult ∧
    (s.verdictAt o).maint.nextRepetition = s.maint.nextRepetition ∧ (s.verdictAt o).maint.shift = s.maint.shift ∧
    (s.verdictAt o).maint.latched = s.maint.latched ∧ (s.verdictAt o).maint.port = s.maint.port ∧
    (s.verdictAt o).pending = s.pending := by
  unfold State.verdictAt
  repeat' split
  all_goals simp

/-- The frame of `State.testAt`. -/
@[simp] theorem State.testAt_frame (o : OpenSecond) (s : State) :
    (s.testAt o).tick = s.tick ∧ (s.testAt o).clk = s.clk ∧ (s.testAt o).timer = s.timer ∧
    (s.testAt o).ref = s.ref ∧ (s.testAt o).time = s.time ∧ (s.testAt o).schedule = s.schedule ∧
    (s.testAt o).frames = s.frames ∧ (s.testAt o).key.drive = s.key.drive ∧ (s.testAt o).key.ring = s.key.ring ∧
    (s.testAt o).key.t0 = s.key.t0 ∧ (s.testAt o).key.opens = s.key.opens ∧ (s.testAt o).key.edges = s.key.edges ∧
    (s.testAt o).key.lastVerdict = s.key.lastVerdict ∧ (s.testAt o).line.last = s.line.last ∧
    (s.testAt o).line.candidate = s.line.candidate ∧ (s.testAt o).line.lastBreak = s.line.lastBreak ∧
    (s.testAt o).line.notice = s.line.notice ∧ (s.testAt o).ctl.standing = s.ctl.standing ∧
    (s.testAt o).ctl.pendingWithdraw = s.ctl.pendingWithdraw ∧ (s.testAt o).ctl.yieldDue = s.ctl.yieldDue ∧
    (s.testAt o).ctl.faultReport = s.ctl.faultReport ∧ (s.testAt o).ctl.pendingJoin = s.ctl.pendingJoin ∧
    (s.testAt o).ctl.silence = s.ctl.silence ∧ (s.testAt o).ctl.silenceFrom = s.ctl.silenceFrom ∧
    (s.testAt o).ctl.copy = s.ctl.copy ∧ (s.testAt o).ctl.floor = s.ctl.floor ∧
    (s.testAt o).ctl.lastComparison = s.ctl.lastComparison ∧ (s.testAt o).load = s.load ∧
    (s.testAt o).maint = s.maint ∧ (s.testAt o).pending = s.pending := by
  unfold State.testAt
  repeat' split
  all_goals simp

/-- The frame of `State.decideKeyed`. -/
@[simp] theorem State.decideKeyed_frame (o : OpenSecond) (outcome : SecondOutcome) (s : State) :
    (s.decideKeyed o outcome).tick = s.tick ∧ (s.decideKeyed o outcome).clk = s.clk ∧
    (s.decideKeyed o outcome).timer = s.timer ∧ (s.decideKeyed o outcome).ref = s.ref ∧
    (s.decideKeyed o outcome).time = s.time ∧ (s.decideKeyed o outcome).schedule = s.schedule ∧
    (s.decideKeyed o outcome).frames = s.frames ∧ (s.decideKeyed o outcome).line = s.line ∧
    (s.decideKeyed o outcome).ctl.standing = s.ctl.standing ∧ (s.decideKeyed o outcome).ctl.test = s.ctl.test ∧
    (s.decideKeyed o outcome).ctl.pendingWithdraw = s.ctl.pendingWithdraw ∧
    (s.decideKeyed o outcome).ctl.pendingJoin = s.ctl.pendingJoin ∧
    (s.decideKeyed o outcome).ctl.silence = s.ctl.silence ∧
    (s.decideKeyed o outcome).ctl.silenceFrom = s.ctl.silenceFrom ∧
    (s.decideKeyed o outcome).ctl.copy = s.ctl.copy ∧ (s.decideKeyed o outcome).ctl.floor = s.ctl.floor ∧
    (s.decideKeyed o outcome).ctl.lastComparison = s.ctl.lastComparison ∧
    (s.decideKeyed o outcome).load = s.load ∧ (s.decideKeyed o outcome).maint.groupCount = s.maint.groupCount ∧
    (s.decideKeyed o outcome).maint.rescueStretch = s.maint.rescueStretch ∧
    (s.decideKeyed o outcome).maint.snapshot = s.maint.snapshot ∧
    (s.decideKeyed o outcome).maint.lastCommand = s.maint.lastCommand ∧
    (s.decideKeyed o outcome).maint.lastResult = s.maint.lastResult ∧
    (s.decideKeyed o outcome).maint.nextRepetition = s.maint.nextRepetition ∧
    (s.decideKeyed o outcome).maint.shift = s.maint.shift ∧
    (s.decideKeyed o outcome).maint.latched = s.maint.latched ∧ (s.decideKeyed o outcome).maint.port = s.maint.port ∧ (s.decideKeyed o outcome).pending = s.pending := by
  simp [State.decideKeyed]

/-- The frame of `State.decisionEffect`. -/
@[simp] theorem State.decisionEffect_frame (s : State) :
    (s.decisionEffect).tick = s.tick ∧ (s.decisionEffect).clk = s.clk ∧ (s.decisionEffect).timer = s.timer ∧
    (s.decisionEffect).ref = s.ref ∧ (s.decisionEffect).time = s.time ∧ (s.decisionEffect).schedule = s.schedule ∧
    (s.decisionEffect).frames = s.frames ∧ (s.decisionEffect).line.last = s.line.last ∧
    (s.decisionEffect).line.candidate = s.line.candidate ∧ (s.decisionEffect).line.lastBreak = s.line.lastBreak ∧
    (s.decisionEffect).line.notice = s.line.notice ∧ (s.decisionEffect).ctl.standing = s.ctl.standing ∧
    (s.decisionEffect).ctl.pendingWithdraw = s.ctl.pendingWithdraw ∧
    (s.decisionEffect).ctl.pendingJoin = s.ctl.pendingJoin ∧ (s.decisionEffect).ctl.silence = s.ctl.silence ∧
    (s.decisionEffect).ctl.silenceFrom = s.ctl.silenceFrom ∧ (s.decisionEffect).ctl.copy = s.ctl.copy ∧
    (s.decisionEffect).ctl.floor = s.ctl.floor ∧ (s.decisionEffect).ctl.lastComparison = s.ctl.lastComparison ∧
    (s.decisionEffect).load = s.load ∧ (s.decisionEffect).maint.groupCount = s.maint.groupCount ∧
    (s.decisionEffect).maint.rescueStretch = s.maint.rescueStretch ∧
    (s.decisionEffect).maint.snapshot = s.maint.snapshot ∧
    (s.decisionEffect).maint.lastCommand = s.maint.lastCommand ∧
    (s.decisionEffect).maint.lastResult = s.maint.lastResult ∧
    (s.decisionEffect).maint.nextRepetition = s.maint.nextRepetition ∧
    (s.decisionEffect).maint.shift = s.maint.shift ∧
    (s.decisionEffect).maint.latched = s.maint.latched ∧ (s.decisionEffect).maint.port = s.maint.port ∧ (s.decisionEffect).pending = s.pending := by
  unfold State.decisionEffect
  repeat' split
  all_goals simp

/-- The frame of `State.recordCloseEffect`. -/
@[simp] theorem State.recordCloseEffect_frame (s : State) :
    (s.recordCloseEffect).tick = s.tick ∧ (s.recordCloseEffect).clk = s.clk ∧
    (s.recordCloseEffect).timer = s.timer ∧ (s.recordCloseEffect).ref = s.ref ∧
    (s.recordCloseEffect).time = s.time ∧ (s.recordCloseEffect).schedule = s.schedule ∧
    (s.recordCloseEffect).frames = s.frames ∧ (s.recordCloseEffect).key.drive = s.key.drive ∧
    (s.recordCloseEffect).key.level = s.key.level ∧ (s.recordCloseEffect).key.t0 = s.key.t0 ∧
    (s.recordCloseEffect).key.edges = s.key.edges ∧ (s.recordCloseEffect).key.lastVerdict = s.key.lastVerdict ∧
    (s.recordCloseEffect).line = s.line ∧ (s.recordCloseEffect).ctl = s.ctl ∧
    (s.recordCloseEffect).load = s.load ∧ (s.recordCloseEffect).maint = s.maint ∧
    (s.recordCloseEffect).pending = s.pending := by
  unfold State.recordCloseEffect
  repeat' split
  all_goals simp

/-- The frame of `State.loopRelease`. -/
@[simp] theorem State.loopRelease_frame (s : State) :
    (s.loopRelease).tick = s.tick ∧ (s.loopRelease).clk = s.clk ∧
    (s.loopRelease).timer.monitor = s.timer.monitor ∧ (s.loopRelease).timer.f = s.timer.f ∧
    (s.loopRelease).timer.a = s.timer.a ∧ (s.loopRelease).timer.driveTaken = s.timer.driveTaken ∧
    (s.loopRelease).timer.nextEpoch = s.timer.nextEpoch ∧ (s.loopRelease).ref = s.ref ∧
    (s.loopRelease).key.drive = s.key.drive ∧
    (s.loopRelease).key.ring = s.key.ring ∧ (s.loopRelease).key.t0 = s.key.t0 ∧
    (s.loopRelease).key.opens = s.key.opens ∧ (s.loopRelease).key.edges = s.key.edges ∧
    (s.loopRelease).key.lastVerdict = s.key.lastVerdict ∧
    (s.loopRelease).ctl.pendingWithdraw = s.ctl.pendingWithdraw ∧ (s.loopRelease).ctl.yieldDue = s.ctl.yieldDue ∧
    (s.loopRelease).ctl.faultReport = s.ctl.faultReport ∧ (s.loopRelease).ctl.copy = s.ctl.copy ∧
    (s.loopRelease).load = s.load ∧ (s.loopRelease).maint.groupCount = s.maint.groupCount ∧
    (s.loopRelease).maint.rescueStretch = s.maint.rescueStretch ∧
    (s.loopRelease).maint.peerStretch = s.maint.peerStretch ∧ (s.loopRelease).maint.snapshot = s.maint.snapshot ∧
    (s.loopRelease).maint.lastCommand = s.maint.lastCommand ∧
    (s.loopRelease).maint.lastResult = s.maint.lastResult ∧
    (s.loopRelease).maint.nextRepetition = s.maint.nextRepetition ∧ (s.loopRelease).maint.shift = s.maint.shift ∧
    (s.loopRelease).maint.latched = s.maint.latched ∧ (s.loopRelease).maint.port = s.maint.port ∧
    (s.loopRelease).pending = s.pending := by
  simp [State.loopRelease]

/-- The frame of `State.releaseNow`. -/
@[simp] theorem State.releaseNow_frame (s : State) :
    (s.releaseNow).tick = s.tick ∧ (s.releaseNow).clk = s.clk ∧ (s.releaseNow).timer.monitor = s.timer.monitor ∧
    (s.releaseNow).timer.f = s.timer.f ∧ (s.releaseNow).timer.a = s.timer.a ∧
    (s.releaseNow).timer.driveTaken = s.timer.driveTaken ∧ (s.releaseNow).timer.nextEpoch = s.timer.nextEpoch ∧
    (s.releaseNow).ref = s.ref ∧ (s.releaseNow).key.ring = s.key.ring ∧ (s.releaseNow).key.t0 = s.key.t0 ∧
    (s.releaseNow).key.opens = s.key.opens ∧ (s.releaseNow).key.edges = s.key.edges ∧
    (s.releaseNow).key.lastVerdict = s.key.lastVerdict ∧
    (s.releaseNow).ctl.pendingWithdraw = s.ctl.pendingWithdraw ∧ (s.releaseNow).ctl.yieldDue = s.ctl.yieldDue ∧
    (s.releaseNow).ctl.faultReport = s.ctl.faultReport ∧ (s.releaseNow).ctl.copy = s.ctl.copy ∧
    (s.releaseNow).load = s.load ∧ (s.releaseNow).maint.groupCount = s.maint.groupCount ∧
    (s.releaseNow).maint.rescueStretch = s.maint.rescueStretch ∧
    (s.releaseNow).maint.peerStretch = s.maint.peerStretch ∧ (s.releaseNow).maint.snapshot = s.maint.snapshot ∧
    (s.releaseNow).maint.lastCommand = s.maint.lastCommand ∧
    (s.releaseNow).maint.lastResult = s.maint.lastResult ∧
    (s.releaseNow).maint.nextRepetition = s.maint.nextRepetition ∧ (s.releaseNow).maint.shift = s.maint.shift ∧
    (s.releaseNow).maint.latched = s.maint.latched ∧ (s.releaseNow).maint.port = s.maint.port ∧
    (s.releaseNow).pending = s.pending := by
  unfold State.releaseNow
  repeat' split
  all_goals simp

/-- The frame of `State.timeSecond`. -/
@[simp] theorem State.timeSecond_frame (s : State) :
    (s.timeSecond).tick = s.tick ∧ (s.timeSecond).clk = s.clk ∧ (s.timeSecond).ref = s.ref ∧
    (s.timeSecond).time = s.time ∧ (s.timeSecond).schedule = s.schedule ∧ (s.timeSecond).frames = s.frames ∧
    (s.timeSecond).key = s.key ∧ (s.timeSecond).line = s.line ∧ (s.timeSecond).ctl = s.ctl ∧
    (s.timeSecond).load = s.load ∧ (s.timeSecond).maint = s.maint ∧ (s.timeSecond).pending = s.pending := by
  simp [State.timeSecond]

/-- The frame of `State.openEpoch`. -/
@[simp] theorem State.openEpoch_frame (t0 : Int) (s : State) :
    (s.openEpoch t0).tick = s.tick ∧ (s.openEpoch t0).clk = s.clk ∧
    (s.openEpoch t0).timer.monitor = s.timer.monitor ∧ (s.openEpoch t0).timer.f = s.timer.f ∧
    (s.openEpoch t0).timer.a = s.timer.a ∧ (s.openEpoch t0).timer.driveTaken = s.timer.driveTaken ∧
    (s.openEpoch t0).timer.nextEpoch = s.timer.nextEpoch ∧ (s.openEpoch t0).ref = s.ref ∧
    (s.openEpoch t0).time = s.time ∧ (s.openEpoch t0).schedule = s.schedule ∧ (s.openEpoch t0).frames = s.frames ∧
    (s.openEpoch t0).key = s.key ∧ (s.openEpoch t0).line = s.line ∧ (s.openEpoch t0).ctl = s.ctl ∧
    (s.openEpoch t0).load = s.load ∧ (s.openEpoch t0).maint = s.maint ∧ (s.openEpoch t0).pending = s.pending := by
  simp [State.openEpoch]

/-- The frame of `State.ageAlarm`. -/
@[simp] theorem State.ageAlarm_frame (before : TimeClass) (s : State) :
    (s.ageAlarm before).tick = s.tick ∧ (s.ageAlarm before).clk = s.clk ∧ (s.ageAlarm before).timer = s.timer ∧
    (s.ageAlarm before).ref = s.ref ∧ (s.ageAlarm before).time = s.time ∧
    (s.ageAlarm before).schedule = s.schedule ∧ (s.ageAlarm before).frames = s.frames ∧
    (s.ageAlarm before).key = s.key ∧ (s.ageAlarm before).line = s.line ∧ (s.ageAlarm before).ctl = s.ctl ∧
    (s.ageAlarm before).load = s.load ∧ (s.ageAlarm before).maint.counters = s.maint.counters ∧
    (s.ageAlarm before).maint.groupCount = s.maint.groupCount ∧
    (s.ageAlarm before).maint.rescueStretch = s.maint.rescueStretch ∧
    (s.ageAlarm before).maint.peerStretch = s.maint.peerStretch ∧
    (s.ageAlarm before).maint.snapshot = s.maint.snapshot ∧
    (s.ageAlarm before).maint.lastCommand = s.maint.lastCommand ∧
    (s.ageAlarm before).maint.lastResult = s.maint.lastResult ∧
    (s.ageAlarm before).maint.nextRepetition = s.maint.nextRepetition ∧
    (s.ageAlarm before).maint.shift = s.maint.shift ∧
    (s.ageAlarm before).maint.latched = s.maint.latched ∧ (s.ageAlarm before).maint.port = s.maint.port ∧ (s.ageAlarm before).pending = s.pending := by
  unfold State.ageAlarm
  repeat' split
  all_goals simp

/-- The frame of `State.buildAtEpoch`. -/
@[simp] theorem State.buildAtEpoch_frame (reset : Bool) (s : State) :
    (s.buildAtEpoch reset).tick = s.tick ∧ (s.buildAtEpoch reset).clk = s.clk ∧
    (s.buildAtEpoch reset).timer = s.timer ∧ (s.buildAtEpoch reset).ref = s.ref ∧
    (s.buildAtEpoch reset).time = { s.time with leap60 := s.time.leap60 && !reset } ∧ (s.buildAtEpoch reset).schedule = s.schedule ∧
    (s.buildAtEpoch reset).key.drive = s.key.drive ∧ (s.buildAtEpoch reset).key.ring = s.key.ring ∧
    (s.buildAtEpoch reset).key.t0 = s.key.t0 ∧ (s.buildAtEpoch reset).key.opens = s.key.opens ∧
    (s.buildAtEpoch reset).key.edges = s.key.edges ∧ (s.buildAtEpoch reset).key.lastVerdict = s.key.lastVerdict ∧
    (s.buildAtEpoch reset).line.last = s.line.last ∧ (s.buildAtEpoch reset).line.candidate = s.line.candidate ∧
    (s.buildAtEpoch reset).line.lastBreak = s.line.lastBreak ∧
    (s.buildAtEpoch reset).line.notice = s.line.notice ∧ (s.buildAtEpoch reset).ctl.standing = s.ctl.standing ∧
    (s.buildAtEpoch reset).ctl.pendingWithdraw = s.ctl.pendingWithdraw ∧
    (s.buildAtEpoch reset).ctl.yieldDue = s.ctl.yieldDue ∧
    (s.buildAtEpoch reset).ctl.faultReport = s.ctl.faultReport ∧
    (s.buildAtEpoch reset).ctl.silence = s.ctl.silence ∧
    (s.buildAtEpoch reset).ctl.silenceFrom = s.ctl.silenceFrom ∧ (s.buildAtEpoch reset).ctl.copy = s.ctl.copy ∧
    (s.buildAtEpoch reset).ctl.lastComparison = s.ctl.lastComparison ∧ (s.buildAtEpoch reset).load = s.load ∧
    (s.buildAtEpoch reset).maint = s.maint ∧ (s.buildAtEpoch reset).pending = s.pending := by
  unfold State.buildAtEpoch
  cases reset <;> simp

/-- The frame of `State.epochEffect`. -/
@[simp] theorem State.epochEffect_frame (s : State) :
    (s.epochEffect).tick = s.tick ∧ (s.epochEffect).clk = s.clk ∧ (s.epochEffect).key.drive = s.key.drive ∧
    (s.epochEffect).key.ring = s.key.ring ∧ (s.epochEffect).key.t0 = s.key.t0 ∧
    (s.epochEffect).key.opens = s.key.opens ∧ (s.epochEffect).key.edges = s.key.edges ∧
    (s.epochEffect).key.lastVerdict = s.key.lastVerdict ∧ (s.epochEffect).line.last = s.line.last ∧
    (s.epochEffect).line.lastBreak = s.line.lastBreak ∧ (s.epochEffect).line.notice = s.line.notice ∧
    (s.epochEffect).ctl.pendingWithdraw = s.ctl.pendingWithdraw ∧ (s.epochEffect).ctl.yieldDue = s.ctl.yieldDue ∧
    (s.epochEffect).ctl.faultReport = s.ctl.faultReport ∧ (s.epochEffect).ctl.copy = s.ctl.copy ∧
    (s.epochEffect).ctl.lastComparison = s.ctl.lastComparison ∧ (s.epochEffect).load = s.load ∧
    (s.epochEffect).maint.groupCount = s.maint.groupCount ∧
    (s.epochEffect).maint.rescueStretch = s.maint.rescueStretch ∧
    (s.epochEffect).maint.peerStretch = s.maint.peerStretch ∧ (s.epochEffect).maint.snapshot = s.maint.snapshot ∧
    (s.epochEffect).maint.lastCommand = s.maint.lastCommand ∧
    (s.epochEffect).maint.lastResult = s.maint.lastResult ∧
    (s.epochEffect).maint.nextRepetition = s.maint.nextRepetition ∧ (s.epochEffect).maint.shift = s.maint.shift ∧
    (s.epochEffect).maint.latched = s.maint.latched ∧ (s.epochEffect).maint.port = s.maint.port ∧
    (s.epochEffect).pending = s.pending := by
  simp [State.epochEffect]

/-- The frame of `State.leftActive`. -/
@[simp] theorem State.leftActive_frame (s : State) :
    (s.leftActive).tick = s.tick ∧ (s.leftActive).clk = s.clk ∧ (s.leftActive).timer = s.timer ∧
    (s.leftActive).ref = s.ref ∧ (s.leftActive).time = s.time ∧ (s.leftActive).schedule = s.schedule ∧
    (s.leftActive).frames = s.frames ∧ (s.leftActive).key.drive = s.key.drive ∧
    (s.leftActive).key.ring = s.key.ring ∧ (s.leftActive).key.level = s.key.level ∧
    (s.leftActive).key.t0 = s.key.t0 ∧ (s.leftActive).key.opens = s.key.opens ∧
    (s.leftActive).key.edges = s.key.edges ∧ (s.leftActive).key.lastVerdict = s.key.lastVerdict ∧
    (s.leftActive).line = s.line ∧ (s.leftActive).ctl.standing = s.ctl.standing ∧
    (s.leftActive).ctl.test = s.ctl.test ∧ (s.leftActive).ctl.pendingJoin = s.ctl.pendingJoin ∧
    (s.leftActive).ctl.silence = s.ctl.silence ∧ (s.leftActive).ctl.silenceFrom = s.ctl.silenceFrom ∧
    (s.leftActive).ctl.copy = s.ctl.copy ∧ (s.leftActive).ctl.floor = s.ctl.floor ∧
    (s.leftActive).ctl.lastComparison = s.ctl.lastComparison ∧ (s.leftActive).load = s.load ∧
    (s.leftActive).maint = s.maint ∧ (s.leftActive).pending = s.pending := by
  simp [State.leftActive, Keying.leftActive]

/-- The frame of `State.yieldExit`. -/
@[simp] theorem State.yieldExit_frame (dest : YieldTo) (s : State) :
    (s.yieldExit dest).tick = s.tick ∧ (s.yieldExit dest).clk = s.clk ∧ (s.yieldExit dest).timer = s.timer ∧
    (s.yieldExit dest).ref = s.ref ∧ (s.yieldExit dest).time = s.time ∧ (s.yieldExit dest).schedule = s.schedule ∧
    (s.yieldExit dest).frames = s.frames ∧ (s.yieldExit dest).key.drive = s.key.drive ∧
    (s.yieldExit dest).key.ring = s.key.ring ∧ (s.yieldExit dest).key.level = s.key.level ∧
    (s.yieldExit dest).key.t0 = s.key.t0 ∧ (s.yieldExit dest).key.opens = s.key.opens ∧
    (s.yieldExit dest).key.edges = s.key.edges ∧ (s.yieldExit dest).key.lastVerdict = s.key.lastVerdict ∧
    (s.yieldExit dest).line.last = s.line.last ∧ (s.yieldExit dest).line.lastBreak = s.line.lastBreak ∧
    (s.yieldExit dest).line.notice = s.line.notice ∧ (s.yieldExit dest).line.decoder = s.line.decoder ∧
    (s.yieldExit dest).ctl.test = s.ctl.test ∧ (s.yieldExit dest).ctl.copy = s.ctl.copy ∧
    (s.yieldExit dest).ctl.floor = s.ctl.floor ∧ (s.yieldExit dest).ctl.lastComparison = s.ctl.lastComparison ∧
    (s.yieldExit dest).load = s.load ∧ (s.yieldExit dest).maint.counters = s.maint.counters ∧
    (s.yieldExit dest).maint.groupCount = s.maint.groupCount ∧
    (s.yieldExit dest).maint.rescueStretch = s.maint.rescueStretch ∧
    (s.yieldExit dest).maint.peerStretch = s.maint.peerStretch ∧
    (s.yieldExit dest).maint.snapshot = s.maint.snapshot ∧
    (s.yieldExit dest).maint.lastCommand = s.maint.lastCommand ∧
    (s.yieldExit dest).maint.lastResult = s.maint.lastResult ∧
    (s.yieldExit dest).maint.nextRepetition = s.maint.nextRepetition ∧
    (s.yieldExit dest).maint.shift = s.maint.shift ∧
    (s.yieldExit dest).maint.latched = s.maint.latched ∧ (s.yieldExit dest).maint.port = s.maint.port ∧ (s.yieldExit dest).pending = s.pending := by
  unfold State.yieldExit
  repeat' split
  all_goals simp

/-- The frame of `State.activeExits`. -/
@[simp] theorem State.activeExits_frame (mark : Bool) (s : State) :
    (s.activeExits mark).tick = s.tick ∧ (s.activeExits mark).clk = s.clk ∧ (s.activeExits mark).timer = s.timer ∧
    (s.activeExits mark).ref = s.ref ∧ (s.activeExits mark).time = s.time ∧
    (s.activeExits mark).schedule = s.schedule ∧ (s.activeExits mark).frames = s.frames ∧
    (s.activeExits mark).key.drive = s.key.drive ∧ (s.activeExits mark).key.ring = s.key.ring ∧
    (s.activeExits mark).key.level = s.key.level ∧ (s.activeExits mark).key.t0 = s.key.t0 ∧
    (s.activeExits mark).key.opens = s.key.opens ∧ (s.activeExits mark).key.edges = s.key.edges ∧
    (s.activeExits mark).key.lastVerdict = s.key.lastVerdict ∧ (s.activeExits mark).line.last = s.line.last ∧
    (s.activeExits mark).line.lastBreak = s.line.lastBreak ∧ (s.activeExits mark).line.notice = s.line.notice ∧
    (s.activeExits mark).line.decoder = s.line.decoder ∧ (s.activeExits mark).ctl.test = s.ctl.test ∧
    (s.activeExits mark).ctl.copy = s.ctl.copy ∧ (s.activeExits mark).ctl.floor = s.ctl.floor ∧
    (s.activeExits mark).ctl.lastComparison = s.ctl.lastComparison ∧ (s.activeExits mark).load = s.load ∧
    (s.activeExits mark).maint.counters = s.maint.counters ∧
    (s.activeExits mark).maint.groupCount = s.maint.groupCount ∧
    (s.activeExits mark).maint.rescueStretch = s.maint.rescueStretch ∧
    (s.activeExits mark).maint.peerStretch = s.maint.peerStretch ∧
    (s.activeExits mark).maint.snapshot = s.maint.snapshot ∧
    (s.activeExits mark).maint.lastCommand = s.maint.lastCommand ∧
    (s.activeExits mark).maint.lastResult = s.maint.lastResult ∧
    (s.activeExits mark).maint.nextRepetition = s.maint.nextRepetition ∧
    (s.activeExits mark).maint.shift = s.maint.shift ∧
    (s.activeExits mark).maint.latched = s.maint.latched ∧ (s.activeExits mark).maint.port = s.maint.port ∧ (s.activeExits mark).pending = s.pending := by
  unfold State.activeExits
  repeat' split
  all_goals simp

/-- The frame of `State.standingAtDrive`. -/
@[simp] theorem State.standingAtDrive_frame (mark : Bool) (s : State) :
    (s.standingAtDrive mark).tick = s.tick ∧ (s.standingAtDrive mark).clk = s.clk ∧
    (s.standingAtDrive mark).timer = s.timer ∧ (s.standingAtDrive mark).ref = s.ref ∧
    (s.standingAtDrive mark).time = s.time ∧ (s.standingAtDrive mark).schedule = s.schedule ∧
    (s.standingAtDrive mark).frames = s.frames ∧ (s.standingAtDrive mark).key.drive = s.key.drive ∧
    (s.standingAtDrive mark).key.ring = s.key.ring ∧ (s.standingAtDrive mark).key.level = s.key.level ∧
    (s.standingAtDrive mark).key.t0 = s.key.t0 ∧ (s.standingAtDrive mark).key.opens = s.key.opens ∧
    (s.standingAtDrive mark).key.edges = s.key.edges ∧
    (s.standingAtDrive mark).key.lastVerdict = s.key.lastVerdict ∧
    (s.standingAtDrive mark).line.last = s.line.last ∧
    (s.standingAtDrive mark).line.lastBreak = s.line.lastBreak ∧
    (s.standingAtDrive mark).line.notice = s.line.notice ∧
    (s.standingAtDrive mark).line.decoder = s.line.decoder ∧ (s.standingAtDrive mark).ctl.test = s.ctl.test ∧
    (s.standingAtDrive mark).ctl.copy = s.ctl.copy ∧ (s.standingAtDrive mark).ctl.floor = s.ctl.floor ∧
    (s.standingAtDrive mark).ctl.lastComparison = s.ctl.lastComparison ∧ (s.standingAtDrive mark).load = s.load ∧
    (s.standingAtDrive mark).maint.counters = s.maint.counters ∧
    (s.standingAtDrive mark).maint.groupCount = s.maint.groupCount ∧
    (s.standingAtDrive mark).maint.rescueStretch = s.maint.rescueStretch ∧
    (s.standingAtDrive mark).maint.peerStretch = s.maint.peerStretch ∧
    (s.standingAtDrive mark).maint.snapshot = s.maint.snapshot ∧
    (s.standingAtDrive mark).maint.lastCommand = s.maint.lastCommand ∧
    (s.standingAtDrive mark).maint.lastResult = s.maint.lastResult ∧
    (s.standingAtDrive mark).maint.nextRepetition = s.maint.nextRepetition ∧
    (s.standingAtDrive mark).maint.shift = s.maint.shift ∧
    (s.standingAtDrive mark).maint.latched = s.maint.latched ∧ (s.standingAtDrive mark).maint.port = s.maint.port ∧ (s.standingAtDrive mark).pending = s.pending := by
  unfold State.standingAtDrive
  repeat' split
  all_goals simp

/-- The frame of `State.startTest`. -/
@[simp] theorem State.startTest_frame (mark : Bool) (s : State) :
    (s.startTest mark).tick = s.tick ∧ (s.startTest mark).clk = s.clk ∧ (s.startTest mark).timer = s.timer ∧
    (s.startTest mark).ref = s.ref ∧ (s.startTest mark).time = s.time ∧ (s.startTest mark).schedule = s.schedule ∧
    (s.startTest mark).frames = s.frames ∧ (s.startTest mark).key.drive = s.key.drive ∧
    (s.startTest mark).key.ring = s.key.ring ∧ (s.startTest mark).key.t0 = s.key.t0 ∧
    (s.startTest mark).key.opens = s.key.opens ∧ (s.startTest mark).key.edges = s.key.edges ∧
    (s.startTest mark).key.lastVerdict = s.key.lastVerdict ∧ (s.startTest mark).line.last = s.line.last ∧
    (s.startTest mark).line.candidate = s.line.candidate ∧ (s.startTest mark).line.lastBreak = s.line.lastBreak ∧
    (s.startTest mark).ctl.standing = s.ctl.standing ∧
    (s.startTest mark).ctl.pendingWithdraw = s.ctl.pendingWithdraw ∧
    (s.startTest mark).ctl.yieldDue = s.ctl.yieldDue ∧ (s.startTest mark).ctl.faultReport = s.ctl.faultReport ∧
    (s.startTest mark).ctl.pendingJoin = s.ctl.pendingJoin ∧ (s.startTest mark).ctl.silence = s.ctl.silence ∧
    (s.startTest mark).ctl.silenceFrom = s.ctl.silenceFrom ∧ (s.startTest mark).ctl.copy = s.ctl.copy ∧
    (s.startTest mark).ctl.floor = s.ctl.floor ∧ (s.startTest mark).ctl.lastComparison = s.ctl.lastComparison ∧
    (s.startTest mark).load = s.load ∧ (s.startTest mark).maint = s.maint ∧
    (s.startTest mark).pending = s.pending := by
  unfold State.startTest
  repeat' split
  all_goals simp

/-- The frame of `State.closeTest`. -/
@[simp] theorem State.closeTest_frame (mark : Bool) (s : State) :
    (s.closeTest mark).tick = s.tick ∧ (s.closeTest mark).clk = s.clk ∧ (s.closeTest mark).timer = s.timer ∧
    (s.closeTest mark).ref = s.ref ∧ (s.closeTest mark).time = s.time ∧ (s.closeTest mark).schedule = s.schedule ∧
    (s.closeTest mark).frames = s.frames ∧ (s.closeTest mark).key = s.key ∧ (s.closeTest mark).line = s.line ∧
    (s.closeTest mark).ctl.standing = s.ctl.standing ∧ (s.closeTest mark).ctl.pendingWithdraw = s.ctl.pendingWithdraw ∧
    (s.closeTest mark).ctl.yieldDue = s.ctl.yieldDue ∧ (s.closeTest mark).ctl.faultReport = s.ctl.faultReport ∧
    (s.closeTest mark).ctl.pendingJoin = s.ctl.pendingJoin ∧ (s.closeTest mark).ctl.silence = s.ctl.silence ∧
    (s.closeTest mark).ctl.silenceFrom = s.ctl.silenceFrom ∧ (s.closeTest mark).ctl.copy = s.ctl.copy ∧
    (s.closeTest mark).ctl.floor = s.ctl.floor ∧ (s.closeTest mark).ctl.lastComparison = s.ctl.lastComparison ∧
    (s.closeTest mark).ctl.test.state = s.ctl.test.state ∧ (s.closeTest mark).load = s.load ∧
    (s.closeTest mark).maint = s.maint ∧ (s.closeTest mark).pending = s.pending := by
  unfold State.closeTest
  split <;> simp

/-- The frame of `State.loopPull`. -/
@[simp] theorem State.loopPull_frame (s : State) :
    (s.loopPull).tick = s.tick ∧ (s.loopPull).clk = s.clk ∧ (s.loopPull).timer = s.timer ∧
    (s.loopPull).ref = s.ref ∧ (s.loopPull).time = s.time ∧ (s.loopPull).schedule = s.schedule ∧
    (s.loopPull).frames = s.frames ∧ (s.loopPull).key.drive = s.key.drive ∧ (s.loopPull).key.ring = s.key.ring ∧
    (s.loopPull).key.t0 = s.key.t0 ∧ (s.loopPull).key.opens = s.key.opens ∧ (s.loopPull).key.edges = s.key.edges ∧
    (s.loopPull).key.lastVerdict = s.key.lastVerdict ∧ (s.loopPull).line.last = s.line.last ∧
    (s.loopPull).line.candidate = s.line.candidate ∧ (s.loopPull).line.lastBreak = s.line.lastBreak ∧
    (s.loopPull).line.notice = s.line.notice ∧ (s.loopPull).line.decoder = s.line.decoder ∧
    (s.loopPull).ctl.standing = s.ctl.standing ∧ (s.loopPull).ctl.pendingWithdraw = s.ctl.pendingWithdraw ∧
    (s.loopPull).ctl.yieldDue = s.ctl.yieldDue ∧ (s.loopPull).ctl.faultReport = s.ctl.faultReport ∧
    (s.loopPull).ctl.pendingJoin = s.ctl.pendingJoin ∧ (s.loopPull).ctl.silence = s.ctl.silence ∧
    (s.loopPull).ctl.silenceFrom = s.ctl.silenceFrom ∧ (s.loopPull).ctl.copy = s.ctl.copy ∧
    (s.loopPull).ctl.floor = s.ctl.floor ∧ (s.loopPull).ctl.lastComparison = s.ctl.lastComparison ∧
    (s.loopPull).load = s.load ∧ (s.loopPull).maint = s.maint ∧ (s.loopPull).pending = s.pending := by
  simp [State.loopPull]

/-- The frame of `State.keySecond`. -/
@[simp] theorem State.keySecond_frame (mark : Bool) (index : Option Nat) (s : State) :
    (s.keySecond mark index).tick = s.tick ∧ (s.keySecond mark index).clk = s.clk ∧
    (s.keySecond mark index).timer.monitor = s.timer.monitor ∧ (s.keySecond mark index).timer.f = s.timer.f ∧
    (s.keySecond mark index).timer.a = s.timer.a ∧ (s.keySecond mark index).timer.nextEpoch = s.timer.nextEpoch ∧
    (s.keySecond mark index).timer.past = s.timer.past ∧ (s.keySecond mark index).ref = s.ref ∧
    (s.keySecond mark index).time = s.time ∧ (s.keySecond mark index).schedule = s.schedule ∧
    (s.keySecond mark index).frames = s.frames ∧ (s.keySecond mark index).key.ring = s.key.ring ∧
    (s.keySecond mark index).key.level = s.key.level ∧ (s.keySecond mark index).key.edges = s.key.edges ∧
    (s.keySecond mark index).key.lastVerdict = s.key.lastVerdict ∧ (s.keySecond mark index).line = s.line ∧
    (s.keySecond mark index).ctl = s.ctl ∧ (s.keySecond mark index).load = s.load ∧
    (s.keySecond mark index).maint = s.maint ∧ (s.keySecond mark index).pending = s.pending := by
  simp [State.keySecond]

/-- The frame of `State.swapIf`. -/
@[simp] theorem State.swapIf_frame (mark : Bool) (s : State) :
    (s.swapIf mark).tick = s.tick ∧ (s.swapIf mark).clk = s.clk ∧ (s.swapIf mark).timer = s.timer ∧
    (s.swapIf mark).ref = s.ref ∧ (s.swapIf mark).time = s.time ∧ (s.swapIf mark).key.drive = s.key.drive ∧
    (s.swapIf mark).key.ring = s.key.ring ∧ (s.swapIf mark).key.level = s.key.level ∧
    (s.swapIf mark).key.t0 = s.key.t0 ∧ (s.swapIf mark).key.opens = s.key.opens ∧
    (s.swapIf mark).key.edges = s.key.edges ∧ (s.swapIf mark).key.lastVerdict = s.key.lastVerdict ∧
    (s.swapIf mark).line = s.line ∧ (s.swapIf mark).ctl.standing = s.ctl.standing ∧
    (s.swapIf mark).ctl.test = s.ctl.test ∧ (s.swapIf mark).ctl.pendingWithdraw = s.ctl.pendingWithdraw ∧
    (s.swapIf mark).ctl.yieldDue = s.ctl.yieldDue ∧ (s.swapIf mark).ctl.faultReport = s.ctl.faultReport ∧
    (s.swapIf mark).ctl.pendingJoin = s.ctl.pendingJoin ∧ (s.swapIf mark).ctl.silence = s.ctl.silence ∧
    (s.swapIf mark).ctl.silenceFrom = s.ctl.silenceFrom ∧ (s.swapIf mark).ctl.floor = s.ctl.floor ∧
    (s.swapIf mark).ctl.lastComparison = s.ctl.lastComparison ∧ (s.swapIf mark).load = s.load ∧
    (s.swapIf mark).maint = s.maint ∧ (s.swapIf mark).pending = s.pending := by
  unfold State.swapIf
  repeat' split
  all_goals simp

/-- The frame of `State.loopSecond`. -/
@[simp] theorem State.loopSecond_frame (s : State) :
    (s.loopSecond).tick = s.tick ∧ (s.loopSecond).clk = s.clk ∧ (s.loopSecond).timer = s.timer ∧
    (s.loopSecond).ref = s.ref ∧ (s.loopSecond).time = s.time ∧ (s.loopSecond).schedule = s.schedule ∧
    (s.loopSecond).frames = s.frames ∧ (s.loopSecond).key.drive = s.key.drive ∧
    (s.loopSecond).key.ring = s.key.ring ∧ (s.loopSecond).key.t0 = s.key.t0 ∧
    (s.loopSecond).key.opens = s.key.opens ∧ (s.loopSecond).key.edges = s.key.edges ∧
    (s.loopSecond).key.lastVerdict = s.key.lastVerdict ∧ (s.loopSecond).line.last = s.line.last ∧
    (s.loopSecond).line.candidate = s.line.candidate ∧ (s.loopSecond).line.lastBreak = s.line.lastBreak ∧
    (s.loopSecond).line.notice = s.line.notice ∧ (s.loopSecond).line.decoder = s.line.decoder ∧
    (s.loopSecond).ctl.standing = s.ctl.standing ∧ (s.loopSecond).ctl.pendingWithdraw = s.ctl.pendingWithdraw ∧
    (s.loopSecond).ctl.yieldDue = s.ctl.yieldDue ∧ (s.loopSecond).ctl.faultReport = s.ctl.faultReport ∧
    (s.loopSecond).ctl.pendingJoin = s.ctl.pendingJoin ∧ (s.loopSecond).ctl.silence = s.ctl.silence ∧
    (s.loopSecond).ctl.silenceFrom = s.ctl.silenceFrom ∧ (s.loopSecond).ctl.copy = s.ctl.copy ∧
    (s.loopSecond).ctl.floor = s.ctl.floor ∧ (s.loopSecond).ctl.lastComparison = s.ctl.lastComparison ∧
    (s.loopSecond).load = s.load ∧ (s.loopSecond).maint = s.maint ∧ (s.loopSecond).pending = s.pending := by
  unfold State.loopSecond
  repeat' split
  all_goals simp

/-- The frame of `State.driveEffect`. -/
@[simp] theorem State.driveEffect_frame (s : State) :
    (s.driveEffect).tick = s.tick ∧ (s.driveEffect).clk = s.clk ∧
    (s.driveEffect).timer.monitor = s.timer.monitor ∧ (s.driveEffect).timer.f = s.timer.f ∧
    (s.driveEffect).timer.a = s.timer.a ∧ (s.driveEffect).timer.nextEpoch = s.timer.nextEpoch ∧
    (s.driveEffect).timer.past = s.timer.past ∧ (s.driveEffect).ref = s.ref ∧ (s.driveEffect).time = s.time ∧
    (s.driveEffect).key.ring = s.key.ring ∧ (s.driveEffect).key.edges = s.key.edges ∧
    (s.driveEffect).key.lastVerdict = s.key.lastVerdict ∧ (s.driveEffect).line.last = s.line.last ∧
    (s.driveEffect).line.lastBreak = s.line.lastBreak ∧ (s.driveEffect).ctl.floor = s.ctl.floor ∧
    (s.driveEffect).ctl.lastComparison = s.ctl.lastComparison ∧ (s.driveEffect).load = s.load ∧
    (s.driveEffect).maint.counters = s.maint.counters ∧ (s.driveEffect).maint.groupCount = s.maint.groupCount ∧
    (s.driveEffect).maint.rescueStretch = s.maint.rescueStretch ∧
    (s.driveEffect).maint.peerStretch = s.maint.peerStretch ∧ (s.driveEffect).maint.snapshot = s.maint.snapshot ∧
    (s.driveEffect).maint.lastCommand = s.maint.lastCommand ∧
    (s.driveEffect).maint.lastResult = s.maint.lastResult ∧
    (s.driveEffect).maint.nextRepetition = s.maint.nextRepetition ∧ (s.driveEffect).maint.shift = s.maint.shift ∧
    (s.driveEffect).maint.latched = s.maint.latched ∧ (s.driveEffect).maint.port = s.maint.port ∧
    (s.driveEffect).pending = s.pending := by
  simp [State.driveEffect]

@[simp] theorem State.swapIf_false (s : State) : s.swapIf false = s := rfl
@[simp] theorem State.swapIf_true (s : State) : s.swapIf true = s.frameSwap := rfl
@[simp] theorem State.closeTest_false (s : State) : s.closeTest false = s := by simp [State.closeTest]
@[simp] theorem State.startTest_false (s : State) : s.startTest false = s := by simp [State.startTest]

/-- A drive instant within a frame (R91, R96). -/
theorem State.driveEffect_within {s : State} (h : s.swapDue = false) :
    s.driveEffect = ((s.standingAtDrive false).keySecond false (s.indexAt s.comingCount)).loopSecond := by
  simp [State.driveEffect, h]

/-- A drive instant at which the swap comes after the incoming frame's MARK (R91, notes/assumptions/34.md). -/
theorem State.driveEffect_late {s : State} (h : s.swapDue = true) (late : s.frameSwap.beginsFrame s.comingCount = false) :
    s.driveEffect =
      ((s.frameSwap.standingAtDrive false).keySecond false (s.frameSwap.indexAt s.comingCount)).loopSecond := by
  simp [State.driveEffect, h, late]

/-- A MARK drive instant (R90, R96). -/
theorem State.driveEffect_mark {s : State} (h : s.swapDue = true) (begins : s.frameSwap.beginsFrame s.comingCount = true) :
    s.driveEffect =
      ((((s.frameSwap.standingAtDrive true).closeTest true).startTest true).keySecond true
        (s.frameSwap.indexAt s.comingCount)).loopSecond := by
  simp [State.driveEffect, h, begins]

/-- The frame of `State.firstEpoch`. -/
@[simp] theorem State.firstEpoch_frame (s : State) :
    (s.firstEpoch).tick = s.tick ∧ (s.firstEpoch).clk = s.clk ∧ (s.firstEpoch).ref = s.ref ∧
    (s.firstEpoch).time = s.time ∧ (s.firstEpoch).schedule = s.schedule ∧ (s.firstEpoch).frames = s.frames ∧
    (s.firstEpoch).key = s.key ∧ (s.firstEpoch).line = s.line ∧ (s.firstEpoch).ctl = s.ctl ∧
    (s.firstEpoch).load = s.load ∧ (s.firstEpoch).maint = s.maint ∧ (s.firstEpoch).pending = s.pending := by
  simp [State.firstEpoch]

/-- The frame of `State.standingAtUp`. -/
@[simp] theorem State.standingAtUp_frame (s : State) :
    (s.standingAtUp).tick = s.tick ∧ (s.standingAtUp).clk = s.clk ∧ (s.standingAtUp).timer = s.timer ∧
    (s.standingAtUp).ref = s.ref ∧ (s.standingAtUp).time = s.time ∧ (s.standingAtUp).schedule = s.schedule ∧
    (s.standingAtUp).frames = s.frames ∧ (s.standingAtUp).key = s.key ∧ (s.standingAtUp).line.last = s.line.last ∧
    (s.standingAtUp).line.lastBreak = s.line.lastBreak ∧ (s.standingAtUp).line.notice = s.line.notice ∧
    (s.standingAtUp).line.decoder = s.line.decoder ∧ (s.standingAtUp).ctl.test = s.ctl.test ∧
    (s.standingAtUp).ctl.pendingWithdraw = s.ctl.pendingWithdraw ∧
    (s.standingAtUp).ctl.yieldDue = s.ctl.yieldDue ∧ (s.standingAtUp).ctl.faultReport = s.ctl.faultReport ∧
    (s.standingAtUp).ctl.copy = s.ctl.copy ∧ (s.standingAtUp).ctl.floor = s.ctl.floor ∧
    (s.standingAtUp).ctl.lastComparison = s.ctl.lastComparison ∧ (s.standingAtUp).load = s.load ∧
    (s.standingAtUp).maint = s.maint ∧ (s.standingAtUp).pending = s.pending := by
  unfold State.standingAtUp
  repeat' split
  all_goals simp

/-- The frame of `State.monitorUpEffect`. -/
@[simp] theorem State.monitorUpEffect_frame (s : State) :
    (s.monitorUpEffect).tick = s.tick ∧ (s.monitorUpEffect).clk = s.clk ∧ (s.monitorUpEffect).ref = s.ref ∧
    (s.monitorUpEffect).time = s.time ∧ (s.monitorUpEffect).schedule = s.schedule ∧
    (s.monitorUpEffect).frames = s.frames ∧
    (s.monitorUpEffect).key = { s.key with level := none, levelFrom := some s.tick, run := none } ∧
    (s.monitorUpEffect).line.last = s.line.last ∧ (s.monitorUpEffect).line.lastBreak = s.line.lastBreak ∧
    (s.monitorUpEffect).line.notice = s.line.notice ∧ (s.monitorUpEffect).ctl.test = s.ctl.test ∧
    (s.monitorUpEffect).ctl.pendingWithdraw = s.ctl.pendingWithdraw ∧
    (s.monitorUpEffect).ctl.yieldDue = s.ctl.yieldDue ∧ (s.monitorUpEffect).ctl.faultReport = s.ctl.faultReport ∧
    (s.monitorUpEffect).ctl.copy = s.ctl.copy ∧ (s.monitorUpEffect).ctl.floor = s.ctl.floor ∧
    (s.monitorUpEffect).ctl.lastComparison = s.ctl.lastComparison ∧ (s.monitorUpEffect).load = s.load ∧
    (s.monitorUpEffect).maint = s.maint ∧ (s.monitorUpEffect).pending = s.pending := by
  simp [State.monitorUpEffect]

/-- The frame of `State.lossEffect`. -/
@[simp] theorem State.lossEffect_frame (s : State) :
    (s.lossEffect).tick = s.tick ∧ (s.lossEffect).clk = s.clk ∧
    (s.lossEffect).frames.rebuilds = s.frames.rebuilds ∧ (s.lossEffect).load = s.load ∧
    (s.lossEffect).maint.counters = s.maint.counters ∧ (s.lossEffect).maint.groupCount = s.maint.groupCount ∧
    (s.lossEffect).maint.rescueStretch = s.maint.rescueStretch ∧
    (s.lossEffect).maint.peerStretch = s.maint.peerStretch ∧ (s.lossEffect).maint.snapshot = s.maint.snapshot ∧
    (s.lossEffect).maint.lastCommand = s.maint.lastCommand ∧
    (s.lossEffect).maint.lastResult = s.maint.lastResult ∧
    (s.lossEffect).maint.nextRepetition = s.maint.nextRepetition ∧ (s.lossEffect).maint.shift = s.maint.shift ∧
    (s.lossEffect).maint.latched = s.maint.latched ∧ (s.lossEffect).maint.port = s.maint.port ∧
    (s.lossEffect).pending = s.pending := by
  simp [State.lossEffect]

end Sys2Proof.Machine
end

