-- ==== Sys2Proof/Laws/FrameMaintenance.lean ====
section
/-!
SUPPORT. Frames of the loader, the port and the status stream: for each operation, one lemma that names every block of the state it leaves as it is, and in the
blocks it does change, the fields it leaves.
-/

namespace Sys2Proof.Machine

/-- The frame of `State.afterReset`. -/
@[simp] theorem State.afterReset_frame (s : State) :
    (s.afterReset).tick = s.tick ∧ (s.afterReset).clk = s.clk ∧ (s.afterReset).pending = s.pending := by
  simp [State.afterReset]

/-- The frame of `State.resetEndEffect`. -/
@[simp] theorem State.resetEndEffect_frame (slot1 slot0 : Bool) (s : State) :
    (s.resetEndEffect slot1 slot0).tick = s.tick ∧ (s.resetEndEffect slot1 slot0).clk = s.clk ∧
    (s.resetEndEffect slot1 slot0).timer.monitor = s.timer.monitor ∧
    (s.resetEndEffect slot1 slot0).timer.f = s.timer.f ∧ (s.resetEndEffect slot1 slot0).timer.a = s.timer.a ∧
    (s.resetEndEffect slot1 slot0).timer.driveTaken = s.timer.driveTaken ∧
    (s.resetEndEffect slot1 slot0).timer.nextEpoch = s.timer.nextEpoch ∧
    (s.resetEndEffect slot1 slot0).timer.past = s.timer.past ∧ (s.resetEndEffect slot1 slot0).ref = s.ref ∧
    (s.resetEndEffect slot1 slot0).time = s.time ∧ (s.resetEndEffect slot1 slot0).schedule = s.schedule ∧
    (s.resetEndEffect slot1 slot0).frames = s.frames ∧ (s.resetEndEffect slot1 slot0).key = s.key ∧
    (s.resetEndEffect slot1 slot0).line = s.line ∧ (s.resetEndEffect slot1 slot0).ctl = s.ctl ∧
    (s.resetEndEffect slot1 slot0).load.params = s.load.params ∧
    (s.resetEndEffect slot1 slot0).load.staging = s.load.staging ∧
    (s.resetEndEffect slot1 slot0).maint = s.maint ∧ (s.resetEndEffect slot1 slot0).pending = s.pending := by
  simp [State.resetEndEffect]

/-- The frame of `State.endRead`. -/
@[simp] theorem State.endRead_frame (phase : LoadPhase) (result : LoadResult) (staging : Staging) (clamp : Bool) (s : State) :
    (s.endRead phase result staging clamp).tick = s.tick ∧ (s.endRead phase result staging clamp).clk = s.clk ∧
    (s.endRead phase result staging clamp).timer = s.timer ∧ (s.endRead phase result staging clamp).ref = s.ref ∧
    (s.endRead phase result staging clamp).time = s.time ∧
    (s.endRead phase result staging clamp).schedule = s.schedule ∧
    (s.endRead phase result staging clamp).frames = s.frames ∧
    (s.endRead phase result staging clamp).key = s.key ∧ (s.endRead phase result staging clamp).line = s.line ∧
    (s.endRead phase result staging clamp).ctl = s.ctl ∧
    (s.endRead phase result staging clamp).load.params = s.load.params ∧
    (s.endRead phase result staging clamp).load.slot = s.load.slot ∧
    (s.endRead phase result staging clamp).maint = s.maint ∧
    (s.endRead phase result staging clamp).pending = s.pending := by
  simp [State.endRead]

/-- The frame of `State.failLoad`. -/
@[simp] theorem State.failLoad_frame (result : LoadResult) (clamp : Bool) (s : State) :
    (s.failLoad result clamp).tick = s.tick ∧ (s.failLoad result clamp).clk = s.clk ∧
    (s.failLoad result clamp).timer = s.timer ∧ (s.failLoad result clamp).ref = s.ref ∧
    (s.failLoad result clamp).time = s.time ∧ (s.failLoad result clamp).schedule = s.schedule ∧
    (s.failLoad result clamp).frames = s.frames ∧ (s.failLoad result clamp).key = s.key ∧
    (s.failLoad result clamp).line = s.line ∧ (s.failLoad result clamp).ctl = s.ctl ∧
    (s.failLoad result clamp).load.params = s.load.params ∧ (s.failLoad result clamp).load.slot = s.load.slot ∧
    (s.failLoad result clamp).maint = s.maint ∧ (s.failLoad result clamp).pending = s.pending := by
  simp [State.failLoad]

/-- The frame of `State.headerEffect`. -/
@[simp] theorem State.headerEffect_frame (header : List Byte) (s : State) :
    (s.headerEffect header).tick = s.tick ∧ (s.headerEffect header).clk = s.clk ∧
    (s.headerEffect header).timer = s.timer ∧ (s.headerEffect header).ref = s.ref ∧
    (s.headerEffect header).time = s.time ∧ (s.headerEffect header).schedule = s.schedule ∧
    (s.headerEffect header).frames = s.frames ∧ (s.headerEffect header).key = s.key ∧
    (s.headerEffect header).line = s.line ∧ (s.headerEffect header).ctl = s.ctl ∧
    (s.headerEffect header).load.params = s.load.params ∧ (s.headerEffect header).load.slot = s.load.slot ∧
    (s.headerEffect header).maint = s.maint ∧ (s.headerEffect header).pending = s.pending := by
  unfold State.headerEffect
  repeat' split
  all_goals simp

/-- The frame of `State.walkEffect`. -/
@[simp] theorem State.walkEffect_frame (image : List Byte) (s : State) :
    (s.walkEffect image).tick = s.tick ∧ (s.walkEffect image).clk = s.clk ∧ (s.walkEffect image).timer = s.timer ∧
    (s.walkEffect image).ref = s.ref ∧ (s.walkEffect image).time = s.time ∧
    (s.walkEffect image).schedule = s.schedule ∧ (s.walkEffect image).frames = s.frames ∧
    (s.walkEffect image).key = s.key ∧ (s.walkEffect image).line = s.line ∧ (s.walkEffect image).ctl = s.ctl ∧
    (s.walkEffect image).load.params = s.load.params ∧ (s.walkEffect image).load.slot = s.load.slot ∧
    (s.walkEffect image).maint = s.maint ∧ (s.walkEffect image).pending = s.pending := by
  unfold State.walkEffect; dsimp only
  repeat' split
  all_goals simp

/-- The frame of `State.readEndEffect`. -/
@[simp] theorem State.readEndEffect_frame (rest : List Byte) (s : State) :
    (s.readEndEffect rest).tick = s.tick ∧ (s.readEndEffect rest).clk = s.clk ∧
    (s.readEndEffect rest).timer = s.timer ∧ (s.readEndEffect rest).ref = s.ref ∧
    (s.readEndEffect rest).time = s.time ∧ (s.readEndEffect rest).schedule = s.schedule ∧
    (s.readEndEffect rest).frames = s.frames ∧ (s.readEndEffect rest).key = s.key ∧
    (s.readEndEffect rest).line = s.line ∧ (s.readEndEffect rest).ctl = s.ctl ∧
    (s.readEndEffect rest).load.params = s.load.params ∧ (s.readEndEffect rest).load.slot = s.load.slot ∧
    (s.readEndEffect rest).maint = s.maint ∧ (s.readEndEffect rest).pending = s.pending := by
  simp [State.readEndEffect]

/-- The frame of `State.redrive`. -/
@[simp] theorem State.redrive_frame (s : State) :
    (s.redrive).tick = s.tick ∧ (s.redrive).clk = s.clk ∧ (s.redrive).timer.monitor = s.timer.monitor ∧
    (s.redrive).timer.f = s.timer.f ∧ (s.redrive).timer.a = s.timer.a ∧
    (s.redrive).timer.driveTaken = s.timer.driveTaken ∧ (s.redrive).timer.nextEpoch = s.timer.nextEpoch ∧
    (s.redrive).timer.past = s.timer.past ∧ (s.redrive).ref = s.ref ∧ (s.redrive).time = s.time ∧
    (s.redrive).schedule = s.schedule ∧ (s.redrive).frames = s.frames ∧ (s.redrive).key = s.key ∧
    (s.redrive).line = s.line ∧ (s.redrive).ctl = s.ctl ∧ (s.redrive).load = s.load ∧
    (s.redrive).maint = s.maint ∧ (s.redrive).pending = s.pending := by
  unfold State.redrive
  repeat' split
  all_goals simp

/-- The frame of `State.takeParams`. -/
@[simp] theorem State.takeParams_frame (s : State) :
    (s.takeParams).tick = s.tick ∧ (s.takeParams).clk = s.clk ∧ (s.takeParams).timer.monitor = s.timer.monitor ∧
    (s.takeParams).timer.a = s.timer.a ∧ (s.takeParams).timer.driveTaken = s.timer.driveTaken ∧
    (s.takeParams).timer.nextEpoch = s.timer.nextEpoch ∧ (s.takeParams).timer.past = s.timer.past ∧
    (s.takeParams).ref = s.ref ∧ (s.takeParams).time = s.time ∧ (s.takeParams).schedule = s.schedule ∧
    (s.takeParams).frames = s.frames ∧ (s.takeParams).key = s.key ∧ (s.takeParams).line = s.line ∧
    (s.takeParams).ctl = s.ctl ∧ (s.takeParams).maint = s.maint ∧ (s.takeParams).pending = s.pending := by
  simp [State.takeParams]

/-- The frame of `State.offsetAtLoad`. -/
@[simp] theorem State.offsetAtLoad_frame (s : State) :
    (s.offsetAtLoad).tick = s.tick ∧ (s.offsetAtLoad).clk = s.clk ∧ (s.offsetAtLoad).timer = s.timer ∧
    (s.offsetAtLoad).ref = s.ref ∧ (s.offsetAtLoad).time.n = s.time.n ∧
    (s.offsetAtLoad).time.origin = s.time.origin ∧ (s.offsetAtLoad).time.age = s.time.age ∧
    (s.offsetAtLoad).time.rangeEnding = s.time.rangeEnding ∧
    (s.offsetAtLoad).time.pendingSet = s.time.pendingSet ∧
    (s.offsetAtLoad).time.pendingReset = s.time.pendingReset ∧ (s.offsetAtLoad).time.leap60 = s.time.leap60 ∧
    (s.offsetAtLoad).frames.rebuilds = s.frames.rebuilds ∧ (s.offsetAtLoad).key.drive = s.key.drive ∧
    (s.offsetAtLoad).key.ring = s.key.ring ∧ (s.offsetAtLoad).key.level = s.key.level ∧
    (s.offsetAtLoad).key.t0 = s.key.t0 ∧ (s.offsetAtLoad).key.opens = s.key.opens ∧
    (s.offsetAtLoad).key.edges = s.key.edges ∧ (s.offsetAtLoad).key.lastVerdict = s.key.lastVerdict ∧
    (s.offsetAtLoad).line = s.line ∧ (s.offsetAtLoad).ctl = s.ctl ∧ (s.offsetAtLoad).load = s.load ∧
    (s.offsetAtLoad).maint.groupCount = s.maint.groupCount ∧
    (s.offsetAtLoad).maint.rescueStretch = s.maint.rescueStretch ∧
    (s.offsetAtLoad).maint.peerStretch = s.maint.peerStretch ∧
    (s.offsetAtLoad).maint.snapshot = s.maint.snapshot ∧
    (s.offsetAtLoad).maint.lastCommand = s.maint.lastCommand ∧
    (s.offsetAtLoad).maint.lastResult = s.maint.lastResult ∧
    (s.offsetAtLoad).maint.nextRepetition = s.maint.nextRepetition ∧
    (s.offsetAtLoad).maint.shift = s.maint.shift ∧
    (s.offsetAtLoad).maint.latched = s.maint.latched ∧ (s.offsetAtLoad).maint.port = s.maint.port ∧ (s.offsetAtLoad).pending = s.pending := by
  unfold State.offsetAtLoad
  repeat' split
  all_goals simp

/-- The frame of `State.raiseConfig`. -/
@[simp] theorem State.raiseConfig_frame (s : State) :
    (s.raiseConfig).tick = s.tick ∧ (s.raiseConfig).clk = s.clk ∧ (s.raiseConfig).timer = s.timer ∧
    (s.raiseConfig).ref = s.ref ∧ (s.raiseConfig).time = s.time ∧ (s.raiseConfig).schedule = s.schedule ∧
    (s.raiseConfig).frames = s.frames ∧ (s.raiseConfig).key = s.key ∧ (s.raiseConfig).line = s.line ∧
    (s.raiseConfig).ctl = s.ctl ∧ (s.raiseConfig).load = s.load ∧
    (s.raiseConfig).maint.counters = s.maint.counters ∧ (s.raiseConfig).maint.groupCount = s.maint.groupCount ∧
    (s.raiseConfig).maint.rescueStretch = s.maint.rescueStretch ∧
    (s.raiseConfig).maint.peerStretch = s.maint.peerStretch ∧ (s.raiseConfig).maint.snapshot = s.maint.snapshot ∧
    (s.raiseConfig).maint.lastCommand = s.maint.lastCommand ∧
    (s.raiseConfig).maint.lastResult = s.maint.lastResult ∧
    (s.raiseConfig).maint.nextRepetition = s.maint.nextRepetition ∧ (s.raiseConfig).maint.shift = s.maint.shift ∧
    (s.raiseConfig).maint.latched = s.maint.latched ∧ (s.raiseConfig).maint.port = s.maint.port ∧
    (s.raiseConfig).pending = s.pending := by
  unfold State.raiseConfig
  repeat' split
  all_goals simp

/-- The frame of `State.surveyAtLoad`. -/
@[simp] theorem State.surveyAtLoad_frame (s : State) :
    (s.surveyAtLoad).tick = s.tick ∧ (s.surveyAtLoad).clk = s.clk ∧ (s.surveyAtLoad).timer = s.timer ∧
    (s.surveyAtLoad).ref = s.ref ∧ (s.surveyAtLoad).time = s.time ∧ (s.surveyAtLoad).schedule = s.schedule ∧
    (s.surveyAtLoad).frames = s.frames ∧ (s.surveyAtLoad).key = s.key ∧ (s.surveyAtLoad).line.last = s.line.last ∧
    (s.surveyAtLoad).line.lastBreak = s.line.lastBreak ∧ (s.surveyAtLoad).line.notice = s.line.notice ∧
    (s.surveyAtLoad).ctl.test = s.ctl.test ∧ (s.surveyAtLoad).ctl.pendingWithdraw = s.ctl.pendingWithdraw ∧
    (s.surveyAtLoad).ctl.yieldDue = s.ctl.yieldDue ∧ (s.surveyAtLoad).ctl.faultReport = s.ctl.faultReport ∧
    (s.surveyAtLoad).ctl.copy = s.ctl.copy ∧ (s.surveyAtLoad).ctl.floor = s.ctl.floor ∧
    (s.surveyAtLoad).ctl.lastComparison = s.ctl.lastComparison ∧ (s.surveyAtLoad).load = s.load ∧
    (s.surveyAtLoad).maint = s.maint ∧ (s.surveyAtLoad).pending = s.pending := by
  unfold State.surveyAtLoad
  repeat' split
  all_goals simp

/-- The frame of `State.judgeAlert`. -/
@[simp] theorem State.judgeAlert_frame (s : State) :
    (s.judgeAlert).tick = s.tick ∧ (s.judgeAlert).clk = s.clk ∧ (s.judgeAlert).timer = s.timer ∧
    (s.judgeAlert).ref = s.ref ∧ (s.judgeAlert).time = s.time ∧ (s.judgeAlert).schedule = s.schedule ∧
    (s.judgeAlert).frames = s.frames ∧ (s.judgeAlert).key = s.key ∧ (s.judgeAlert).line = s.line ∧
    (s.judgeAlert).ctl = s.ctl ∧ (s.judgeAlert).load = s.load ∧ (s.judgeAlert).maint.counters = s.maint.counters ∧
    (s.judgeAlert).maint.alarms = s.maint.alarms ∧ (s.judgeAlert).maint.raisings = s.maint.raisings ∧
    (s.judgeAlert).maint.alertFrom = s.maint.alertFrom ∧ (s.judgeAlert).maint.groupCount = s.maint.groupCount ∧
    (s.judgeAlert).maint.rescueStretch = s.maint.rescueStretch ∧
    (s.judgeAlert).maint.peerStretch = s.maint.peerStretch ∧ (s.judgeAlert).maint.snapshot = s.maint.snapshot ∧
    (s.judgeAlert).maint.lastCommand = s.maint.lastCommand ∧
    (s.judgeAlert).maint.lastResult = s.maint.lastResult ∧
    (s.judgeAlert).maint.nextRepetition = s.maint.nextRepetition ∧ (s.judgeAlert).maint.shift = s.maint.shift ∧
    (s.judgeAlert).maint.latched = s.maint.latched ∧ (s.judgeAlert).maint.port = s.maint.port ∧
    (s.judgeAlert).pending = s.pending := by
  simp [State.judgeAlert]

/-- The frame of `State.serveAtLoad`. -/
@[simp] theorem State.serveAtLoad_frame (s : State) :
    (s.serveAtLoad).tick = s.tick ∧ (s.serveAtLoad).clk = s.clk ∧ (s.serveAtLoad).timer = s.timer ∧
    (s.serveAtLoad).ref = s.ref ∧ (s.serveAtLoad).time = s.time ∧ (s.serveAtLoad).schedule = s.schedule ∧
    (s.serveAtLoad).frames = s.frames ∧ (s.serveAtLoad).key = s.key ∧ (s.serveAtLoad).line = s.line ∧
    (s.serveAtLoad).ctl = s.ctl ∧ (s.serveAtLoad).load = s.load ∧
    (s.serveAtLoad).maint.counters = s.maint.counters ∧ (s.serveAtLoad).maint.alarms = s.maint.alarms ∧
    (s.serveAtLoad).maint.raisings = s.maint.raisings ∧ (s.serveAtLoad).maint.alertFrom = s.maint.alertFrom ∧
    (s.serveAtLoad).maint.groupCount = s.maint.groupCount ∧
    (s.serveAtLoad).maint.rescueStretch = s.maint.rescueStretch ∧
    (s.serveAtLoad).maint.peerStretch = s.maint.peerStretch ∧ (s.serveAtLoad).maint.snapshot = s.maint.snapshot ∧
    (s.serveAtLoad).maint.lastCommand = s.maint.lastCommand ∧
    (s.serveAtLoad).maint.lastResult = s.maint.lastResult ∧ (s.serveAtLoad).maint.shift = s.maint.shift ∧
    (s.serveAtLoad).maint.latched = s.maint.latched ∧ (s.serveAtLoad).maint.port = s.maint.port ∧
    (s.serveAtLoad).pending = s.pending := by
  simp [State.serveAtLoad]

/-- The frame of `State.completeEffect`. -/
@[simp] theorem State.completeEffect_frame (s : State) :
    (s.completeEffect).tick = s.tick ∧ (s.completeEffect).clk = s.clk ∧
    (s.completeEffect).timer.monitor = s.timer.monitor ∧ (s.completeEffect).timer.a = s.timer.a ∧
    (s.completeEffect).timer.driveTaken = s.timer.driveTaken ∧
    (s.completeEffect).timer.nextEpoch = s.timer.nextEpoch ∧ (s.completeEffect).timer.past = s.timer.past ∧
    (s.completeEffect).ref = s.ref ∧ (s.completeEffect).time.n = s.time.n ∧
    (s.completeEffect).time.origin = s.time.origin ∧ (s.completeEffect).time.age = s.time.age ∧
    (s.completeEffect).time.rangeEnding = s.time.rangeEnding ∧
    (s.completeEffect).time.pendingSet = s.time.pendingSet ∧
    (s.completeEffect).time.pendingReset = s.time.pendingReset ∧ (s.completeEffect).time.leap60 = s.time.leap60 ∧
    (s.completeEffect).frames.rebuilds = s.frames.rebuilds ∧ (s.completeEffect).key.drive = s.key.drive ∧
    (s.completeEffect).key.ring = s.key.ring ∧ (s.completeEffect).key.level = s.key.level ∧
    (s.completeEffect).key.t0 = s.key.t0 ∧ (s.completeEffect).key.opens = s.key.opens ∧
    (s.completeEffect).key.edges = s.key.edges ∧ (s.completeEffect).key.lastVerdict = s.key.lastVerdict ∧
    (s.completeEffect).line.last = s.line.last ∧ (s.completeEffect).line.lastBreak = s.line.lastBreak ∧
    (s.completeEffect).line.notice = s.line.notice ∧ (s.completeEffect).ctl.test = s.ctl.test ∧
    (s.completeEffect).ctl.pendingWithdraw = s.ctl.pendingWithdraw ∧
    (s.completeEffect).ctl.yieldDue = s.ctl.yieldDue ∧ (s.completeEffect).ctl.faultReport = s.ctl.faultReport ∧
    (s.completeEffect).ctl.copy = s.ctl.copy ∧ (s.completeEffect).ctl.floor = s.ctl.floor ∧
    (s.completeEffect).ctl.lastComparison = s.ctl.lastComparison ∧
    (s.completeEffect).maint.groupCount = s.maint.groupCount ∧
    (s.completeEffect).maint.rescueStretch = s.maint.rescueStretch ∧
    (s.completeEffect).maint.peerStretch = s.maint.peerStretch ∧
    (s.completeEffect).maint.snapshot = s.maint.snapshot ∧
    (s.completeEffect).maint.lastCommand = s.maint.lastCommand ∧
    (s.completeEffect).maint.lastResult = s.maint.lastResult ∧ (s.completeEffect).maint.shift = s.maint.shift ∧
    (s.completeEffect).maint.latched = s.maint.latched ∧ (s.completeEffect).maint.port = s.maint.port ∧
    (s.completeEffect).pending = s.pending := by
  simp [State.completeEffect]

/-- The frame of `State.select`. -/
@[simp] theorem State.select_frame (item : List Byte) (s : State) :
    (s.select item).tick = s.tick ∧ (s.select item).clk = s.clk ∧ (s.select item).timer = s.timer ∧
    (s.select item).ref = s.ref ∧ (s.select item).time = s.time ∧ (s.select item).schedule = s.schedule ∧
    (s.select item).frames = s.frames ∧ (s.select item).key = s.key ∧ (s.select item).line = s.line ∧
    (s.select item).ctl = s.ctl ∧ (s.select item).load = s.load ∧
    (s.select item).maint.counters = s.maint.counters ∧ (s.select item).maint.alarms = s.maint.alarms ∧
    (s.select item).maint.raisings = s.maint.raisings ∧ (s.select item).maint.alertFrom = s.maint.alertFrom ∧
    (s.select item).maint.alertN = s.maint.alertN ∧ (s.select item).maint.groupCount = s.maint.groupCount ∧
    (s.select item).maint.rescueStretch = s.maint.rescueStretch ∧
    (s.select item).maint.peerStretch = s.maint.peerStretch ∧
    (s.select item).maint.lastCommand = s.maint.lastCommand ∧
    (s.select item).maint.lastResult = s.maint.lastResult ∧
    (s.select item).maint.nextRepetition = s.maint.nextRepetition ∧ (s.select item).maint.shift = s.maint.shift ∧
    (s.select item).maint.latched = s.maint.latched ∧ (s.select item).maint.port = s.maint.port ∧
    (s.select item).pending = s.pending := by
  simp [State.select]

/-- The frame of `State.recordCommand`. -/
@[simp] theorem State.recordCommand_frame (code : Byte) (result : CommandResult) (s : State) :
    (s.recordCommand code result).tick = s.tick ∧ (s.recordCommand code result).clk = s.clk ∧
    (s.recordCommand code result).timer = s.timer ∧ (s.recordCommand code result).ref = s.ref ∧
    (s.recordCommand code result).time = s.time ∧ (s.recordCommand code result).schedule = s.schedule ∧
    (s.recordCommand code result).frames = s.frames ∧ (s.recordCommand code result).key = s.key ∧
    (s.recordCommand code result).line = s.line ∧ (s.recordCommand code result).ctl = s.ctl ∧
    (s.recordCommand code result).load = s.load ∧
    (s.recordCommand code result).maint.counters = s.maint.counters ∧
    (s.recordCommand code result).maint.alarms = s.maint.alarms ∧
    (s.recordCommand code result).maint.raisings = s.maint.raisings ∧
    (s.recordCommand code result).maint.alertFrom = s.maint.alertFrom ∧
    (s.recordCommand code result).maint.alertN = s.maint.alertN ∧
    (s.recordCommand code result).maint.groupCount = s.maint.groupCount ∧
    (s.recordCommand code result).maint.rescueStretch = s.maint.rescueStretch ∧
    (s.recordCommand code result).maint.peerStretch = s.maint.peerStretch ∧
    (s.recordCommand code result).maint.snapshot = s.maint.snapshot ∧
    (s.recordCommand code result).maint.nextRepetition = s.maint.nextRepetition ∧
    (s.recordCommand code result).maint.shift = s.maint.shift ∧
    (s.recordCommand code result).maint.latched = s.maint.latched ∧ (s.recordCommand code result).maint.port = s.maint.port ∧
    (s.recordCommand code result).pending = s.pending := by
  simp [State.recordCommand]

/-- The frame of `State.unknownEffect`. -/
@[simp] theorem State.unknownEffect_frame (code : Byte) (s : State) :
    (s.unknownEffect code).tick = s.tick ∧ (s.unknownEffect code).clk = s.clk ∧
    (s.unknownEffect code).timer = s.timer ∧ (s.unknownEffect code).ref = s.ref ∧
    (s.unknownEffect code).time = s.time ∧ (s.unknownEffect code).schedule = s.schedule ∧
    (s.unknownEffect code).frames = s.frames ∧ (s.unknownEffect code).key = s.key ∧
    (s.unknownEffect code).line = s.line ∧ (s.unknownEffect code).ctl = s.ctl ∧
    (s.unknownEffect code).load = s.load ∧ (s.unknownEffect code).maint.counters = s.maint.counters ∧
    (s.unknownEffect code).maint.alarms = s.maint.alarms ∧
    (s.unknownEffect code).maint.raisings = s.maint.raisings ∧
    (s.unknownEffect code).maint.alertFrom = s.maint.alertFrom ∧
    (s.unknownEffect code).maint.alertN = s.maint.alertN ∧
    (s.unknownEffect code).maint.groupCount = s.maint.groupCount ∧
    (s.unknownEffect code).maint.rescueStretch = s.maint.rescueStretch ∧
    (s.unknownEffect code).maint.peerStretch = s.maint.peerStretch ∧
    (s.unknownEffect code).maint.nextRepetition = s.maint.nextRepetition ∧
    (s.unknownEffect code).maint.shift = s.maint.shift ∧
    (s.unknownEffect code).maint.latched = s.maint.latched ∧ (s.unknownEffect code).maint.port = s.maint.port ∧ (s.unknownEffect code).pending = s.pending := by
  simp [State.unknownEffect]

/-- The frame of `State.countersEffect`. -/
@[simp] theorem State.countersEffect_frame (s : State) :
    (s.countersEffect).tick = s.tick ∧ (s.countersEffect).clk = s.clk ∧ (s.countersEffect).timer = s.timer ∧
    (s.countersEffect).ref = s.ref ∧ (s.countersEffect).time = s.time ∧ (s.countersEffect).schedule = s.schedule ∧
    (s.countersEffect).frames = s.frames ∧ (s.countersEffect).key = s.key ∧ (s.countersEffect).line = s.line ∧
    (s.countersEffect).ctl = s.ctl ∧ (s.countersEffect).load = s.load ∧
    (s.countersEffect).maint.alarms = s.maint.alarms ∧ (s.countersEffect).maint.raisings = s.maint.raisings ∧
    (s.countersEffect).maint.alertFrom = s.maint.alertFrom ∧ (s.countersEffect).maint.alertN = s.maint.alertN ∧
    (s.countersEffect).maint.groupCount = s.maint.groupCount ∧
    (s.countersEffect).maint.rescueStretch = s.maint.rescueStretch ∧
    (s.countersEffect).maint.peerStretch = s.maint.peerStretch ∧
    (s.countersEffect).maint.lastCommand = s.maint.lastCommand ∧
    (s.countersEffect).maint.lastResult = s.maint.lastResult ∧
    (s.countersEffect).maint.nextRepetition = s.maint.nextRepetition ∧
    (s.countersEffect).maint.shift = s.maint.shift ∧
    (s.countersEffect).maint.latched = s.maint.latched ∧ (s.countersEffect).maint.port = s.maint.port ∧ (s.countersEffect).pending = s.pending := by
  simp [State.countersEffect]

/-- The frame of `State.observationsEffect`. -/
@[simp] theorem State.observationsEffect_frame (page : Option Byte) (s : State) :
    (s.observationsEffect page).tick = s.tick ∧ (s.observationsEffect page).clk = s.clk ∧
    (s.observationsEffect page).timer = s.timer ∧ (s.observationsEffect page).ref = s.ref ∧
    (s.observationsEffect page).time = s.time ∧ (s.observationsEffect page).schedule = s.schedule ∧
    (s.observationsEffect page).frames = s.frames ∧ (s.observationsEffect page).key = s.key ∧
    (s.observationsEffect page).line = s.line ∧ (s.observationsEffect page).ctl = s.ctl ∧
    (s.observationsEffect page).load = s.load ∧ (s.observationsEffect page).maint.counters = s.maint.counters ∧
    (s.observationsEffect page).maint.alarms = s.maint.alarms ∧
    (s.observationsEffect page).maint.raisings = s.maint.raisings ∧
    (s.observationsEffect page).maint.alertFrom = s.maint.alertFrom ∧
    (s.observationsEffect page).maint.alertN = s.maint.alertN ∧
    (s.observationsEffect page).maint.groupCount = s.maint.groupCount ∧
    (s.observationsEffect page).maint.rescueStretch = s.maint.rescueStretch ∧
    (s.observationsEffect page).maint.peerStretch = s.maint.peerStretch ∧
    (s.observationsEffect page).maint.nextRepetition = s.maint.nextRepetition ∧
    (s.observationsEffect page).maint.shift = s.maint.shift ∧
    (s.observationsEffect page).maint.latched = s.maint.latched ∧ (s.observationsEffect page).maint.port = s.maint.port ∧ (s.observationsEffect page).pending = s.pending := by
  unfold State.observationsEffect; dsimp only
  repeat' split
  all_goals simp

/-- The frame of `State.clearAlarms`. -/
@[simp] theorem State.clearAlarms_frame (s : State) :
    (s.clearAlarms).tick = s.tick ∧ (s.clearAlarms).clk = s.clk ∧ (s.clearAlarms).timer = s.timer ∧
    (s.clearAlarms).ref = s.ref ∧ (s.clearAlarms).time = s.time ∧ (s.clearAlarms).schedule = s.schedule ∧
    (s.clearAlarms).frames = s.frames ∧ (s.clearAlarms).key = s.key ∧ (s.clearAlarms).line = s.line ∧
    (s.clearAlarms).ctl = s.ctl ∧ (s.clearAlarms).load = s.load ∧
    (s.clearAlarms).maint.counters = s.maint.counters ∧ (s.clearAlarms).maint.groupCount = s.maint.groupCount ∧
    (s.clearAlarms).maint.rescueStretch = s.maint.rescueStretch ∧
    (s.clearAlarms).maint.peerStretch = s.maint.peerStretch ∧ (s.clearAlarms).maint.snapshot = s.maint.snapshot ∧
    (s.clearAlarms).maint.lastCommand = s.maint.lastCommand ∧
    (s.clearAlarms).maint.lastResult = s.maint.lastResult ∧
    (s.clearAlarms).maint.nextRepetition = s.maint.nextRepetition ∧ (s.clearAlarms).maint.shift = s.maint.shift ∧
    (s.clearAlarms).maint.latched = s.maint.latched ∧ (s.clearAlarms).maint.port = s.maint.port ∧
    (s.clearAlarms).pending = s.pending := by
  simp [State.clearAlarms]

/-- The frame of `State.withdrawEffect`. -/
@[simp] theorem State.withdrawEffect_frame (s : State) :
    (s.withdrawEffect).tick = s.tick ∧ (s.withdrawEffect).clk = s.clk ∧ (s.withdrawEffect).timer = s.timer ∧
    (s.withdrawEffect).ref = s.ref ∧ (s.withdrawEffect).time = s.time ∧ (s.withdrawEffect).schedule = s.schedule ∧
    (s.withdrawEffect).frames = s.frames ∧ (s.withdrawEffect).key = s.key ∧
    (s.withdrawEffect).line.last = s.line.last ∧ (s.withdrawEffect).line.lastBreak = s.line.lastBreak ∧
    (s.withdrawEffect).line.notice = s.line.notice ∧ (s.withdrawEffect).line.decoder = s.line.decoder ∧
    (s.withdrawEffect).ctl.test = s.ctl.test ∧ (s.withdrawEffect).ctl.yieldDue = s.ctl.yieldDue ∧
    (s.withdrawEffect).ctl.faultReport = s.ctl.faultReport ∧ (s.withdrawEffect).ctl.copy = s.ctl.copy ∧
    (s.withdrawEffect).ctl.floor = s.ctl.floor ∧ (s.withdrawEffect).ctl.lastComparison = s.ctl.lastComparison ∧
    (s.withdrawEffect).load = s.load ∧ (s.withdrawEffect).maint.counters = s.maint.counters ∧
    (s.withdrawEffect).maint.alarms = s.maint.alarms ∧ (s.withdrawEffect).maint.raisings = s.maint.raisings ∧
    (s.withdrawEffect).maint.alertFrom = s.maint.alertFrom ∧ (s.withdrawEffect).maint.alertN = s.maint.alertN ∧
    (s.withdrawEffect).maint.groupCount = s.maint.groupCount ∧
    (s.withdrawEffect).maint.rescueStretch = s.maint.rescueStretch ∧
    (s.withdrawEffect).maint.peerStretch = s.maint.peerStretch ∧
    (s.withdrawEffect).maint.snapshot = s.maint.snapshot ∧
    (s.withdrawEffect).maint.nextRepetition = s.maint.nextRepetition ∧
    (s.withdrawEffect).maint.shift = s.maint.shift ∧
    (s.withdrawEffect).maint.latched = s.maint.latched ∧ (s.withdrawEffect).maint.port = s.maint.port ∧ (s.withdrawEffect).pending = s.pending := by
  unfold State.withdrawEffect
  repeat' split
  all_goals simp

/-- The frame of `State.rejoinEffect`. -/
@[simp] theorem State.rejoinEffect_frame (s : State) :
    (s.rejoinEffect).tick = s.tick ∧ (s.rejoinEffect).clk = s.clk ∧ (s.rejoinEffect).timer = s.timer ∧
    (s.rejoinEffect).ref = s.ref ∧ (s.rejoinEffect).time = s.time ∧ (s.rejoinEffect).schedule = s.schedule ∧
    (s.rejoinEffect).frames = s.frames ∧ (s.rejoinEffect).key.drive = s.key.drive ∧
    (s.rejoinEffect).key.ring = s.key.ring ∧ (s.rejoinEffect).key.t0 = s.key.t0 ∧
    (s.rejoinEffect).key.opens = s.key.opens ∧ (s.rejoinEffect).key.edges = s.key.edges ∧
    (s.rejoinEffect).key.lastVerdict = s.key.lastVerdict ∧ (s.rejoinEffect).line.last = s.line.last ∧
    (s.rejoinEffect).line.lastBreak = s.line.lastBreak ∧ (s.rejoinEffect).line.notice = s.line.notice ∧
    (s.rejoinEffect).ctl.pendingWithdraw = s.ctl.pendingWithdraw ∧
    (s.rejoinEffect).ctl.yieldDue = s.ctl.yieldDue ∧ (s.rejoinEffect).ctl.faultReport = s.ctl.faultReport ∧
    (s.rejoinEffect).ctl.copy = s.ctl.copy ∧ (s.rejoinEffect).ctl.floor = s.ctl.floor ∧
    (s.rejoinEffect).ctl.lastComparison = s.ctl.lastComparison ∧ (s.rejoinEffect).load = s.load ∧
    (s.rejoinEffect).maint.counters = s.maint.counters ∧ (s.rejoinEffect).maint.alarms = s.maint.alarms ∧
    (s.rejoinEffect).maint.raisings = s.maint.raisings ∧ (s.rejoinEffect).maint.alertFrom = s.maint.alertFrom ∧
    (s.rejoinEffect).maint.alertN = s.maint.alertN ∧ (s.rejoinEffect).maint.groupCount = s.maint.groupCount ∧
    (s.rejoinEffect).maint.rescueStretch = s.maint.rescueStretch ∧
    (s.rejoinEffect).maint.peerStretch = s.maint.peerStretch ∧
    (s.rejoinEffect).maint.snapshot = s.maint.snapshot ∧
    (s.rejoinEffect).maint.nextRepetition = s.maint.nextRepetition ∧
    (s.rejoinEffect).maint.shift = s.maint.shift ∧
    (s.rejoinEffect).maint.latched = s.maint.latched ∧ (s.rejoinEffect).maint.port = s.maint.port ∧ (s.rejoinEffect).pending = s.pending := by
  unfold State.rejoinEffect
  repeat' split
  all_goals simp

/-- The frame of `State.armTest`. -/
@[simp] theorem State.armTest_frame (s : State) :
    (s.armTest).tick = s.tick ∧ (s.armTest).clk = s.clk ∧ (s.armTest).timer = s.timer ∧ (s.armTest).ref = s.ref ∧
    (s.armTest).time = s.time ∧ (s.armTest).schedule = s.schedule ∧ (s.armTest).frames = s.frames ∧
    (s.armTest).key = s.key ∧ (s.armTest).line = s.line ∧ (s.armTest).ctl.standing = s.ctl.standing ∧
    (s.armTest).ctl.pendingWithdraw = s.ctl.pendingWithdraw ∧ (s.armTest).ctl.yieldDue = s.ctl.yieldDue ∧
    (s.armTest).ctl.faultReport = s.ctl.faultReport ∧ (s.armTest).ctl.pendingJoin = s.ctl.pendingJoin ∧
    (s.armTest).ctl.silence = s.ctl.silence ∧ (s.armTest).ctl.silenceFrom = s.ctl.silenceFrom ∧
    (s.armTest).ctl.copy = s.ctl.copy ∧ (s.armTest).ctl.floor = s.ctl.floor ∧
    (s.armTest).ctl.lastComparison = s.ctl.lastComparison ∧ (s.armTest).load = s.load ∧
    (s.armTest).maint = s.maint ∧ (s.armTest).pending = s.pending := by
  simp [State.armTest]

/-- The frame of `State.selftestEffect`. -/
@[simp] theorem State.selftestEffect_frame (s : State) :
    (s.selftestEffect).tick = s.tick ∧ (s.selftestEffect).clk = s.clk ∧ (s.selftestEffect).timer = s.timer ∧
    (s.selftestEffect).ref = s.ref ∧ (s.selftestEffect).time = s.time ∧ (s.selftestEffect).schedule = s.schedule ∧
    (s.selftestEffect).frames = s.frames ∧ (s.selftestEffect).key = s.key ∧ (s.selftestEffect).line = s.line ∧
    (s.selftestEffect).ctl.standing = s.ctl.standing ∧
    (s.selftestEffect).ctl.pendingWithdraw = s.ctl.pendingWithdraw ∧
    (s.selftestEffect).ctl.yieldDue = s.ctl.yieldDue ∧ (s.selftestEffect).ctl.faultReport = s.ctl.faultReport ∧
    (s.selftestEffect).ctl.pendingJoin = s.ctl.pendingJoin ∧ (s.selftestEffect).ctl.silence = s.ctl.silence ∧
    (s.selftestEffect).ctl.silenceFrom = s.ctl.silenceFrom ∧ (s.selftestEffect).ctl.copy = s.ctl.copy ∧
    (s.selftestEffect).ctl.floor = s.ctl.floor ∧ (s.selftestEffect).ctl.lastComparison = s.ctl.lastComparison ∧
    (s.selftestEffect).load = s.load ∧ (s.selftestEffect).maint.counters = s.maint.counters ∧
    (s.selftestEffect).maint.alarms = s.maint.alarms ∧ (s.selftestEffect).maint.raisings = s.maint.raisings ∧
    (s.selftestEffect).maint.alertFrom = s.maint.alertFrom ∧ (s.selftestEffect).maint.alertN = s.maint.alertN ∧
    (s.selftestEffect).maint.groupCount = s.maint.groupCount ∧
    (s.selftestEffect).maint.rescueStretch = s.maint.rescueStretch ∧
    (s.selftestEffect).maint.peerStretch = s.maint.peerStretch ∧
    (s.selftestEffect).maint.snapshot = s.maint.snapshot ∧
    (s.selftestEffect).maint.nextRepetition = s.maint.nextRepetition ∧
    (s.selftestEffect).maint.shift = s.maint.shift ∧
    (s.selftestEffect).maint.latched = s.maint.latched ∧ (s.selftestEffect).maint.port = s.maint.port ∧ (s.selftestEffect).pending = s.pending := by
  unfold State.selftestEffect
  repeat' split
  all_goals simp

/-- The frame of `State.repetitionEffect`. -/
@[simp] theorem State.repetitionEffect_frame (s : State) :
    (s.repetitionEffect).tick = s.tick ∧ (s.repetitionEffect).clk = s.clk ∧ (s.repetitionEffect).timer = s.timer ∧
    (s.repetitionEffect).ref = s.ref ∧ (s.repetitionEffect).time = s.time ∧
    (s.repetitionEffect).schedule = s.schedule ∧ (s.repetitionEffect).frames = s.frames ∧
    (s.repetitionEffect).key = s.key ∧ (s.repetitionEffect).line = s.line ∧ (s.repetitionEffect).ctl = s.ctl ∧
    (s.repetitionEffect).load = s.load ∧ (s.repetitionEffect).maint.counters = s.maint.counters ∧
    (s.repetitionEffect).maint.alarms = s.maint.alarms ∧ (s.repetitionEffect).maint.raisings = s.maint.raisings ∧
    (s.repetitionEffect).maint.alertFrom = s.maint.alertFrom ∧
    (s.repetitionEffect).maint.alertN = s.maint.alertN ∧ (s.repetitionEffect).maint.snapshot = s.maint.snapshot ∧
    (s.repetitionEffect).maint.lastCommand = s.maint.lastCommand ∧
    (s.repetitionEffect).maint.lastResult = s.maint.lastResult ∧ (s.repetitionEffect).pending = s.pending := by
  simp [State.repetitionEffect]

/-- The frame of `State.withPending`. -/
@[simp] theorem State.withPending_frame (queue : List Instr) (s : State) :
    (s.withPending queue).tick = s.tick ∧ (s.withPending queue).clk = s.clk ∧
    (s.withPending queue).timer = s.timer ∧ (s.withPending queue).ref = s.ref ∧
    (s.withPending queue).time = s.time ∧ (s.withPending queue).schedule = s.schedule ∧
    (s.withPending queue).frames = s.frames ∧ (s.withPending queue).key = s.key ∧
    (s.withPending queue).line = s.line ∧ (s.withPending queue).ctl = s.ctl ∧
    (s.withPending queue).load = s.load ∧ (s.withPending queue).maint = s.maint := by
  simp [State.withPending]

end Sys2Proof.Machine
end

