-- ==== Sys2Proof/Laws/State.lean ====
section
/-!
SUPPORT. What each record update and each shared operation writes: one lemma a field, true by `rfl`, so that no proof unfolds a
record update. What an operation leaves as it is stands in the Frame files beside this one.
-/

namespace Sys2Proof.Machine

/-! ## Events -/

/-- An event that is due answers its effect on the state with the command's clock readings. -/
theorem State.onEvent_due {s : State} {now : Instant} {due : Bool} {effect : State → State} (h : due = true) :
    s.onEvent now due effect = .next (effect (s.at now)) := by simp [State.onEvent, h]

/-- An event that is not due leaves the state as it is. -/
theorem State.onEvent_idle {s : State} {now : Instant} {due : Bool} {effect : State → State} (h : due = false) :
    s.onEvent now due effect = .next s := by simp [State.onEvent, h]

/-- Whatever an event answers is its effect, or the state as it was. -/
theorem State.onEvent_cases {s t : State} {now : Instant} {due : Bool} {effect : State → State}
    (h : s.onEvent now due effect = .next t) : (due = true ∧ t = effect (s.at now)) ∨ (due = false ∧ t = s) := by
  cases due <;> simp [State.onEvent] at h <;> simp [h]

@[simp] theorem State.at_tick (now : Instant) (s : State) : (s.at now).tick = now.tick := rfl
@[simp] theorem State.at_clk (now : Instant) (s : State) : (s.at now).clk = now.clk := rfl

@[simp] theorem State.withPending_pending (q : List Instr) (s : State) : (s.withPending q).pending = q := rfl
@[simp] theorem State.withPending_tick (q : List Instr) (s : State) : (s.withPending q).tick = s.tick := rfl
@[simp] theorem State.withPending_clk (q : List Instr) (s : State) : (s.withPending q).clk = s.clk := rfl
@[simp] theorem State.withPending_timer (q : List Instr) (s : State) : (s.withPending q).timer = s.timer := rfl
@[simp] theorem State.withPending_ref (q : List Instr) (s : State) : (s.withPending q).ref = s.ref := rfl
@[simp] theorem State.withPending_time (q : List Instr) (s : State) : (s.withPending q).time = s.time := rfl
@[simp] theorem State.withPending_schedule (q : List Instr) (s : State) : (s.withPending q).schedule = s.schedule := rfl
@[simp] theorem State.withPending_frames (q : List Instr) (s : State) : (s.withPending q).frames = s.frames := rfl
@[simp] theorem State.withPending_key (q : List Instr) (s : State) : (s.withPending q).key = s.key := rfl
@[simp] theorem State.withPending_line (q : List Instr) (s : State) : (s.withPending q).line = s.line := rfl
@[simp] theorem State.withPending_ctl (q : List Instr) (s : State) : (s.withPending q).ctl = s.ctl := rfl
@[simp] theorem State.withPending_load (q : List Instr) (s : State) : (s.withPending q).load = s.load := rfl
@[simp] theorem State.withPending_maint (q : List Instr) (s : State) : (s.withPending q).maint = s.maint := rfl

/-! ## Counters and alarms -/

/-- A saturating counter stays within 255 (R175). -/
theorem bumpSat_le (n : Nat) : bumpSat n ≤ 255 := by unfold bumpSat; split <;> omega

/-- A saturating counter below 255 gains one (R175). -/
theorem bumpSat_below {n : Nat} (h : n < 255) : bumpSat n = n + 1 := by simp [bumpSat, h]

/-- A saturating count after an increment is at least 1. -/
theorem bumpSat_pos (n : Nat) : 1 ≤ bumpSat n := by unfold bumpSat; split <;> omega

/-- A wrapping counter stays within 9,999 (R175). -/
theorem bumpWrap_le (n : Nat) : bumpWrap n ≤ 9999 := by unfold bumpWrap; split <;> omega

/-- A wrapping counter below 9,999 gains one (R175). -/
theorem bumpWrap_below {n : Nat} (h : n < 9999) : bumpWrap n = n + 1 := by simp [bumpWrap, h]

@[simp] theorem State.count_counters (bump : Counters → Counters) (s : State) :
    (s.count bump).maint.counters = bump s.maint.counters := rfl

@[simp] theorem State.raise_alarms (k : AlarmKind) (s : State) :
    (s.raise k).maint.alarms = raiseIn k s.time.n s.maint.alarms := rfl
@[simp] theorem State.raise_raisings (k : AlarmKind) (s : State) :
    (s.raise k).maint.raisings = bumpSat s.maint.raisings := rfl
@[simp] theorem State.raise_alertFrom (k : AlarmKind) (s : State) :
    (s.raise k).maint.alertFrom = some (s.maint.alertFrom.getD s.clk) := rfl
@[simp] theorem State.raise_alertN (k : AlarmKind) (s : State) :
    (s.raise k).maint.alertN =
      (s.maint.alertN || (s.loaded && decide (s.load.params.alert.count ≤ bumpSat s.maint.raisings))) := rfl

/-- A raising never leaves the alarm set empty. -/
theorem raiseIn_ne_nil (k : AlarmKind) (n : Option Int) (alarms : List AlarmEntry) : raiseIn k n alarms ≠ [] := by
  cases alarms with
  | nil => simp [raiseIn]
  | cons e rest => by_cases h : e.kind = k <;> simp [raiseIn, h]

/-- The kinds held after a raising: those held before, and the one raised, once. -/
theorem raiseIn_kinds (k : AlarmKind) (n : Option Int) (alarms : List AlarmEntry) :
    (raiseIn k n alarms).map (fun e => e.kind) =
      if k ∈ alarms.map (fun e => e.kind) then alarms.map (fun e => e.kind)
      else alarms.map (fun e => e.kind) ++ [k] := by
  induction alarms with
  | nil => simp [raiseIn]
  | cons e rest ih =>
    by_cases h : e.kind = k
    · simp [raiseIn, h]
    · have h' : ¬ k = e.kind := fun c => h c.symm
      simp only [raiseIn, h, if_false, List.map_cons, ih, List.mem_cons, h', false_or]
      by_cases hm : k ∈ rest.map (fun e => e.kind)
      · rw [if_pos hm, if_pos hm]
      · rw [if_neg hm, if_neg hm]; rfl

/-! ## Standings -/

@[simp] theorem State.enterQuiet_standing (st : Standing) (s : State) : (s.enterQuiet st).ctl.standing = st := rfl
@[simp] theorem State.enterQuiet_pendingJoin (st : Standing) (s : State) :
    (s.enterQuiet st).ctl.pendingJoin = false := rfl
@[simp] theorem State.enterQuiet_silenceFrom (st : Standing) (s : State) :
    (s.enterQuiet st).ctl.silenceFrom = none := rfl
@[simp] theorem State.enterQuiet_silence (st : Standing) (s : State) : (s.enterQuiet st).ctl.silence = false := rfl
@[simp] theorem State.enterQuiet_candidate (st : Standing) (s : State) : (s.enterQuiet st).line.candidate = none := rfl

@[simp] theorem State.enterWatch_standing (st : Standing) (s : State) : (s.enterWatch st).ctl.standing = st := rfl
@[simp] theorem State.enterWatch_pendingJoin (st : Standing) (s : State) :
    (s.enterWatch st).ctl.pendingJoin = false := rfl
@[simp] theorem State.enterWatch_silenceFrom (st : Standing) (s : State) :
    (s.enterWatch st).ctl.silenceFrom = some s.tick := rfl
@[simp] theorem State.enterWatch_silence (st : Standing) (s : State) : (s.enterWatch st).ctl.silence = false := rfl
@[simp] theorem State.enterWatch_candidate (st : Standing) (s : State) : (s.enterWatch st).line.candidate = none := rfl

@[simp] theorem State.enterSurvey_standing (s : State) : s.enterSurvey.ctl.standing = .survey .watching := rfl
@[simp] theorem State.enterDeferred_standing (s : State) : s.enterDeferred.ctl.standing = .deferred := rfl

@[simp] theorem State.setPhase_standing (p : SurveyPhase) (s : State) :
    (s.setPhase p).ctl.standing = .survey p := rfl
@[simp] theorem State.setPhase_candidate (p : SurveyPhase) (s : State) : (s.setPhase p).line.candidate = none := rfl

@[simp] theorem State.setJoin_pendingJoin (join : Bool) (s : State) : (s.setJoin join).ctl.pendingJoin = join := rfl

@[simp] theorem State.leftActive_yieldDue (s : State) : s.leftActive.ctl.yieldDue = none := rfl
@[simp] theorem State.leftActive_pendingWithdraw (s : State) : s.leftActive.ctl.pendingWithdraw = false := rfl
@[simp] theorem State.leftActive_faultReport (s : State) : s.leftActive.ctl.faultReport = false := rfl

/-! ## The Keying Unit's records -/

@[simp] theorem Keying.leftActive_tallies (k : Keying) : k.leftActive.tallies = Tallies.empty := rfl
@[simp] theorem Keying.leftActive_conflictStreak (k : Keying) : k.leftActive.conflictStreak = 0 := rfl
@[simp] theorem Keying.leftActive_timingStreak (k : Keying) : k.leftActive.timingStreak = 0 := rfl
@[simp] theorem Keying.leftActive_faultRun (k : Keying) : k.leftActive.faultRun = 0 := rfl
@[simp] theorem Keying.leftActive_ring (k : Keying) : k.leftActive.ring = k.ring := rfl
@[simp] theorem Keying.leftActive_drive (k : Keying) : k.leftActive.drive = k.drive := rfl
@[simp] theorem Keying.leftActive_opens (k : Keying) : k.leftActive.opens = k.opens := rfl
@[simp] theorem Keying.leftActive_lastVerdict (k : Keying) : k.leftActive.lastVerdict = k.lastVerdict := rfl

@[simp] theorem Keying.addEdge_level (k : Keying) (e : Edge) : (k.addEdge e).level = some e.level := rfl
@[simp] theorem Keying.addEdge_levelFrom (k : Keying) (e : Edge) : (k.addEdge e).levelFrom = some e.tick := rfl
@[simp] theorem Keying.addEdge_run (k : Keying) (e : Edge) : (k.addEdge e).run = k.run := rfl
@[simp] theorem Keying.addEdge_drive (k : Keying) (e : Edge) : (k.addEdge e).drive = k.drive := rfl
@[simp] theorem Keying.addEdge_ring (k : Keying) (e : Edge) : (k.addEdge e).ring = k.ring := rfl
@[simp] theorem Keying.addEdge_opens (k : Keying) (e : Edge) : (k.addEdge e).opens = k.opens := rfl
@[simp] theorem Keying.addEdge_tallies (k : Keying) (e : Edge) : (k.addEdge e).tallies = k.tallies := rfl

@[simp] theorem Keying.updateOpen_level (k : Keying) (t0 : Int) (f : OpenSecond → OpenSecond) :
    (k.updateOpen t0 f).level = k.level := rfl
@[simp] theorem Keying.updateOpen_edges (k : Keying) (t0 : Int) (f : OpenSecond → OpenSecond) :
    (k.updateOpen t0 f).edges = k.edges := rfl
@[simp] theorem Keying.updateOpen_drive (k : Keying) (t0 : Int) (f : OpenSecond → OpenSecond) :
    (k.updateOpen t0 f).drive = k.drive := rfl
@[simp] theorem Keying.updateOpen_ring (k : Keying) (t0 : Int) (f : OpenSecond → OpenSecond) :
    (k.updateOpen t0 f).ring = k.ring := rfl
@[simp] theorem Keying.updateOpen_tallies (k : Keying) (t0 : Int) (f : OpenSecond → OpenSecond) :
    (k.updateOpen t0 f).tallies = k.tallies := rfl
@[simp] theorem Keying.updateOpen_opens (k : Keying) (t0 : Int) (f : OpenSecond → OpenSecond) :
    (k.updateOpen t0 f).opens = k.opens.map (fun o => if o.t0 = t0 then f o else o) := rfl

@[simp] theorem Keying.lost_ring (k : Keying) : k.lost.ring = k.ring := rfl
@[simp] theorem Keying.lost_lastVerdict (k : Keying) : k.lost.lastVerdict = k.lastVerdict := rfl
@[simp] theorem Keying.lost_drive (k : Keying) : k.lost.drive = .released := rfl
@[simp] theorem LineReader.lost_last (l : LineReader) : l.lost.last = l.last := rfl
@[simp] theorem LineReader.lost_lastBreak (l : LineReader) : l.lost.lastBreak = l.lastBreak := rfl
@[simp] theorem Controller.lost_standing (c : Controller) : c.lost.standing = .faultedOsc := rfl
@[simp] theorem Controller.lost_test (c : Controller) : c.lost.test = c.test := rfl
@[simp] theorem Controller.lost_lastComparison (c : Controller) : c.lost.lastComparison = c.lastComparison := rfl

/-! ## The Second Timer's records -/

@[simp] theorem Timer.lost_f (tick : Int) (t : Timer) : (t.lost tick).f = t.f := rfl
@[simp] theorem Timer.lost_a (tick : Int) (t : Timer) : (t.lost tick).a = 0 := rfl
@[simp] theorem Timer.lost_monitor (tick : Int) (t : Timer) : (t.lost tick).monitor = .down := rfl

@[simp] theorem Timer.ageMarkers_f (t : Timer) : t.ageMarkers.f = t.f := rfl
@[simp] theorem Timer.ageMarkers_a (t : Timer) : t.ageMarkers.a = t.a := rfl
@[simp] theorem Timer.ageMarkers_heldRef (t : Timer) : t.ageMarkers.heldRef = t.heldRef := rfl
@[simp] theorem Timer.ageMarkers_heldLine (t : Timer) : t.ageMarkers.heldLine = t.heldLine := rfl
@[simp] theorem Timer.ageMarkers_heldStep (t : Timer) : t.ageMarkers.heldStep = t.heldStep := rfl
@[simp] theorem Timer.ageMarkers_past (t : Timer) : t.ageMarkers.past = t.past := rfl
@[simp] theorem Timer.ageMarkers_monitor (t : Timer) : t.ageMarkers.monitor = t.monitor := rfl

@[simp] theorem Timer.spend_f (t : Timer) (f p : Int) : (t.spend f p).f = f := rfl
@[simp] theorem Timer.spend_length (t : Timer) (f p : Int) :
    (t.spend f p).length = Config.nominalSecond + p + (t.a + f) / Config.fUnit := rfl
@[simp] theorem Timer.spend_past (t : Timer) (f p : Int) : (t.spend f p).past = t.past := rfl
@[simp] theorem Timer.spend_monitor (t : Timer) (f p : Int) : (t.spend f p).monitor = t.monitor := rfl

/-- The A that R25's step 5 leaves is the remainder. -/
theorem Timer.spend_a (t : Timer) (f p : Int) : (t.spend f p).a = (t.a + f) % Config.fUnit := by
  simp only [Timer.spend, Config.fUnit]; omega

@[simp] theorem Timer.sampleUsed_f (src : PhaseSource) (e : Int) (t : Timer) : (t.sampleUsed src e).f = t.f := rfl
@[simp] theorem Timer.sampleUsed_a (src : PhaseSource) (e : Int) (t : Timer) : (t.sampleUsed src e).a = t.a := rfl
@[simp] theorem Timer.sampleUsed_length (src : PhaseSource) (e : Int) (t : Timer) :
    (t.sampleUsed src e).length = t.length := rfl
@[simp] theorem Timer.sampleUsed_lastError (src : PhaseSource) (e : Int) (t : Timer) :
    (t.sampleUsed src e).lastError = some e := rfl

@[simp] theorem Timer.beginSecond_f (k e : Int) (t : Timer) : (t.beginSecond k e).f = t.f := rfl
@[simp] theorem Timer.beginSecond_a (k e : Int) (t : Timer) : (t.beginSecond k e).a = t.a := rfl
@[simp] theorem Timer.beginSecond_length (k e : Int) (t : Timer) : (t.beginSecond k e).length = t.length := rfl
@[simp] theorem Timer.beginSecond_nextEpoch (k e : Int) (t : Timer) :
    (t.beginSecond k e).nextEpoch = some (e + t.length) := rfl
@[simp] theorem Timer.beginSecond_nextDrive (k e : Int) (t : Timer) :
    (t.beginSecond k e).nextDrive = some (e + t.length - k) := rfl
@[simp] theorem Timer.beginSecond_driveTaken (k e : Int) (t : Timer) : (t.beginSecond k e).driveTaken = false := rfl

@[simp] theorem State.deliverLine_heldLine (e : Int) (s : State) : (s.deliverLine e).timer.heldLine = some e := rfl
@[simp] theorem State.deliverLine_receivedMarker (e : Int) (s : State) :
    (s.deliverLine e).timer.receivedMarker = some 0 := rfl
@[simp] theorem State.holdRef_heldRef (e : Int) (s : State) : (s.holdRef e).timer.heldRef = some e := rfl
@[simp] theorem State.holdStep_heldStep (e : Int) (s : State) : (s.holdStep e).timer.heldStep = some e := rfl

/-! ## The time scale -/

@[simp] theorem TimeScale.unset_n (t : TimeScale) : t.unset.n = none := rfl
@[simp] theorem TimeScale.unset_origin (t : TimeScale) : t.unset.origin = none := rfl
@[simp] theorem TimeScale.unset_age (t : TimeScale) : t.unset.age = none := rfl
@[simp] theorem TimeScale.unset_offset (t : TimeScale) : t.unset.offset = t.offset := rfl
@[simp] theorem TimeScale.unset_pendingReset (t : TimeScale) : t.unset.pendingReset = none := rfl
@[simp] theorem TimeScale.unset_pendingSet (t : TimeScale) : t.unset.pendingSet = none := rfl

@[simp] theorem State.setN_n (n : Int) (s : State) : (s.setN n).time.n = some n := rfl
@[simp] theorem State.setN_rangeEnding (n : Int) (s : State) :
    (s.setN n).time.rangeEnding = (s.time.rangeEnding || rangeEnds n s.secondInserted s.schedule) := rfl
@[simp] theorem State.setN_pendingJoin (n : Int) (s : State) :
    (s.setN n).ctl.pendingJoin =
      (s.ctl.pendingJoin && !(s.time.rangeEnding || rangeEnds n s.secondInserted s.schedule)) := rfl
@[simp] theorem State.dropPendingReset_pendingReset (s : State) : s.dropPendingReset.time.pendingReset = none := rfl
@[simp] theorem State.setOrigin_origin (o : Origin) (s : State) : (s.setOrigin o).time.origin = some o := rfl
@[simp] theorem State.setOrigin_age (o : Origin) (s : State) :
    (s.setOrigin o).time.age = if o = Origin.ref then some 0 else none := rfl

/-! ## The Change Schedule and the frames -/

/-- Whatever the list was, it is the one that was set. -/
@[simp] theorem State.setSchedule_schedule (entries : List Entry) (s : State) :
    (s.setSchedule entries).schedule = entries := by
  unfold State.setSchedule
  split
  · next h => exact h.symm
  · rfl

/-- An inserted entry joins the ones that were there. -/
theorem insertEntry_perm (e : Entry) (entries : List Entry) : (insertEntry e entries).Perm (e :: entries) := by
  induction entries with
  | nil => exact List.Perm.refl _
  | cons x rest ih =>
    unfold insertEntry
    split
    · exact List.Perm.refl _
    · exact (List.Perm.cons x ih).trans (List.Perm.swap e x rest)

@[simp] theorem insertEntry_length (e : Entry) (entries : List Entry) :
    (insertEntry e entries).length = entries.length + 1 := by simpa using (insertEntry_perm e entries).length_eq

@[simp] theorem State.discardFrames_current (s : State) : s.discardFrames.frames.current = none := rfl
@[simp] theorem State.discardFrames_next (s : State) : s.discardFrames.frames.next = none := rfl
@[simp] theorem State.discardFrames_latch (s : State) : s.discardFrames.frames.latch = none := rfl

@[simp] theorem State.buildNext_next (n0 : Int) (s : State) :
    (s.buildNext n0).frames.next = some (frameFor n0 .onTime (buildWord n0 s) s) := rfl
@[simp] theorem State.buildNext_latch (n0 : Int) (s : State) :
    (s.buildNext n0).frames.latch = some (buildWord n0 s) := rfl
@[simp] theorem State.buildCurrent_current (n0 : Int) (s : State) :
    (s.buildCurrent n0).frames.current = some (frameFor n0 .catchUp (buildWord n0 s) s) := rfl

@[simp] theorem frameFor_n0 (n0 : Int) (k : BuildKind) (w : BitVec 32) (s : State) : (frameFor n0 k w s).n0 = n0 := rfl
@[simp] theorem frameFor_stale (n0 : Int) (k : BuildKind) (w : BitVec 32) (s : State) :
    (frameFor n0 k w s).stale = false := rfl

/-! ## The Line Reader and the port -/

@[simp] theorem State.emptyNotice_notice (s : State) : s.emptyNotice.line.notice = none := rfl
@[simp] theorem State.badFrame_lastBreak (r : BreakReason) (s : State) : (s.badFrame r).line.lastBreak = some r := rfl
@[simp] theorem State.badFrame_counters (r : BreakReason) (s : State) :
    (s.badFrame r).maint.counters = s.maint.counters.addLineFrameBad := rfl
@[simp] theorem State.startFrame_decoder (fall : Int) (s : State) : (s.startFrame fall).line.decoder = .assembling := rfl

@[simp] theorem State.select_snapshot (item : List Byte) (s : State) : (s.select item).maint.snapshot = item := rfl
@[simp] theorem State.recordCommand_lastCommand (code : Byte) (r : CommandResult) (s : State) :
    (s.recordCommand code r).maint.lastCommand = some code := rfl
@[simp] theorem State.recordCommand_lastResult (code : Byte) (r : CommandResult) (s : State) :
    (s.recordCommand code r).maint.lastResult = some r := rfl
@[simp] theorem State.clearAlarms_alarms (s : State) : s.clearAlarms.maint.alarms = [] := rfl

@[simp] theorem State.setPort_port (p : PortLine) (s : State) : (s.setPort p).maint.port = p := rfl
@[simp] theorem State.setPort_setPort (p q : PortLine) (s : State) : (s.setPort p).setPort q = s.setPort q := rfl
@[simp] theorem State.setPort_pending (p : PortLine) (s : State) : (s.setPort p).pending = s.pending := rfl
@[simp] theorem State.setPort_load (p : PortLine) (s : State) : (s.setPort p).load = s.load := rfl
@[simp] theorem State.setPort_snapshot (p : PortLine) (s : State) : (s.setPort p).maint.snapshot = s.maint.snapshot := rfl

/-- A transaction's end puts the command it spells at the end of the queue, and changes nothing else (R172). -/
theorem State.endTransaction_eq (now : Instant) (s : State) :
    s.endTransaction now = { s with pending := s.pending ++ (writeCommand now s.maint.port.data).toList } := by
  unfold State.endTransaction
  split <;> simp [*]

/-- An event on the bus moves the port's line and may put commands at the end of the queue, and changes nothing else (R172). -/
theorem State.onBus_eq (now : Instant) (e : BusEvent) (s : State) :
    ∃ q p, s.onBus now e = ({ s with pending := s.pending ++ q } : State).setPort p := by
  cases e with
  | start => exact ⟨_, _, by rw [State.onBus, State.endTransaction_eq]⟩
  | stop => exact ⟨_, _, by rw [State.onBus, State.endTransaction_eq]⟩
  | clock sda => exact ⟨[], s.portClocked sda, by simp [State.onBus]⟩

@[simp] theorem State.setRecordLine_trec (l : RecordLine) (s : State) : (s.setRecordLine l).ref.trec = l := rfl
@[simp] theorem State.setRecordLine_setRecordLine (l m : RecordLine) (s : State) :
    (s.setRecordLine l).setRecordLine m = s.setRecordLine m := rfl
@[simp] theorem State.setRecordLine_pending (l : RecordLine) (s : State) : (s.setRecordLine l).pending = s.pending := rfl
@[simp] theorem State.setRecordLine_timer (l : RecordLine) (s : State) : (s.setRecordLine l).timer = s.timer := rfl
@[simp] theorem State.setRecordLine_self (s : State) : s.setRecordLine s.ref.trec = s := rfl
@[simp] theorem State.queue_pending (c : Instr) (s : State) : (s.queue c).pending = s.pending ++ [c] := rfl
@[simp] theorem State.queue_ref (c : Instr) (s : State) : (s.queue c).ref = s.ref := rfl
@[simp] theorem State.queue_timer (c : Instr) (s : State) : (s.queue c).timer = s.timer := rfl

/-- An event on TREC_IN moves the receiver's line and may put a command at the end of the queue, and changes nothing else (R29). -/
theorem State.onRecordLine_eq (now : Instant) (e : RecordLineEvent) (s : State) :
    ∃ q l, s.onRecordLine now e = ({ s with pending := s.pending ++ q } : State).setRecordLine l := by
  have none_ : ∀ l, ∃ q l', s.setRecordLine l = ({ s with pending := s.pending ++ q } : State).setRecordLine l' :=
    fun l => ⟨[], l, by simp⟩
  have one : ∀ c l, ∃ q l', (s.queue c).setRecordLine l = ({ s with pending := s.pending ++ q } : State).setRecordLine l' :=
    fun c l => ⟨[c], l, rfl⟩
  have same : ∃ q l', s = ({ s with pending := s.pending ++ q } : State).setRecordLine l' := ⟨[], s.ref.trec, by simp⟩
  unfold State.onRecordLine State.startBit State.recordByte State.lowStopBit
  dsimp only
  repeat' split
  all_goals first | exact same | exact none_ _ | exact one _ _

/-- One of the first eight bits of a character is shifted in (R29). -/
theorem State.onRecordLine_shift {now : Instant} {level : Level} {s : State} {bits : List Bool} (up : s.timer.monitor = .up)
    (h : s.ref.trec.bits = some bits) (short : bits.length ≠ 8) :
    s.onRecordLine now (.bit level) = s.setRecordLine { s.ref.trec with bits := some (bits ++ [level == .high]) } := by
  simp [State.onRecordLine, up, h, short]

/-- A run of data bits is shifted in, in order of time (R29). -/
theorem State.onRecordLine_shifts {α : Type} (moment : α → Instant) (level : α → Level) (xs : List α) :
    ∀ {s : State} {bits : List Bool}, s.timer.monitor = .up → s.ref.trec.bits = some bits → bits.length + xs.length ≤ 8 →
      xs.foldl (fun u x => u.onRecordLine (moment x) (.bit (level x))) s =
        s.setRecordLine { s.ref.trec with bits := some (bits ++ xs.map (fun x => level x == .high)) } := by
  induction xs with
  | nil => intro s bits _ h _; simp only [List.foldl_nil, List.map_nil, List.append_nil, ← h]; rfl
  | cons x xs ih =>
    intro s bits up h short
    simp only [List.length_cons] at short
    rw [List.foldl_cons, State.onRecordLine_shift up h (by omega),
      ih (bits := bits ++ [level x == .high]) (by exact up) rfl (by simp; omega)]
    simp

/-- A sample of KEY moves the run the samples are in and may put one command among the waiting ones, and changes nothing else (R94). -/
theorem State.sampleKey_eq (now : Instant) (level : Level) (s : State) :
    ∃ r q, s.sampleKey now level = { s with key := { s.key with run := r }, pending := q } ∧
      (q = s.pending ∨ ∃ c, q = placeByTick c s.pending) := by
  unfold State.sampleKey
  dsimp only
  split
  · refine ⟨_, _, rfl, ?_⟩
    generalize Option.bind _ _ = o
    cases o with
    | none => exact Or.inl rfl
    | some c => exact Or.inr ⟨c, rfl⟩
  · exact ⟨_, _, rfl, Or.inl rfl⟩

/-- A sample before a run has lasted 20 ticks counts nothing (R94). -/
theorem State.sampleKey_quiet {now : Instant} {level : Level} {s : State} (up : s.timer.monitor = .up) (test : s.testRunning = false)
    (young : ∀ r ∈ s.key.run, r.first.tick + Config.filterTicks ≠ now.tick) :
    s.sampleKey now level = { s with key := { s.key with run := some (KeyRun.next now level s.key.run) } } := by
  have : s.key.run.filter (fun r => decide (r.first.tick + Config.filterTicks = now.tick)) = none := by
    cases h : s.key.run with
    | none => rfl
    | some r => simp [Option.filter, young r (by simp [h])]
  simp [State.sampleKey, up, test, this]

/-- A run of equal samples at successive ticks keeps its first tick, and counts nothing before it has lasted 20 ticks (R94). -/
theorem State.sampleKey_run (moment : Nat → Instant) (level : Level) (n : Nat) {s : State} (up : s.timer.monitor = .up)
    (test : s.testRunning = false) (other : ∀ r ∈ s.key.run, r.level ≠ level)
    (young : ∀ r ∈ s.key.run, r.first.tick + Config.filterTicks ≠ (moment 0).tick)
    (ticks : ∀ i, (moment i).tick = (moment 0).tick + i) (short : n < 20) :
    (List.range (n + 1)).foldl (fun u i => u.sampleKey (moment i) level) s =
      { s with key := { s.key with run := some { level := level, first := moment 0 } } } := by
  induction n with
  | zero =>
    rw [show List.range (0 + 1) = [0] from rfl, List.foldl_cons, List.foldl_nil, State.sampleKey_quiet up test young]
    cases h : s.key.run with
    | none => rfl
    | some r => simp [KeyRun.next, other r (by simp [h])]
  | succ n ih =>
    rw [List.range_succ, List.foldl_append, ih (by omega), List.foldl_cons, List.foldl_nil,
      State.sampleKey_quiet (by exact up) (by exact test) (by
        intro r hr
        simp only [Option.mem_def, Option.some.injEq] at hr
        subst hr
        have := ticks (n + 1)
        simp only [Config.filterTicks]
        omega)]
    simp [KeyRun.next]

/-- Before the latch pulse the external registers show what they held (R180). -/
theorem Maintenance.registers_before {m : Maintenance} {clk : Nat} (h : ∀ r ∈ m.shift, clk < r.start + Config.latchAfter) :
    m.registers clk = m.latched := by
  unfold Maintenance.registers
  split
  · rename_i r hr
    rw [if_neg (by have := h r (by simp [hr]); omega)]
  · rfl

/-- From the latch pulse on they show the words of the repetition (R180). -/
theorem Maintenance.registers_after {m : Maintenance} {clk : Nat} {r : Repetition} (h : m.shift = some r)
    (late : r.start + Config.latchAfter ≤ clk) : m.registers clk = some r.words := by
  simp [Maintenance.registers, h, late]

/-! ## Re-sets -/

/-- The N a count difference leads to is the sum, within the range of N (R44, R52). -/
theorem State.shiftsTo_eq_some {difference m : Int} {s : State} :
    s.shiftsTo difference = some m ↔ ∃ n, s.time.n = some n ∧ m = n + difference ∧ 0 ≤ m ∧ m ≤ Config.lastCount := by
  unfold State.shiftsTo countInRange
  cases s.time.n with
  | none => simp
  | some n =>
    simp only [decide_eq_true_eq]
    split <;> rename_i h
    · constructor
      · rintro ⟨rfl⟩; exact ⟨n, rfl, rfl, h.1, h.2⟩
      · rintro ⟨k, ⟨rfl⟩, rfl, _, _⟩; rfl
    · constructor
      · intro h'; cases h'
      · rintro ⟨k, ⟨rfl⟩, rfl, h0, h1⟩; exact absurd ⟨h0, h1⟩ h

/-- A count difference that leads nowhere within the range changes nothing (R44, notes/assumptions/17.md). -/
theorem State.applyCountReset_none {difference : Int} {s : State} (h : s.shiftsTo difference = none) :
    s.applyCountReset difference = s := by simp [State.applyCountReset, h]

/-! ## Bytes -/

/-- A number of `k` bytes has `k` bytes. -/
@[simp] theorem beBytes_length (k v : Nat) : (beBytes k v).length = k := by
  induction k generalizing v with
  | zero => rfl
  | succ k ih => simp [beBytes, ih]

@[simp] theorem packBytes_length (k : Nat) (fields : List (Nat × Int)) : (packBytes k fields).length = k := by
  simp [packBytes]

/-- The CRC of a message and one more byte (R185). -/
theorem crc16_append_byte (bytes : List Byte) (b : Byte) : crc16 (bytes ++ [b]) = crcByte (crc16 bytes) b := by
  simp [crc16]

end Sys2Proof.Machine
end

