-- ==== Sys2Proof/Tests/Slice0.lean ====
section
/-!
SUPPORT. Tests with values from the spec's own worked examples, and for every statement with hypotheses a named witness that meets them. No
expected value here comes from the model: each test names its source.
-/

namespace Sys2Proof.Tests

open Sys2Proof Sys2Proof.Machine

/-! ## Helpers -/

/-- A moment at which the coming drive instant and epoch of `up` fall. -/
def turn : Instant := { tick := 20000000, clk := 2000000 }

/-- A loaded keyer in SURVEY with the oscillator UP, its second running from tick 10,000,000 to tick 20,000,000, the time UNSET. -/
def up : State :=
  { State.reset with
    timer := { Timer.reset with
      monitor := .up, epoch := some 10000000, length := 10000000, nextEpoch := some 20000000, nextDrive := some 20000000 }
    key := { Keying.reset with level := some .high, levelFrom := some 10000000 }
    line := { LineReader.reset with decoder := .hunting }
    ctl := { Controller.reset with standing := .survey .watching, silenceFrom := some 10000000 }
    load := { Loader.reset with phase := .done, source := some .image, result := some .ok } }

/-- The same keyer with a standing. -/
def stands (st : Standing) (s : State) : State := { s with ctl := { s.ctl with standing := st } }

/-- The same keyer with the coming drive instant taken. -/
def driven (s : State) : State := { s with timer := { s.timer with driveTaken := true } }

/-- The same keyer with the time SET from the reference. -/
def setAt (n : Int) (s : State) : State :=
  { s with time := { s.time with n := some n, origin := some .ref, age := some 0 } }

/-- The same keyer in a reference state. -/
def refAt (r : RefState) (s : State) : State := { s with ref := { s.ref with state := r } }

/-- A frame of 60 symbols from a start. -/
def plain (n0 : Int) : Frame :=
  { n0 := n0, symbols := .mark :: List.replicate 59 .short, noticeWord := 0#32, segment := 0, offset := 0
    classAtBuild := .a, kind := .onTime, stale := false }

/-- The same keyer with its two frames. -/
def frames (current next : Option Frame) (s : State) : State :=
  { s with frames := { s.frames with current := current, next := next } }

/-- The same keyer with a schedule. -/
def lists (entries : List Entry) (s : State) : State := { s with schedule := entries }

/-- An entry. -/
def entry (t : Int) (k : EntryKind) (q : Option Int) (src : Source) (c : Bool) : Entry :=
  { instant := t, kind := k, newOffset := q, source := src, committed := c }

/-- An open second of index `i` whose drive instant was at tick `t`. -/
def second (t : Int) (i : Nat) (a : Action) (y : Symbol) : OpenSecond :=
  { t0 := t, n0 := some 0, index := some i, action := a, intended := some y, listen := false, taken := none, readback := none
    outcome := none, suspended := false }

/-- The same keyer with open seconds. -/
def opens (os : List OpenSecond) (s : State) : State := { s with key := { s.key with opens := os } }

/-- A record with a count and a leap kind. -/
def labelled (n : Int) (kind : Nat) : RefRecord := { n := n, quality := 8, leapKind := kind, leapDay := 0, corrNs := 0 }

/-- The same keyer with a record that waits 500,000 ticks before `turn`, the earliest that labels. -/
def waits (r : RefRecord) (s : State) : State :=
  { s with ref := { s.ref with waiting := some { record := r, time := 19500000 } } }

/-- The same keyer with an own second begun at tick 10,000,000, of a count. -/
def knows (n : Option Int) (s : State) : State :=
  { s with timer := { s.timer with past := [
    { t0 := 10000000, epoch := 10000000, count := n, leap := .plain, keyed := false, refJudged := false }] } }

/-! ## WellFormed: for each check a term it refuses -/

/-- A command before either clock began. -/
theorem test_wf_refuses_negative_tick : (Instr.epoch { tick := -1, clk := 0 }).wf = false := by decide
/-- R162 tests 2, 4 and 5 bytes. -/
theorem test_wf_refuses_header_of_three : (Instr.imageHeaderCheck turn [0x5C#8, 0x3E#8, 0x00#8]).wf = false := by decide
/-- R29: 16 bytes. -/
theorem test_wf_refuses_short_record : (Instr.referenceRecord turn [0xC3#8]).wf = false := by decide
/-- R29: a record begins with 0xC3. -/
theorem test_wf_refuses_record_start : (Instr.referenceRecord turn (List.replicate 16 0x00#8)).wf = false := by decide
/-- R29: a byte that ended after the gap was seen. -/
theorem test_wf_refuses_later_byte : (Instr.recordByteGap turn 20000001).wf = false := by decide
/-- R174: 0x81 is ACK_ALARMS. -/
theorem test_wf_refuses_known_code : (Instr.unknownCode turn 0x81#8).wf = false := by decide
/-- R174: the code of the Worked Alarm Sequence is unknown. -/
theorem test_wf_accepts_unknown_code : (Instr.unknownCode turn 0x09#8).wf = true := by decide

/-! ## Worked values of the spec -/

/-- R185: "123456789" ends at 0x29B1. -/
theorem test_crc_check_value :
    crc16 [0x31#8, 0x32#8, 0x33#8, 0x34#8, 0x35#8, 0x36#8, 0x37#8, 0x38#8, 0x39#8] = 0x29B1#16 := by
  decide +kernel
/-- R22: +250 ns gives 3 ticks, −250 ns gives −3 and +249 ns gives 2. -/
theorem test_correction_rounds_half_away :
    correctionTicks 250 = 3 ∧ correctionTicks (-250) = -3 ∧ correctionTicks 249 = 2 := by decide
/-- R22: a pulse 600 ms after one epoch has e = −4,000,000 against the next. -/
theorem test_phase_error_wraps : wrapError 6000000 = -4000000 := by decide
/-- The Second Timer of a worked case of 02_second_timing_and_reference_discipline.md, spending one sample. -/
def spends (f a : Int) (ref line : Option Int) (used : Option Nat) (active : Bool) (r : RefState) : Int × Int × Int :=
  let t : Timer := { Timer.reset with f := f, a := a, heldRef := ref, heldLine := line, usedMarker := used, receivedMarker := some 1 }
  let u := t.fixLength active r true
  (u.f, u.a, u.length)

/-- Worked cases 1 and 2: floor of a negative quotient. -/
theorem test_discipline_cases_1_2 :
    spends 98304 40000 (some 37) none none false .locked = (107776, 16704, 10000006) ∧
    spends (-30000) 10000 (some (-45)) none none false .locked = (-41520, 34016, 9999994) := by decide
/-- Worked case 3: a LINE sample 60 epochs after the last one used, and 130 epochs after it. -/
theorem test_discipline_case_3 :
    spends 20000 50000 none (some 300) (some 60) true .holdover = (21280, 5744, 10000021) ∧
    spends 20000 50000 none (some 300) (some 130) true .holdover = (20000, 4464, 10000021) := by decide
/-- Worked cases 4 and 5: the clamp of F, and a step while not ACTIVE against steering while ACTIVE. -/
theorem test_discipline_cases_4_5 :
    spends 3270000 65000 (some 100) none none false .locked = (3276800, 65000, 10000062) ∧
    spends 0 0 (some 12345) none none false .locked = (0, 0, 10012345) ∧
    spends 0 0 (some 12345) none none true .locked = (3160320, 14592, 10000068) := by decide

/-- Worked Conversions: count to fields, with offset +8, and back. -/
theorem test_calendar_fields :
    localFields (828061200 + 7200) = { minute := 0, hour := 3, dayOfYear := 88, yearOfCentury := 26, weekday := 7 } ∧
    frameStartOf 2026 88 3 0 8 = 828061200 := by decide
/-- Worked Conversions: the first Sunday of March's rule, 2026, the END of 2025, and the first Sunday of November 2026. -/
theorem test_rule_dates :
    ruleInstant { month := 3, ordinal := 5, weekday := 7, minute := 60 } 2026 = 828061200 ∧
    ruleInstant { month := 10, ordinal := 5, weekday := 7, minute := 60 } 2025 = 814755600 ∧
    ruleDayOfMonth { month := 11, ordinal := 1, weekday := 7, minute := 0 } 2026 = 1 := by decide
/-- Worked Conversions: the edges of the range. -/
theorem test_calendar_edges :
    localFields (0 - 18000) = { minute := 0, hour := 19, dayOfYear := 365, yearOfCentury := 99, weekday := 5 } ∧
    localFields 3155763540 = { minute := 59, hour := 0, dayOfYear := 1, yearOfCentury := 0, weekday := 5 } := by decide
/-- 01_the_broadcast_code.md, Worked Frames and Worked Notice: the four words. -/
theorem test_notice_words :
    wordOf 828061140 (entry 828061200 .offset (some 8) .rule false) = 0xC40001E7#32 ∧
    wordOf 828061200 (entry (9794 * 86400 + 3600) .offset (some 4) .rule false) = 0xC23481E3#32 ∧
    wordOf (10013 * 86400) (entry (10043 * 86400) .leapInsert none .ref false) = 0x40078005#32 ∧
    wordOf (10042 * 86400 + 82740) (entry (10043 * 86400) .leapInsert none .ref false) = 0x40004002#32 := by decide
/-- Worked Frames: the 00:59 UTC frame, symbol by symbol from the announcement bits to the notice parity. -/
theorem test_frame_symbols :
    (frameSymbols 60 { lp := false, oc := true, ls := false, su := false } (localFields (828061140 + 3600)) 4 0xE7 3).map
      (fun y => if y = .mark then 9 else if y = .long then 1 else 0) =
      [9, 0,1,0,0, 1, 1,1,1,0,1,1, 1, 0,0,0,0,1, 1, 0,0,1,0,1,1,0,0,0, 1, 0,0,1,1,0,1,0, 1, 1,1,1, 1, 0,0,0,0,1,0,0, 1,
       1,1,1,0,0,1,1,1, 1,1, 0] := by decide
/-- 06_the_shared_keying_line.md: the frame of N0 = 827,316,480 has listen index 7 in slot 0; the Worked Image Walk: slot 2 has 33 to 43. -/
theorem test_listen_index :
    listenIndexOf 0 827316480 = 7 ∧ listenIndexOf 2 0 = 33 ∧ listenIndexOf 2 300 = 43 := by decide

/-- The image of the Worked Image Walk, with the next offset of its ALERT record, without its CRC. -/
def workedImage (next : Byte) : List Byte :=
  [0x5C#8, 0x3E#8, 0x00#8, 0x3E#8, 0x01#8, 0x00#8, 0x07#8] ++
  [0x01#8, 0x11#8, 0x00#8, 0x1C#8, 0x00#8, 0x3C#8, 0x05#8, 0xDC#8, 0x07#8, 0xD0#8, 0x02#8, 0x00#8, 0x00#8, 0x0E#8, 0x10#8, 0x08#8,
   0x00#8, 0x96#8, 0x00#8, 0x14#8, 0x01#8] ++
  [0x09#8, 0x06#8, 0x00#8, 0x26#8, 0x00#8, 0x00#8, 0x00#8, 0x00#8, 0x00#8, 0x00#8] ++
  [0x02#8, 0x0C#8, 0x00#8, 0x36#8, 0x04#8, 0x08#8, 0x03#8, 0x05#8, 0x07#8, 0x00#8, 0x3C#8, 0x0A#8, 0x05#8, 0x07#8, 0x00#8, 0x3C#8] ++
  [0x04#8, 0x02#8, 0x00#8, next, 0x02#8, 0x00#8]

/-- Worked Image Walk: OK, EPOCH_TOL limited to 1,000, ALERT_DELAY clamped to 1, the clamp flag set. -/
theorem test_worked_walk :
    let w := walkImage (workedImage 0x00#8 ++ [0x00#8, 0x00#8])
    w.result = .ok ∧ w.walked.clamp = true ∧
      w.walked.staging.site = some { announce := 60, epochTol := 1000, rescueGrace := 2000, conflictLimit := 2, holdLimit := 3600
                                     qMin := 8, keyAdvance := 150, outlier := 20, lineDiscipline := true } ∧
      w.walked.staging.alert = some { count := 2, delay := 1 } ∧ w.walked.staging.zone.map (fun z => z.summer) = some 8 := by
  decide
/-- Worked Image Walk: with ALERT's next offset at 40 the walk ends with CHAIN. -/
theorem test_worked_walk_chain : (walkImage (workedImage 0x28#8 ++ [0x00#8, 0x00#8])).result = .chain := by decide
/-- 11_formats.md: a class-A keyer that keys alone shows 0x28, 0x40 and 0x01, and 0x00 in repetitions 2 and 3. -/
theorem test_lamp_words :
    let s := refAt .locked (setAt 0 (stands .active { up with timer := { up.timer with source := .ref } }))
    s.lampWords = { reference := 0x28#8, standing := 0x40#8, alarm := 0x01#8 } ∧
      ({ s with maint := { s.maint with groupCount := 2 } } : State).lampWords =
        { reference := 0x28#8, standing := 0x40#8, alarm := 0x00#8 } := by decide
/-- R172: the worked keyer of slot 2 answers at port address 0x4E. -/
theorem test_port_address :
    ({ up with load := { up.load with slot := 2 } } : State).acknowledges 0x4E = true ∧
      ({ up with load := { up.load with slot := 2 } } : State).acknowledges 0x4C = false := by decide
/-- R161: the read instruction 0x03 and the address 0x0000. -/
theorem test_read_instruction : ofBits readInstructionBits = 0x030000 := by decide
/-- R161: the signature on MEM_DI, most significant bit first. -/
theorem test_image_bytes :
    imageBytes [false, true, false, true, true, true, false, false, false, false, true, true, true, true, true, false] =
      [0x5C#8, 0x3E#8] := by decide
/-- R160, R161: MEM_CLK and MEM_DO low in SETTLING; in READING the seventh and eighth bits of the instruction 0x03 are its ones. -/
theorem test_memory_pins :
    let l : Loader := { Loader.reset with phase := .reading, memCs := .low, resetEndClk := 0 }
    ({ l with phase := .settling, memCs := .high } : Loader).memPins 299999 = { cs := .high, clock := .low, dataOut := .low } ∧
    (l.memPins 300000).dataOut = .low ∧ (l.memPins 300300).dataOut = .high ∧ (l.memPins 300350).dataOut = .high ∧
    (l.memPins 300400).dataOut = .low ∧ (l.memPins 300349).clock = .high := by decide
/-- R180: a repetition of the words 0x28, 0x40 and 0x01 shows its third and its last bit as ones, then the latch pulse for 4 µs. -/
theorem test_status_pins :
    let w : LampWords := { reference := 0x28#8, standing := 0x40#8, alarm := 0x01#8 }
    (w.pins 8).data = .high ∧ (w.pins 12).data = .low ∧ (w.pins 95) = { clock := .high, data := .high, latch := .low } ∧
    (w.pins 96).latch = .high ∧ (w.pins 99).latch = .high ∧ w.pins 100 = { clock := .low, data := .low, latch := .low } := by decide

/-- The clocks of a byte on the bus, with the ninth. -/
def busByte (b : Nat) : List BusEvent :=
  (bitsOf 8 b).map (fun x => .clock (if x then .high else .low)) ++ [.clock .low]

/-- R172, R173: slot 2's port takes a write of 0x01 as a selection of STATUS at the stop; another address is not answered. -/
theorem test_bus_write :
    let s : State := { up with load := { up.load with slot := 2 } }
    let send (a : Nat) : State := (BusEvent.start :: (busByte a ++ busByte 0x01 ++ [.stop])).foldl (fun s e => s.onBus turn e) s
    (send 0x9C).pending = [.status turn] ∧ (send 0x98).pending = [] ∧ (send 0x9C).maint.port = PortLine.idle := by decide
/-- 01_the_broadcast_code.md, Worked Notice: the 00:59 UTC frame brings the segment 0xE7 that completes the word C40001E7, which offers
the offset +8 at 828,061,200. -/
theorem test_notice_assembled :
    let s : State := { setAt 828061100 up with line := { up.line with
      notice := some { cycleStart := 828060960, segments := [0xC4#8, 0x00#8, 0x01#8] } } }
    let f : LineFrame := { n0 := 828061140, symbols := frameSymbols 60 { lp := false, oc := true, ls := false, su := false }
                             (localFields (828061140 + 3600)) 4 0xE7 3, markFall := 0, markTicks := 0, mixed := false }
    (s.noticeFrame f).schedule = [entry 828061200 .offset (some 8) .line false] ∧ (s.noticeFrame f).line.notice = none := by decide

/-! ## Witnesses: states and operands that meet the hypotheses of the statements -/

/-- `up` with the alarm of a lost reference held and ALERT_N asserted. -/
def alarmed : State :=
  { up with maint := { up.maint with
    alarms := [{ kind := .refLost, firstN := none, count := 1 }], raisings := 1, alertFrom := some 0, alertN := true } }

theorem witness_LoadAndAlarmsStand : ∃ t, alarmed.load.phase = .done ∧ exec (.alarms turn) alarmed = .next t ∧
    (∀ now, Instr.alarms turn ≠ .reset now) ∧ (∀ now, Instr.alarms turn ≠ .ackAlarms now) ∧
    (∀ now, Instr.alarms turn ≠ .recordClose now) ∧ alarmed.maint.alarms ≠ [] ∧ alarmed.maint.alertN = true :=
  ⟨_, rfl, rfl, by simp, by simp, by simp, by decide, rfl⟩

/-- An ACTIVE keyer with a plain current frame, at the count before a drive instant of index 5. -/
def keys5 : State := frames (some (plain 0)) none (setAt 4 (stands .active up))

theorem witness_ActiveChangesOnlyAtDriveInstants : ∃ t, keys5.ctl.standing = .active ∧
    (∀ now, Instr.oscillatorLoss turn ≠ .driveInstant now) ∧ exec (.oscillatorLoss turn) keys5 = .next t :=
  ⟨_, rfl, by simp, rfl⟩

theorem witness_CountNeverJumpsWhileActive : ∃ t, keys5.ctl.standing = .active ∧ (driven keys5).time.n = some 4 ∧
    exec (.epoch turn) (driven keys5) = .next t := ⟨_, rfl, rfl, rfl⟩

/-- A keyer in reset, in SETTLING from 0, and in READING. -/
def loading (p : LoadPhase) : State := { State.reset with load := { Loader.reset with phase := p, resetEndClk := 0 } }

theorem witness_StartUpReadsAndTestsTheHeader :
    (loading .held).load.phase = .held ∧ (loading .settling).load.phase = .settling ∧
    ((300000 : Nat) = (loading .settling).load.resetEndClk + 300000) ∧ (loading .reading).load.phase = .reading ∧
    (loading .reading).load.imageLength = 0 ∧
    (300000 + (24 + 8 * 2) * 50 : Nat) = (loading .reading).load.resetEndClk + 300000 + (24 + 8 * [0x5C#8, 0x3F#8].length) * 50 ∧
    (0x3F#8 ≠ 0x3E#8) ∧ (0x00#8).toNat * 256 + (0x0F#8).toNat < 16 ∧ 4096 < (0x10#8).toNat * 256 + (0x01#8).toNat ∧
    16 ≤ (0x00#8).toNat * 256 + (0x10#8).toNat ∧ (0x10#8).toNat * 256 + (0x00#8).toNat ≤ 4096 := by decide

/-- A keyer that has read the five header bytes of an image of 16 bytes. -/
def reading16 : State := { State.reset with load := { Loader.reset with
  phase := .reading, buffer := [0x5C#8, 0x3E#8, 0x00#8, 0x10#8, 0x01#8], imageLength := 16 } }

/-- A keyer that has read the five header bytes of the worked image. -/
def readingWorked (next : Byte) : State := { State.reset with load := { Loader.reset with
  phase := .reading, buffer := (workedImage next).take 5, imageLength := 62 } }

/-- The rest of the worked image with its CRC. -/
def workedRest (next : Byte) : List Byte :=
  (workedImage next).drop 5 ++ [(crc16 (workedImage next)).extractLsb' 8 8, (crc16 (workedImage next)).extractLsb' 0 8]

/-- Worked Image Walk, and the same with a next offset that fails: EPOCH_TOL 1,500 stands above half of RESCUE_GRACE 2,000. -/
theorem witness_ImageReadEndWalksTheRecords_worked : ∀ next ∈ [0x00#8, 0x28#8],
    (readingWorked next).load.phase = .reading ∧ (readingWorked next).load.imageLength ≠ 0 ∧
    (readingWorked next).load.buffer.length + (workedRest next).length = (readingWorked next).load.imageLength ∧
    crc16 ((readingWorked next).load.buffer ++ workedRest next) = 0#16 ∧
    let w := walkFrom ((readingWorked next).load.buffer ++ workedRest next) 16 7 7 { staging := Staging.empty, clamp := false }
    (next = 0x28#8 → w.result ≠ .ok) ∧
    (next = 0x00#8 → w.result = .ok ∧ w.walked.staging.site.map (fun p => decide (p.rescueGrace / 2 < p.epochTol)) = some true) := by
  decide +kernel

theorem witness_ImageReadEndWalksTheRecords :
    reading16.load.phase = .reading ∧ reading16.load.imageLength ≠ 0 ∧
    reading16.load.buffer.length + (List.replicate 11 0#8).length = reading16.load.imageLength ∧
    crc16 (reading16.load.buffer ++ List.replicate 11 0#8) ≠ 0#16 ∧
    (walkImage (reading16.load.buffer ++ List.replicate 11 0#8)).result = .ok ∧
    crc16 (workedImage 0x00#8 ++ [(crc16 (workedImage 0x00#8)).extractLsb' 8 8, (crc16 (workedImage 0x00#8)).extractLsb' 0 8]) =
      0#16 := by decide +kernel

/-- A keyer that waits to complete, its walk ended well with an ALERT record, or failed. -/
def closing (p : LoadPhase) (r : LoadResult) : State := { State.reset with load := { Loader.reset with
  phase := p, result := some r, clamp := true, doneClk := some 327000 } }

theorem witness_LoadCompletionPutsTheSetInForce : ∀ pr ∈ [(LoadPhase.walking, LoadResult.ok), (.ending, .chain)],
    ((closing pr.1 pr.2).load.phase = .walking ∨ (closing pr.1 pr.2).load.phase = .ending) ∧
    (closing pr.1 pr.2).load.doneClk = some 327000 ∧ (closing pr.1 pr.2).ctl.standing = .loading ∧
    (closing pr.1 pr.2).time.n = none := by decide
theorem witness_LoadCompletionPutsTheSetInForce_image :
    (walkImage (workedImage 0x00#8 ++ [0x00#8, 0x00#8])).result = .ok := by decide
/-- A completion in FAULTED(OSC), and one with the time SET. -/
theorem witness_LoadCompletionPutsTheSetInForce_standings :
    let lost : State := stands .faultedOsc (closing .walking .ok)
    let set : State := setAt 59 (closing .ending .chain)
    lost.ctl.standing ≠ .loading ∧ lost.load.phase = .walking ∧ lost.load.doneClk = some 327000 ∧ set.time.n = some 59 ∧
      set.load.phase = .ending ∧ set.load.doneClk = some 327000 := by decide

/-- A keyer out of reset whose run began at tick 0, with a standing. -/
def down (st : Standing) (p : LoadPhase) : State :=
  { State.reset with load := { Loader.reset with phase := p }, ctl := { Controller.reset with standing := st } }

theorem witness_StableRunMakesTheFirstEpoch : ∀ sp ∈ [(Standing.faultedOsc, LoadPhase.done), (.faultedOsc, .reading), (.loading, .settling)],
    (down sp.1 sp.2).load.phase ≠ .held ∧ (down sp.1 sp.2).timer.monitor = .down ∧
    (down sp.1 sp.2).timer.runFrom + 10000000 = 10000000 ∧ (down sp.1 sp.2).timer.heldRef = none ∧
    (down sp.1 sp.2).timer.heldLine = none ∧ (down sp.1 sp.2).timer.heldStep = none := by decide

theorem witness_OscillatorLossEffects : up.timer.monitor = .up ∧ up.ctl.test.state = .idle ∧
    ({ up with ctl := { up.ctl with test := { up.ctl.test with state := .running } } } : State).ctl.test.state ≠ .idle := by decide

/-! ### Epochs -/

/-- A keyer whose coming epoch is due at `turn`. -/
theorem due_epoch (s : State) (h : s.timer.monitor = .up) (h' : s.timer.nextEpoch = some 20000000) : EpochDue turn (driven s) :=
  ⟨h, h', rfl⟩

/-- A keyer whose coming drive instant is due at `turn`. -/
theorem due_drive (s : State) (h : s.timer.monitor = .up) (h' : s.timer.nextDrive = some 20000000) (h'' : s.timer.driveTaken = false) :
    DriveDue turn s := ⟨h, h', h''⟩

/-- A keyer with a sample or a step held. -/
def holdsSample (ref line step : Option Int) (used : Option Nat) (s : State) : State :=
  { s with timer := { s.timer with heldRef := ref, heldLine := line, heldStep := step, receivedMarker := some 119, usedMarker := used } }

/-- A keyer without LINE_DISCIPLINE that holds a sample of either kind. -/
def undisciplined : State :=
  let s := holdsSample (some 300) (some 300) none none up
  { s with load := { s.load with params := { s.load.params with site := { s.load.params.site with lineDiscipline := false } } } }

theorem witness_SecondLengthFollowsTheSample :
    EpochDue turn (driven (holdsSample (some 1000) none none none (refAt .locked up))) ∧
    EpochDue turn (driven (holdsSample none (some (-1000)) none (some 119) (refAt .holdover up))) ∧
    EpochDue turn (driven (holdsSample none (some 300) none (some 120) keys5)) ∧ EpochDue turn (driven up) ∧
    (refAt .holdover up).load.params.site.lineDiscipline = true ∧ up.timer.heldStep = none ∧ (refAt .holdover up).ref.state ≠ .locked ∧
    EpochDue turn (driven (holdsSample none (some 300) none none (refAt .locked up))) ∧ EpochDue turn (driven undisciplined) ∧
    undisciplined.load.params.site.lineDiscipline = false ∧ undisciplined.ref.state ≠ .locked ∧ up.timer.receivedMarker = none :=
  ⟨due_epoch _ rfl rfl, due_epoch _ rfl rfl, due_epoch _ rfl rfl, due_epoch _ rfl rfl, rfl, rfl, by decide, due_epoch _ rfl rfl,
    due_epoch _ rfl rfl, rfl, by decide, rfl⟩

theorem witness_StepsAreTakenOffTheLine :
    EpochDue turn (driven (holdsSample none none (some 5) none up)) ∧
    EpochDue turn (driven (holdsSample (some 1001) none none none (refAt .locked (setAt 4 up)))) ∧ up.ctl.standing ≠ .active ∧
    up.ctl.standing ≠ .loading ∧ EpochDue turn (driven (holdsSample none none (some 5) none keys5)) ∧ keys5.ctl.standing = .active ∧
    EpochDue turn (driven (holdsSample none (some (-1001)) none none (refAt .holdover up))) ∧
    (refAt .holdover up).load.params.site.lineDiscipline = true ∧
    (holdsSample none (some (-1001)) none none (refAt .holdover up)).timer.receivedMarker = some 119 :=
  ⟨due_epoch _ rfl rfl, due_epoch _ rfl rfl, by decide, by decide, due_epoch _ rfl rfl, rfl, due_epoch _ rfl rfl, rfl, rfl⟩

/-- A step in STANDBY while a self-test keys its frame, and in its closing MARK. -/
theorem witness_StepsAreTakenOffTheLine_test : ∀ c ∈ [none, some (10000000 : Int)],
    let s : State := holdsSample none none (some 5) none (setAt 4 (stands .standby up))
    let u : State := { s with ctl := { s.ctl with test := { SelfTest.reset with state := .running, closeDrive := c } } }
    EpochDue turn (driven u) ∧ u.ctl.test.state = .running ∧ u.time.rangeEnding = false ∧ u.ctl.test.closeDrive = c :=
  fun _ _ => ⟨due_epoch _ rfl rfl, rfl, rfl, rfl⟩

theorem safe_timer (s : State) (hf : s.timer.f = 0) (ha : s.timer.a = 0) (ht : s.load.params.trim = none)
    (hg : s.load.staging.trim = none) : TimerSafe s :=
  { f_low := by rw [hf]; decide, f_high := by rw [hf]; decide, a_low := by rw [ha], a_high := by rw [ha]; decide
    trim_ok := by simp [trimInRange, ht], staged_ok := by simp [trimInRange, hg] }

theorem witness_ActiveSecondsStayNearNominal : ∃ t, TimerSafe (driven keys5) ∧ EpochDue turn (driven keys5) ∧
    (driven keys5).ctl.standing = .active ∧ exec (.epoch turn) (driven keys5) = .next t :=
  ⟨_, safe_timer _ rfl rfl rfl rfl, due_epoch _ rfl rfl, rfl, rfl⟩

/-- A plain advance from a count with an empty schedule. -/
theorem plainly (n : Int) (s : State) (h : s.time.rangeEnding = false) (h' : s.schedule = []) (h'' : s.time.pendingReset = none) :
    AdvancesPlainly n (setAt n s) := ⟨rfl, h, by simp [setAt, h'], h''⟩

theorem witness_PlainEpochAdvancesCountAndAge :
    EpochDue turn (driven (setAt 4 up)) ∧ AdvancesPlainly 4 (setAt 4 up) ∧ Flywheels up ∧ (4 : Int) + 1 < 3155759999 ∧
    ((4 : Int) + 1) % 86400 ≠ 0 ∧ up.frames.next = none ∧ up.frames.current = none ∧ (0 : Nat) ≠ up.load.params.site.holdLimit ∧
    EpochDue turn (driven { setAt 4 up with time := { (setAt 4 up).time with age := some 3600 } }) ∧ up.ref.state ≠ .locked ∧
    up.load.params.site.holdLimit = 3600 :=
  ⟨due_epoch _ rfl rfl, plainly _ _ rfl rfl rfl, ⟨rfl, rfl, rfl⟩, by decide, by decide, rfl, rfl, by decide, due_epoch _ rfl rfl,
    by decide, rfl⟩

/-- A keyer at the last second before a leap, its entry committed, and at a minute's last second before an offset change. -/
def leaps (k : EntryKind) (n : Int) : State := lists [entry 86400 k none .ref true] (setAt n up)
def shifts : State := lists [entry 3600 .offset (some 8) .rule false] (setAt 3599 up)

/-- A keyer in an inserted second. -/
def inserts (n : Int) : State :=
  let s := leaps .leapInsert n
  { s with timer := { s.timer with past := [
    { t0 := 10000000, epoch := 10000000, count := some n, leap := .inserted, keyed := false, refJudged := false }] } }

theorem witness_LeapsAndOffsetsTakeEffectAtEpochs :
    EpochDue turn (driven (leaps .leapInsert 86399)) ∧ EpochDue turn (driven shifts) ∧
    committedLeap (leaps .leapInsert 86399).schedule = some (entry 86400 .leapInsert none .ref true) ∧
    committedLeap (leaps .leapDelete 86398).schedule = some (entry 86400 .leapDelete none .ref true) ∧
    committedLeap shifts.schedule = none ∧
    shifts.schedule.find? (fun x => decide (x.instant = 3600 ∧ x.kind = .offset)) = some (entry 3600 .offset (some 8) .rule false) ∧
    EpochDue turn (driven (inserts 86399)) ∧ (∃ p rest, (inserts 86399).timer.past = p :: rest ∧ p.leap = .inserted) ∧
    EpochDue turn (driven (holdsSample none none (some 5) none (leaps .leapInsert 86399))) ∧ Flywheels (leaps .leapInsert 86399) ∧
    (86400 : Int) ≠ 86397 + 1 ∧ (86400 : Int) ≠ 86397 + 2 ∧ EpochDue turn (driven (leaps .leapDelete 86397)) :=
  ⟨due_epoch _ rfl rfl, due_epoch _ rfl rfl, rfl, rfl, rfl, rfl, due_epoch _ rfl rfl, ⟨_, _, rfl, rfl⟩, due_epoch _ rfl rfl, ⟨rfl, rfl, rfl⟩,
    by decide, by decide, due_epoch _ rfl rfl⟩
/-- A leap with an OFFSET entry of its instant, before the inserted second, in it, and before a deletion. -/
theorem witness_LeapsAndOffsetsTakeEffectAtEpochs_offset :
    let o := entry 86400 .offset (some 8) .rule false
    let both (k : EntryKind) (s : State) : State := lists [entry 86400 k none .ref true, o] s
    (∀ x ∈ (both .leapInsert (leaps .leapInsert 86399)).schedule, 86399 < x.instant) ∧ (86400 : Int) % 86400 = 0 ∧
    (∀ k ∈ [EntryKind.leapInsert, .leapDelete], committedLeap (both k up).schedule = some (entry 86400 k none .ref true) ∧
      (both k up).schedule.find? (fun x => decide (x.instant = 86400 ∧ x.kind = .offset)) = some o) ∧
    EpochDue turn (driven (both .leapInsert (leaps .leapInsert 86399))) ∧ EpochDue turn (driven (both .leapInsert (inserts 86399))) ∧
    EpochDue turn (driven (both .leapDelete (leaps .leapDelete 86398))) :=
  ⟨by decide, by decide, by decide, due_epoch _ rfl rfl, due_epoch _ rfl rfl, due_epoch _ rfl rfl⟩

theorem witness_CountRangeEndsUnset :
    EpochDue turn (driven (setAt 3155759998 up)) ∧ AdvancesPlainly 3155759998 (setAt 3155759998 up) ∧
    EpochDue turn (driven { setAt 3155759999 up with time := { (setAt 3155759999 up).time with rangeEnding := true } }) :=
  ⟨due_epoch _ rfl rfl, plainly _ _ rfl rfl rfl, due_epoch _ rfl rfl⟩
/-- A command that answers while the range is ending. -/
theorem witness_CountRangeEndsUnset_kept :
    let s : State := { setAt 3155759999 up with time := { (setAt 3155759999 up).time with rangeEnding := true } }
    s.time.rangeEnding = true ∧ (∀ now, Instr.driveInstant turn ≠ .epoch now) ∧ (∀ now, Instr.driveInstant turn ≠ .reset now) ∧
      (∀ now, Instr.driveInstant turn ≠ .oscillatorLoss now) ∧ ∃ t, exec (.driveInstant turn) s = .next t :=
  ⟨rfl, by simp, by simp, by simp, _, rfl⟩

/-- A keyer with a pending SET for the epoch at `turn`, and one with a pending re-set. -/
def setsAt (c : Int) : State := { up with time := { up.time with pendingSet := some { count := c, epoch := 20000000, origin := .ref } } }
def resetsBy (d : Int) : State :=
  { setAt 100 up with time := { (setAt 100 up).time with pendingReset := some { difference := some d, phase := some 250 } } }

theorem witness_HeldCountsAreTakenAtAnEpoch :
    EpochDue turn (driven (setsAt 0)) ∧ (setsAt 0).time.n = none ∧ (setsAt 0).time.pendingReset = none ∧ (setsAt 0).schedule = [] ∧
    EpochDue turn (driven (resetsBy (-101))) ∧ (resetsBy (-101)).ctl.standing ≠ .active ∧ (resetsBy (-101)).time.rangeEnding = false ∧
    committedLeap (resetsBy (-101)).schedule = none ∧ (-101 : Int) ≠ 0 ∧ (0 : Int) ≤ 100 + 1 + -101 :=
  ⟨due_epoch _ rfl rfl, rfl, rfl, rfl, due_epoch _ rfl rfl, by decide, rfl, rfl, by decide, by decide⟩
/-- A count and a sum at which no year begins. -/
theorem witness_HeldCountsAreTakenAtAnEpoch_rules :
    EpochDue turn (driven (setsAt 60)) ∧ (60 : Int) % 86400 ≠ 0 ∧ EpochDue turn (driven (resetsBy 5)) ∧ ((100 : Int) + 1 + 5) % 86400 ≠ 0 :=
  ⟨due_epoch _ rfl rfl, by decide, due_epoch _ rfl rfl, by decide⟩
/-- A pending re-set of one part alone, off the line and on it. -/
theorem witness_HeldCountsAreTakenAtAnEpoch_parts : ∀ st ∈ [Standing.survey .watching, .active],
    ∀ r ∈ [({ difference := none, phase := some 250 } : PendingReset), { difference := some 5, phase := none }],
    let s : State := stands st { setAt 100 up with time := { (setAt 100 up).time with pendingReset := some r } }
    EpochDue turn (driven s) ∧ s.ctl.standing = st ∧ s.time.n = some 100 ∧ s.time.rangeEnding = false ∧
      committedLeap s.schedule = none ∧ s.time.pendingReset = some r ∧ ∀ x ∈ s.schedule, x.instant ≠ 100 + 1 :=
  fun _ _ _ _ => ⟨due_epoch _ rfl rfl, rfl, rfl, rfl, rfl, rfl, by simp [stands, setAt, up, State.reset]⟩

/-- A keyer whose coming epoch is index 45 of the last frame of a day. -/
def buildsNext (es : List Entry) : State :=
  lists es (frames (some (plain 86280)) none (setAt (86280 + 44) up))

theorem witness_BuildPointMakesTheNextFrame : ∀ k ∈ [EntryKind.leapInsert, .leapDelete],
    EpochDue turn (driven (buildsNext [entry 86400 k none .ref false])) ∧
    AdvancesPlainly (86280 + 44) (buildsNext [entry 86400 k none .ref false]) ∧
    Flywheels (buildsNext [entry 86400 k none .ref false]) ∧ (plain 86280).n0 + 45 = (86280 + 44) + 1 ∧
    (∀ e ∈ (buildsNext [entry 86400 k none .ref false]).schedule, e.instant ≠ 86280 + 44 + 1) :=
  fun _ _ => ⟨due_epoch _ rfl rfl, ⟨rfl, rfl, by simp [buildsNext, lists, entry], rfl⟩, ⟨rfl, rfl, rfl⟩, by decide,
    by simp [buildsNext, lists, entry]⟩
/-- A next frame that is stale, or is not, before an epoch within its minute. -/
theorem witness_BuildPointMakesTheNextFrame_stale : ∀ b ∈ [true, false],
    let g : Frame := { plain 60 with stale := b }
    let s := frames (some (plain 0)) (some g) (setAt 50 up)
    EpochDue turn (driven s) ∧ AdvancesPlainly 50 s ∧ Flywheels s ∧ s.frames.next = some g ∧ g.stale = b ∧ ((50 : Int) + 1) % 86400 ≠ 0 ∧
      (s.offer { instant := 3600, kind := .offset, newOffset := some 8, source := .line }).schedule ≠ s.schedule := by
  intro b h
  simp only [List.mem_cons, List.not_mem_nil, or_false] at h
  rcases h with rfl | rfl <;>
    exact ⟨due_epoch _ rfl rfl, ⟨rfl, rfl, fun _ h => (by cases h), rfl⟩, ⟨rfl, rfl, rfl⟩, rfl, rfl, by decide, by decide⟩

theorem witness_CalendarAndRuleInstantsAgree : ∀ o ∈ [1, 5], RuleInRange { month := 12, ordinal := o, weekday := 7, minute := 1439 } := by
  intro o h
  simp only [List.mem_cons, List.not_mem_nil, or_false] at h
  rcases h with rfl | rfl <;> exact ⟨by decide, by decide, by decide, by decide⟩

/-! ### The schedule and the frames -/

/-- An offer. -/
def offers (t : Int) (k : EntryKind) (q : Option Int) (src : Source) : Offer := { instant := t, kind := k, newOffset := q, source := src }

/-- Offers at the boundaries of the tests, and entries they meet. -/
theorem witness_OffersAreTestedAndPlaced :
    (setAt 86340 up).time.n = some 86340 ∧ (refAt .locked (setAt 86340 up)).cls = .a ∧
    (offers 86340 .offset (some 8) .rule).instant ≤ 86340 ∧ ¬ ((3155760060 : Int) ≤ 3155760000) ∧
    monthEnd ((31 * 86400 : Int) / 86400 - 1) = true ∧ monthEnd ((30 * 86400 : Int) / 86400 - 1) = false ∧
    (lists [entry (31 * 86400) .leapInsert none .line false] (setAt 86340 up)).schedule =
      [] ++ entry (31 * 86400) .leapInsert none .line false :: [] ∧
    (offers (31 * 86400) .leapDelete none .ref).instant = (31 * 86400 : Int) := by decide

theorem safe_entry (t : Int) (q : Int) (src : Source) (h : t % 60 = 0) (hq : -48 ≤ q ∧ q ≤ 56) :
    EntrySafe (entry t .offset (some q) src false) :=
  ⟨h, by simp [entry, EntryKind.isLeap], fun _ => ⟨q, rfl, hq.1, hq.2⟩, by simp [entry, EntryKind.isLeap]⟩

/-- Eight offset changes a minute apart. -/
def eight : List Entry := (List.range 8).map (fun (k : Nat) => entry (60 * ((k : Int) + 2)) .offset (some 4) .line false)

theorem safe_eight (k : Nat) : ScheduleSafe (lists (eight.take k) (setAt 0 up)) where
  size := by simp [lists, eight]
  order := List.Pairwise.sublist (List.take_sublist k eight) (by decide)
  entries := by
    intro e he
    have he' := List.mem_of_mem_take (show e ∈ eight.take k from he)
    simp only [eight, List.mem_map] at he'
    obtain ⟨j, -, rfl⟩ := he'
    refine safe_entry _ _ _ ?_ (by decide)
    show (60 * ((j : Int) + 2)) % 60 = 0
    omega
  future := by
    intro n hn e he
    have he' := List.mem_of_mem_take (show e ∈ eight.take k from he)
    simp only [eight, List.mem_map] at he'
    obtain ⟨j, -, rfl⟩ := he'
    simp only [lists, setAt, Option.mem_def, Option.some.injEq] at hn
    subst hn
    show (0 : Int) < 60 * ((j : Int) + 2)
    omega
  unset := by simp [lists, setAt]

theorem witness_OffersAreTestedAndPlaced_room : ScheduleSafe (lists (eight.take 7) (setAt 0 up)) ∧
    ScheduleSafe (lists (eight.take 8) (setAt 0 up)) ∧ (lists (eight.take 7) (setAt 0 up)).schedule.length < 8 ∧
    (∃ pre last, (lists (eight.take 8) (setAt 0 up)).schedule = pre ++ [last] ∧ pre.length = 7 ∧ 60 < last.instant ∧ last.instant < 3600) ∧
    (∀ e ∈ eight, e.instant ≠ 60 ∧ e.instant ≠ 3600) :=
  ⟨safe_eight 7, safe_eight 8, by decide, ⟨eight.take 7, entry 540 .offset (some 4) .line false, by decide, by decide, by decide, by decide⟩,
    by decide⟩

/-- Eight entries of which the last is an OFFSET entry at the end of January 2000, and an OFFSET entry alone there. -/
def endsMonth (k : Nat) : List Entry := eight.take k ++ [entry (31 * 86400) .offset (some 4) .line false]

theorem safe_endsMonth (k : Nat) (hk : k ≤ 7) : ScheduleSafe (lists (endsMonth k) (setAt 0 up)) where
  size := by simp [lists, endsMonth, eight]; omega
  order := by
    have h : (endsMonth 7).Pairwise (fun a b => a.before b = true) := by decide
    refine List.Pairwise.sublist ?_ h
    have hs : (eight.take k).Sublist (eight.take 7) := by
      rw [show eight.take k = (eight.take 7).take k by rw [List.take_take, Nat.min_eq_left hk]]
      exact List.take_sublist _ _
    exact hs.append_right _
  entries := by
    intro e he
    rcases List.mem_append.mp (show e ∈ endsMonth k from he) with he | he
    · exact (safe_eight k).entries e he
    · rw [List.mem_singleton.mp he]; exact safe_entry _ _ _ (by decide) (by decide)
  future := by
    intro n hn e he
    rcases List.mem_append.mp (show e ∈ endsMonth k from he) with he | he
    · exact (safe_eight k).future n hn e he
    · simp only [lists, setAt, Option.mem_def, Option.some.injEq] at hn
      subst hn
      rw [List.mem_singleton.mp he]; decide
  unset := by simp [lists, setAt]

/-- A leap offer beside the OFFSET entry of its instant, with room and in a full list. -/
theorem witness_OffersAreTestedAndPlaced_beside : ∀ k ∈ [0, 7],
    ScheduleSafe (lists (endsMonth k) (setAt 0 up)) ∧ (0 : Int) < (offers (31 * 86400) .leapInsert none .ref).instant ∧
    (offers (31 * 86400) .leapInsert none .ref).instant % 86400 = 0 ∧ monthEnd (31 * 86400 / 86400 - 1) = true ∧
    (∀ e ∈ endsMonth k, e.instant = 31 * 86400 → (e.kind = .offset ↔ (EntryKind.leapInsert : EntryKind) ≠ .offset)) ∧
    (k = 7 → (endsMonth k).length = 8) ∧ (k = 0 → (endsMonth k).length < 8) := by
  intro k h
  simp only [List.mem_cons, List.not_mem_nil, or_false] at h
  rcases h with rfl | rfl <;> exact ⟨safe_endsMonth _ (by decide), by decide, by decide, by decide, by decide, by decide, by decide⟩

/-- The start of the year 2001, and a ZONE record. -/
theorem witness_OffersAreTestedAndPlaced_rules :
    EpochDue turn (driven (setAt (366 * 86400 - 1) up)) ∧ AdvancesPlainly (366 * 86400 - 1) (setAt (366 * 86400 - 1) up) ∧
    Flywheels (setAt (366 * 86400 - 1) up) ∧ (366 * 86400 - 1 + 1 : Int) % 86400 = 0 ∧ dayOfYear ((366 * 86400 - 1 + 1 : Int) / 86400) = 1 ∧
    ∃ p : Params, ({ setAt 0 up with load := { up.load with params := p } } : State).load.params.zone.isSome = true :=
  ⟨due_epoch _ rfl rfl, plainly _ _ rfl rfl rfl, ⟨rfl, rfl, rfl⟩, by decide, by decide,
    { Params.defaults with zone := some { standard := 4, summer := 8
                                          startRule := { month := 3, ordinal := 5, weekday := 7, minute := 60 }
                                          endRule := { month := 10, ordinal := 5, weekday := 7, minute := 60 } } }, rfl⟩

theorem witness_BuiltFramesReadBack : ScheduleSafe (lists (eight.take 1) (setAt 0 up)) ∧ 1 ≤ up.load.params.site.announce ∧
    (frameFor 60 .onTime 0#32 (lists (eight.take 1) (setAt 0 up))).offset = 0 ∧ (60 : Int) % 60 = 0 :=
  ⟨safe_eight 1, by decide, by decide, by decide⟩
/-- The window of an entry of R76 begins ANNOUNCE minutes before its instant, and its instant is not in it. -/
theorem witness_BuiltFramesReadBack_windows : ∀ e ∈ [entry 86400 .leapDelete none .ref false, entry 86400 .offset (some 8) .rule false],
    inWindow 60 (86400 - 3600) e = true ∧ inWindow 60 (86400 - 3660) e = false ∧ inWindow 60 86340 e = true ∧ inWindow 60 86400 e = false ∧
      (frameFor 86340 .onTime 0#32 (lists [e] (setAt 86300 up))).symbols[1]? = some (if e.kind = .leapDelete then .long else .short) ∧
      (frameFor 86340 .onTime 0#32 (lists [e] (setAt 86300 up))).symbols[2]? = some (if e.kind = .leapDelete then .short else .long) ∧
      (frameFor 86340 .onTime 0#32 (lists [e] (setAt 86300 up))).symbols[3]? = some (if e.kind = .leapDelete then .long else .short) := by
  decide

theorem witness_NoticeWordsReadBack : EntrySafe (entry (511 * 86400 + 86340) .offset (some 56) .rule false) ∧
    ((511 * 86400 + 86340 : Int) / 86400 - 0 / 86400 ≤ 511) ∧ EntrySafe (entry 86400 .leapInsert none .ref false) :=
  ⟨safe_entry _ _ _ (by decide) (by decide), by decide,
    ⟨by decide, fun _ => by decide, by simp [entry], fun _ => rfl⟩⟩
/-- An entry 511 days ahead, one 512 days ahead, and one that is not later; a segment-0 frame and another. -/
theorem witness_NoticeWordsReadBack_entry :
    [entry 60 .offset (some 4) .rule false, entry (511 * 86400 + 60) .offset (some 8) .rule false] =
      [entry 60 .offset (some 4) .rule false] ++ entry (511 * 86400 + 60) .offset (some 8) .rule false :: [] ∧
    (60 : Int) ≤ 60 ∧ (511 * 86400 + 60 : Int) / 86400 - 60 / 86400 ≤ 511 ∧ 511 < (512 * 86400 : Int) / 86400 - 60 / 86400 ∧
    (240 : Int) % 86400 / 60 % 4 = 0 ∧ (300 : Int) % 86400 / 60 % 4 ≠ 0 := by decide
/-- The frames of a cycle from its start, with class B, and a class-A keyer. -/
theorem witness_NoticeWordsReadBack_frames : ∀ k ∈ [(0 : Nat), 1, 2, 3],
    let symbols := frameSymbols 60 { lp := false, oc := false, ls := false, su := false } (localFields (60 * (k : Int))) 0 0 k
    lineSegmentIndex symbols = k ∧ (k : Int) = (60 * (k : Int)) % 86400 / 60 % 4 ∧
    60 * (k : Int) = (0 : Int) + 60 * (k : Int) ∧ (setAt 0 up).cls ≠ .a ∧ (refAt .locked (setAt 0 up)).cls = .a ∧
    ((List.replicate k 0x00#8).length = k) := by decide

/-- A keyer before its MARK drive instant, with a standing. -/
def marks (st : Standing) : State := frames (some (plain 0)) (some (plain 60)) (setAt 59 (stands st up))

theorem marks_mark (st : Standing) (c : Controller) : DrivesMark (plain 60) { marks st with ctl := c } :=
  ⟨⟨rfl, rfl, plain 0, 60, .plain, rfl, rfl, by decide, by decide⟩, .plain, rfl⟩

theorem witness_MarkSwapsTheFrames : DriveDue turn (marks .active) ∧ DrivesSwap (plain 60) (marks .active) :=
  ⟨due_drive _ rfl rfl rfl, (marks_mark .active (marks .active).ctl).swap⟩
/-- A MARK drive instant that finds its next frame stale. -/
theorem witness_MarkSwapsTheFrames_stale :
    let h : Frame := { plain 60 with stale := true }
    let s := frames (some (plain 0)) (some h) (setAt 59 (stands .active up))
    DriveDue turn s ∧ s.frames.next = some h ∧ h.stale = true ∧ SwapComes s :=
  ⟨due_drive _ rfl rfl rfl, rfl, rfl, plain 0, 60, .plain, rfl, rfl, by decide, by decide⟩
/-- The last index before the build point, and the build point. -/
theorem witness_MarkSwapsTheFrames_catchUp : (setAt 44 up).time.n = some 44 ∧ (setAt 44 up).ctl.standing ≠ .loading ∧
    (44 : Int) < 44 - 44 % 60 + 45 ∧ (45 : Int) - 45 % 60 + 45 ≤ 45 ∧ (setAt 44 up).time.leap60 = false := by decide

theorem keys5_index (st : Standing) : DrivesIndex (plain 0) 5 (stands st keys5) :=
  ⟨rfl, 5, .plain, rfl, Or.inr ⟨by decide, by decide, by decide⟩⟩

theorem witness_DriveInstantKeysTheSecond : DriveDue turn keys5 ∧ DrivesIndex (plain 0) 5 keys5 ∧ StaysActive keys5 ∧
    keys5.ctl.test.state = .idle ∧ (plain 0).symbols[5]? = some .short ∧ keys5.key.listenIndex ≠ some 5 ∧
    DriveDue turn (stands .standby keys5) ∧ DrivesIndex (plain 0) 5 (stands .standby keys5) ∧
    DrivesIndex (plain 0) 60 (lists [entry 60 .leapInsert none .ref true] (frames (some (plain 0)) none (setAt 59 (stands .active up)))) :=
  ⟨due_drive _ rfl rfl rfl, keys5_index .active, ⟨rfl, rfl, rfl, rfl⟩, rfl, rfl, by decide, due_drive _ rfl rfl rfl, keys5_index .standby,
    ⟨rfl, 59, .inserted, rfl, Or.inl ⟨rfl, rfl⟩⟩⟩
theorem witness_DriveInstantKeysTheSecond_unset : DriveDue turn up ∧ up.time.n = none ∧ up.ctl.test.state ≠ .running ∧
    up.ctl.standing.surveys = true ∧ DriveDue turn (stands .loading up) ∧ (stands .loading up).ctl.standing = .loading :=
  ⟨due_drive _ rfl rfl rfl, rfl, by decide, rfl, due_drive _ rfl rfl rfl, rfl⟩

/-- A keyer whose swap has been missed: N has reached the next frame's N0, and the coming second is its index 1. -/
def late (st : Standing) : State := frames (some (plain 0)) (some (plain 60)) (setAt 60 (stands st up))

theorem witness_DriveInstantKeysTheSecond_late : DriveDue turn (late (.survey .watching)) ∧
    DrivesLate (plain 60) 1 (late (.survey .watching)) ∧ (late (.survey .watching)).ctl.standing.surveys = true ∧
    (late (.survey .watching)).ctl.silence = false ∧ (plain 60).symbols[1]? = some .short ∧ StaysActive (late .active) :=
  ⟨due_drive _ rfl rfl rfl, ⟨⟨rfl, rfl, plain 0, 61, .plain, rfl, rfl, by decide, by decide⟩, by decide, .plain, rfl⟩, rfl, rfl, rfl,
    ⟨rfl, rfl, rfl, rfl⟩⟩
/-- R91, R183: a keyer that joins on silence at second 1 keys index 1 there, and no MARK. -/
theorem test_a_late_swap_keys_index_1 :
    (match exec (.driveInstant turn) { late (.survey .watching) with ctl := { (late (.survey .watching)).ctl with silence := true } } with
     | .next t => (t.key.drive, t.key.intended, t.key.keyedMark, t.key.opens.map (fun o => o.index))
     | _ => (.released, none, true, [])) = (.pulling, some .short, false, [some 1]) := by decide

/-- ACTIVE before a MARK with a cause held. -/
def leaving (fault withdraw : Bool) (yields : Option YieldTo) : State :=
  { marks .active with ctl := { (marks .active).ctl with faultReport := fault, pendingWithdraw := withdraw, yieldDue := yields } }

theorem witness_StandingTurnsAtDriveInstants :
    DriveDue turn (leaving true true none) ∧ DriveDue turn (leaving false true none) ∧
    DrivesMark (plain 60) (leaving false false (some .deferred)) ∧ StaysActive (leaving false false (some .survey)) ∧
    (leaving true true none).ctl.standing = .active ∧ (leaving true true none).ctl.test.state = .idle ∧
    DriveDue turn { marks (.survey .watching) with ctl := { (marks (.survey .watching)).ctl with silence := true } } ∧
    DrivesMark (plain 60) { marks .deferred with ctl := { (marks .deferred).ctl with pendingJoin := true } } ∧
    (plain 60).symbols.head? = some .mark :=
  ⟨due_drive _ rfl rfl rfl, due_drive _ rfl rfl rfl, marks_mark .active _, ⟨rfl, rfl, rfl, rfl⟩, rfl, rfl, due_drive _ rfl rfl rfl,
    marks_mark .deferred _, rfl⟩

/-! ### A second on KEY -/

/-- A keyer in its second begun at tick 10,000,000, with a drive state and an intended symbol. -/
def pulls (d : DriveState) (y : Symbol) : State :=
  { keys5 with key := { keys5.key with drive := d, intended := some y, t0 := some 10000000, secondKeyed := true, level := some .high } }

/-- A moment. -/
def at_ (t : Int) : Instant := { tick := t, clk := 2000000 }

theorem alone (o : OpenSecond) (s : State) : OpensSecond [] o [] (opens [o] s) := ⟨rfl, by simp⟩

theorem witness_PullsEndAreReadBackAndRescued :
    (pulls .pulling .short).timer.monitor = .up ∧ (pulls .pulling .short).ctl.test.state ≠ .running ∧
    (pulls .pulling .short).key.t0 = some 10000000 ∧ (10000000 : Int) + 1200000 = (at_ 11200000).tick ∧
    (pulls .rescuing .mark).key.drive = .rescuing ∧
    OpensSecond [] (second 10000000 5 .driven .short) [] (opens [second 10000000 5 .driven .short] keys5) ∧
    (10000000 : Int) + 10000 = (at_ 10010000).tick ∧
    (10000000 : Int) + (10 * (keys5.load.params.site.rescueGrace : Int) + 10000) = (at_ 10030000).tick ∧
    (pulls .listening .short).key.drive = .listening ∧
    (10000000 : Int) + 10 * ((pulls .listening .short).load.params.site.rescueGrace : Int) = (at_ 10020000).tick ∧
    (pulls .listening .short).load.params.site.epochTol ≤ 5000 ∧ (pulls .listening .short).takenFall 10000000 = none ∧
    ({ pulls .listening .short with key := { (pulls .listening .short).key with
      edges := [{ tick := 10002000, level := .low }] } } : State).takenFall 10000000 = some 10002000 :=
  ⟨rfl, by decide, rfl, by decide, rfl, alone _ _, by decide, by decide, rfl, by decide, by decide, by decide, by decide⟩

/-- Two edges on KEY: a fall at `f` and a rise at `r`. -/
def reduces (f r : Int) (s : State) : State :=
  { s with key := { s.key with edges := [{ tick := r, level := .high }, { tick := f, level := .low }] } }

theorem witness_FallsAndRisesAreTheNearest : edgesInOrder (reduces 10000000 11200000 keys5).key := by
  simp [edgesInOrder, reduces]

/-- A keyer with an open second due for its decision at tick 17,000,000. -/
theorem due_decision (o : OpenSecond) (s : State) (h : s.timer.monitor = .up) (ht : o.t0 = 10000000) (ho : o.outcome = none) :
    DecisionDue (at_ 17000000) [] o [] (opens [o] s) := ⟨h, alone o s, by rw [ht]; decide, ho⟩

theorem no_frame_end (o : OpenSecond) (h : o.index = some 5) (s : State) (f : Frame) (hc : s.frames.current = some (plain 0)) :
    ¬ EndsFrame f o s := by
  rintro ⟨-, hcur, -, hi⟩
  rw [hc] at hcur
  cases hcur
  rw [h] at hi
  revert hi
  decide

/-- Falls and rises at the boundaries of the tests: 200 µs early is CLEAN and one tick more EARLY; 200 µs late likewise. -/
theorem witness_DrivenSecondsAreJudgedInOrder :
    DecisionDue (at_ 17000000) [] (second 10000000 5 .driven .short) [] (opens [second 10000000 5 .driven .short] (reduces 9998000 11202000 keys5)) ∧
    (∀ f, ¬ EndsFrame f (second 10000000 5 .driven .short)
      (opens [second 10000000 5 .driven .short] (reduces 9998000 11202000 keys5))) ∧
    (reduces 9998000 11202000 keys5).key.drivenFall 10000000 = some 9998000 ∧
    (reduces 9998000 11202000 keys5).key.riseAfter 9998000 = some 11202000 ∧ lengthIs .short (11202000 - 9998000) ∧
    (9997999 : Int) < 10000000 - 10 * (keys5.load.params.site.epochTol : Int) ∧
    (10000000 + 1200000 + 10 * (keys5.load.params.site.epochTol : Int) : Int) < 11202001 ∧
    ¬ lengthIs .short 1800000 ∧ keys5.key.drivenFall 10000000 = none ∧ keys5.key.level ≠ some .low :=
  ⟨due_decision _ _ rfl rfl rfl, fun f => no_frame_end _ rfl _ f rfl, by decide, by decide, by simp [lengthIs], by decide, by decide,
    by simp [lengthIs], by decide, by decide⟩

/-- A listen second. -/
def listens (a : Action) (taken : Option Int) : OpenSecond :=
  { second 10000000 5 a .short with listen := true, taken := taken }

theorem witness_ListenSecondsAreJudgedByThePeer :
    DecisionDue (at_ 17000000) [] (listens .withheld (some 10002000)) [] (opens [listens .withheld (some 10002000)] (reduces 10002000 11202000 keys5)) ∧
    DecisionDue (at_ 17000000) [] (listens .rescued none) [] (opens [listens .rescued none] keys5) ∧
    (∀ f, ¬ EndsFrame f (listens .rescued none) (opens [listens .rescued none] keys5)) ∧
    (10000000 : Int) + 10 * (keys5.load.params.site.epochTol : Int) = 10002000 ∧
    (reduces 10002000 11202000 keys5).key.riseAfter 10002000 = some 11202000 :=
  ⟨due_decision _ _ rfl rfl rfl, due_decision _ _ rfl rfl rfl, fun f => no_frame_end _ rfl _ f rfl, by decide, by decide⟩

theorem witness_FrameVerdictAndYieldDue : ∀ y ∈ [(2 : Nat), 1, 0],
    DecisionDue (at_ 17000000) [] (second 10000000 59 .driven .short) []
      (opens [second 10000000 59 .driven .short] { keys5 with key := { keys5.key with tallies := { Tallies.empty with excess := y }, level := some .low } }) ∧
    EndsFrame (plain 0) (second 10000000 59 .driven .short)
      (opens [second 10000000 59 .driven .short] { keys5 with key := { keys5.key with tallies := { Tallies.empty with excess := y }, level := some .low } }) ∧
    decidedOutcome { keys5.key with level := some .low } 2000 (second 10000000 59 .driven .short) = some .stuck :=
  fun _ _ => ⟨due_decision _ _ rfl rfl rfl, ⟨rfl, rfl, rfl, rfl⟩, by decide⟩

theorem witness_RecordCloseAppendsTheSecond :
    OpensSecond [] (second 10000000 5 .notKeying .short) [] (opens [second 10000000 5 .notKeying .short] (reduces 10000000 11200000 up)) ∧
    (10000000 : Int) + 12000000 = (at_ 22000000).tick ∧ up.key.ring.length ≤ 64 ∧
    ((reduces 10000000 11200000 up).at (at_ 22000000)).observedFall 10000000 = some 10000000 ∧
    (up.at (at_ 22000000)).observedFall 10000000 = none ∧
    ({ second 10000000 5 .driven .short with outcome := some .clean } : OpenSecond).outcome.isSome = true ∧
    (reduces 10000000 11200000 up).key.drivenFall 10000000 = some 10000000 ∧
    (reduces 10000000 11200000 up).key.riseAfter 10000000 = some 11200000 :=
  ⟨alone _ _, by decide, by decide, by decide, by decide, rfl, by decide, by decide⟩
/-- A rescued second with the fall of its rescue at t0 + 2 ms, one whose fall is still low at its close, and a line low before the window
whose next edge is its rise, or that has no edge. -/
theorem witness_RecordCloseAppendsTheSecond_low :
    (reduces 10020000 11200000 up).rescueFall 10000000 = some 10020000 ∧ up.rescueFall 10000000 = none ∧
    ({ up with key := { up.key with edges := [{ tick := 10000000, level := .low }] } } : State).key.drivenFall 10000000 = some 10000000 ∧
    ({ up with key := { up.key with edges := [{ tick := 10000000, level := .low }] } } : State).key.riseAfter 10000000 = none ∧
    ({ up with key := { up.key with edges := [{ tick := 5600000, level := .high }] } } : State).key.lowBefore 5000000 = true ∧
    ({ up with key := { up.key with edges := [{ tick := 5600000, level := .high }] } } : State).key.riseAfter (5000000 - 1) = some 5600000 ∧
    ({ up with key := { up.key with level := some .low } } : State).key.lowBefore 5000000 = true ∧ up.key.lowBefore 5000000 = false := by
  decide

/-- A self-test waiting, and one running with its MARK driven at tick 0. -/
def waitsTest : State := { marks .standby with ctl := { (marks .standby).ctl with test := { SelfTest.reset with state := .waiting } } }
def runsTest (h : Option LoopFrame) : State :=
  { pulls .released .mark with ctl := { up.ctl with
      standing := .standby
      test := { SelfTest.reset with
        state := .running, reference := some (plain 0), markDrive := some 0, closeDrive := some 10000000, handed := h, loopLow := true } } }

theorem witness_SelfTestRunsOneFrame :
    DriveDue turn waitsTest ∧ DrivesMark (plain 60) waitsTest ∧ waitsTest.ctl.test.state = .waiting ∧
    (runsTest none).ctl.test.loopLow = true ∧ (runsTest none).key.t0 = some 10000000 ∧ (10000000 : Int) + 4800000 = (at_ 14800000).tick ∧
    DecisionDue (at_ 17000000) [] (second 10000000 0 .notKeying .mark) [] (opens [second 10000000 0 .notKeying .mark] (runsTest none)) ∧
    (runsTest none).ctl.test.closeDrive = some (second 10000000 0 .notKeying .mark).t0 ∧
    (runsTest (some { n0 := 0, symbols := (plain 0).symbols, markFall := 2000 })).ctl.test.handed =
      some { n0 := 0, symbols := (plain 0).symbols, markFall := 2000 } ∧
    (2000 : Int) ≤ 0 + 10 * ((runsTest none).load.params.site.epochTol : Int) ∧
    (0 + 10 * ((runsTest none).load.params.site.epochTol : Int) : Int) < 2001 :=
  ⟨due_drive _ rfl rfl rfl, marks_mark .standby _, rfl, rfl, rfl, by decide, due_decision _ _ rfl rfl rfl, rfl, rfl, by decide, by decide⟩

/-- A test that keys its frame, or whose last MARK had its drive instant at tick 10,000,000. -/
def keysTest (c : Option Int) (s : State) : State :=
  { s with ctl := { s.ctl with standing := .standby, test := { (runsTest none).ctl.test with closeDrive := c, loopLow := false } } }

/-- A running test before index 5, while it keys its frame and after the MARK that follows it, and before that MARK. -/
theorem witness_SelfTestRunsOneFrame_index : ∀ c ∈ [none, some (10000000 : Int)],
    DriveDue turn (keysTest c keys5) ∧ DrivesIndex (plain 0) 5 (keysTest c keys5) ∧ (keysTest c keys5).ctl.test.state = .running ∧
      (plain 0).symbols[5]? = some .short ∧ (10000000 : Int) ≠ turn.tick ∧
      DriveDue turn (keysTest none (marks .standby)) ∧ DrivesMark (plain 60) (keysTest none (marks .standby)) :=
  fun _ _ => ⟨due_drive _ rfl rfl rfl, ⟨rfl, 5, .plain, rfl, Or.inr ⟨by decide, by decide, by decide⟩⟩, rfl, rfl, by decide,
    due_drive _ rfl rfl rfl, ⟨rfl, rfl, plain 0, 60, .plain, rfl, rfl, by decide, by decide⟩, .plain, rfl⟩

/-- R139: an index after the MARK that follows the test frame keys nothing into the loopback, however short that MARK's second was. -/
theorem test_selftest_keys_nothing_after_its_last_mark :
    (match exec (.driveInstant turn) (keysTest (some 10000000) keys5) with
     | .next t => t.ctl.test.loopLow
     | _ => true) = false := by decide

/-! ### The line -/

/-- A keyer that follows a reduction. -/
def follows (r : Reduction) (a : Option Assembly) (d : DecoderState) (s : State) : State :=
  { s with key := { s.key with level := some .low }, line := { s.line with reduction := some r, assembly := a, decoder := d } }

/-- A reduction whose fall was at tick 10,000,000. -/
def reduction (role : ReductionRole) (mark : Bool) : Reduction :=
  { fall := 10000000, role := role, markSeen := mark, overSeen := false }

/-- A frame under assembly with its last line second's fall, and the same with 60 symbols of a valid frame of 00:59 UTC. -/
def assembly (last : Int) (symbols : List Symbol) (closed : Bool) : Assembly :=
  { symbols := symbols, markFall := 0, falls := [last], lastFall := last, windowClosed := closed }

/-- The filter as a test's end at tick 10,000,000 leaves it, an edge at the 20th tick and one a tick before it. -/
theorem witness_FilterLevelsReachTheUnits :
    ({ up with tick := 10000000 } : State).startFilter.key.level = none ∧
    ({ up with tick := 10000000 } : State).startFilter.key.levelFrom = some 10000000 ∧
    up.key.level = some .high ∧ up.key.levelFrom = some 10000000 ∧ (10000000 : Int) + 20 ≤ (at_ 10000020).tick ∧
    (∀ b ∈ up.key.levelFrom, (at_ 10000019).tick < b + 20) ∧
    ({ up with key := { up.key with level := some .low } } : State).line.reduction = none ∧ up.ctl.test.state ≠ .running ∧
    (runsTest none).ctl.test.state = .running ∧ State.reset.timer.monitor = .down := by decide
/-- Low samples at successive ticks after a run of high ones, and a queue with a place among its commands. -/
theorem witness_FilterLevelsReachTheUnits_samples :
    let moment : Nat → Instant := fun i => { tick := 10000050 + i, clk := 0 }
    let s : State := { up with key := { up.key with run := some { level := .high, first := at_ 10000000 } } }
    (∀ i, (moment i).tick = (moment 0).tick + i) ∧ (∀ r ∈ s.key.run, r.level = .high ∧ r.first.tick + 20 ≠ (moment 0).tick) ∧
    (∀ d ∈ [Instr.epoch (at_ 10000049)], d.now.tick < (Instr.keyFall (moment 0)).now.tick) ∧
    (∀ d ∈ [Instr.readback (at_ 10000050)].head?, (Instr.keyFall (moment 0)).now.tick ≤ d.now.tick) := by
  refine ⟨fun i => by simp, ?_, ?_, ?_⟩ <;> decide
/-- R94: a low run of 20 samples puts the fall among the waiting commands, timestamped at its first, and one of 19 puts nothing. -/
theorem test_twenty_low_samples_are_a_fall :
    let low (n : Nat) : State := (List.range n).foldl (fun u i => u.sampleKey { tick := 10000050 + i, clk := 0 } .low) up
    ((low 20).sampleKey { tick := 10000070, clk := 0 } .low).pending = [.keyFall { tick := 10000050, clk := 0 }] ∧
      ((low 19).sampleKey { tick := 10000069, clk := 0 } .high).pending = [] := by decide +kernel
/-- R94: a rise one tick after a fall is no edge, since a run of fewer than 20 ticks is none; twenty ticks after, it is. -/
theorem test_a_rise_within_20_ticks_is_no_edge :
    (match exec (.keyFall (at_ 10001000)) up with
     | .next t =>
       (match exec (.keyRise (at_ 10001001)) t with | .next u => u.key.level | _ => none) == some .low &&
       (match exec (.keyRise (at_ 10001020)) t with | .next u => u.key.level | _ => none) == some .high
     | _ => false) = true := by decide

/-- Lengths at the boundaries of R2, and an assembly of 61 symbols. -/
theorem witness_RisesTakeTheSymbol :
    (follows (reduction .taken false) (some (assembly 10000000 [.mark] false)) .assembling up).key.level = some .low ∧
    (follows (reduction .taken false) (some (assembly 10000000 [.mark] false)) .assembling up).key.levelFrom = some 10000000 ∧
    (follows (reduction .taken false) (some (assembly 10000000 [.mark] false)) .assembling up).line.reduction = some (reduction .taken false) ∧
    (10599999 : Int) - (reduction .taken false).fall < 600000 ∧ lengthIs .short (10600000 - (reduction .taken false).fall) ∧
    lengthIs .long (13599999 - (reduction .taken false).fall) ∧ 61 ≤ (assembly 10000000 (List.replicate 61 .short) false).symbols.length ∧
    (assembly 10000000 [.mark] true).windowClosed = true := by
  simp [follows, reduction, assembly, lengthIs, up]

/-- Falls at both edges of the spacing window, and one tick beyond each. -/
theorem witness_FallsSettleAsSecondsAndSamples :
    (follows (reduction .unsettled false) (some (assembly 100000 [.mark] false)) .assembling up).line.reduction =
      some (reduction .unsettled false) ∧
    (reduction .unsettled false).fall + 600000 = (at_ 10600000).tick ∧ (10000000 : Int) = 100000 + 9900000 ∧
    (10000000 : Int) < 100001 + 9900000 ∧ (10000000 : Int) = -100000 + 10100000 ∧ (-100001 : Int) + 10100000 < 10000000 ∧
    (knows none up).secondOf 10000000 = some 10000000 ∧ (knows none up).line.sampled ≠ some 10000000 ∧
    wrapError (10050000 - 10000000) = 50000 ∧ wrapError (10050001 - 10000000) = 50001 := by decide

/-- The symbols of the frame of 00:59 UTC of the Worked Frames. -/
def workedSymbols : List Symbol :=
  frameSymbols 60 { lp := false, oc := true, ls := false, su := false } (localFields (828061140 + 3600)) 4 0xE7 3

theorem witness_MarksStartAndCloseFrames :
    (follows (reduction .taken false) (some (assembly 10000000 workedSymbols false)) .assembling up).line.reduction =
      some (reduction .taken false) ∧
    (reduction .hunted false).fall + 3600000 = (at_ 13600000).tick ∧ frameFault workedSymbols = none ∧
    frameFault [.mark, .short] = some .length := by decide
/-- A second the keyer keyed, which makes a frame that holds a fall of it mixed, and one it did not key. -/
theorem witness_MarksStartAndCloseFrames_mixed : ∀ k ∈ [true, false],
    let s : State := { knows (some 4) (setAt 4 (stands (.survey .adopting) up)) with
      timer := { up.timer with past := [
        { t0 := 10000000, epoch := 10000000, count := some 4, leap := .plain, keyed := k, refJudged := false }] } }
    s.secondOf 10000000 = some 10000000 ∧ s.keyedAt 10000000 = k ∧ s.ctl.standing = .survey .adopting := by decide

theorem witness_FramesBreakOverlongOrMissing :
    (follows (reduction .hunted true) (some { assembly 10000000 [.mark] false with markFall := 10000000 }) .assembling up).line.reduction =
      some (reduction .hunted true) ∧
    (reduction .hunted true).fall + 7000000 = (at_ 17000000).tick ∧
    (assembly 10000000 [.mark] false).lastFall + 10100000 = (at_ 20100000).tick ∧
    (assembly 100000 [.mark] false).lastFall + 9900000 ≤ (reduction .unsettled false).fall := by decide

/-- A line frame with the symbols of a plain frame. -/
def lineFrame (n0 : Int) (symbols : List Symbol) (fall : Int) : LineFrame :=
  { n0 := n0, symbols := symbols, markFall := fall, markTicks := 0, mixed := false }

/-- A keyer in a survey phase with a comparison copy and the own second of its count. -/
def compares (st : Standing) : State :=
  let s := knows (some 0) (setAt 60 (stands st up))
  { s with ctl := { s.ctl with copy := some (plain 0) } }

/-- A fall at EPOCH_TOL, and one tick beyond it. -/
theorem witness_ComparisonsMoveTheStanding :
    (compares (.survey .watching)).ctl.standing.surveys = true ∧ (compares (.survey .watching)).ctl.copy = some (plain 0) ∧
    (compares (.survey .watching)).driveOfCount 0 = some 10000000 ∧
    (lineFrame 0 (plain 0).symbols 10002000).markFall - 10000000 ≤ 10 * ((compares .deferred).load.params.site.epochTol : Int) ∧
    10 * ((compares .deferred).load.params.site.epochTol : Int) < (lineFrame 0 (plain 0).symbols 10002001).markFall - 10000000 ∧
    (refAt .locked (compares (.survey .watching))).cls = .a ∧ (compares (.survey .watching)).cls = .b ∧
    ((compares .deferred).handFrame (lineFrame 0 (plain 0).symbols 10002000)).ctl.lastComparison = some { n0 := 0, result := .agree } ∧
    ((compares .deferred).handFrame (lineFrame 0 (plain 0).symbols 10002001)).ctl.lastComparison ≠ some { n0 := 0, result := .agree } ∧
    (stands .active up).ctl.standing.surveys = false := by decide
/-- The own frame as the current one, as the next one and as a stale next one, whose N0 is still to come. -/
def comparesAt (n : Int) (current next : Option Frame) : State :=
  let s := knows (some n) (setAt n (stands (.survey .watching) up))
  frames current next { s with ctl := { s.ctl with copy := some (plain 0) } }

theorem witness_ComparisonsMoveTheStanding_frames : ∀ b ∈ [true, false],
    let s := comparesAt 107 (some (plain 60)) (some { plain 120 with stale := b })
    s.ctl.standing.surveys = true ∧ (∀ o ∈ s.ctl.copy, o.n0 ≠ (120 : Int)) ∧ (∀ o ∈ s.frames.current, o.n0 ≠ (120 : Int)) ∧
    s.frames.next = some { plain 120 with stale := b } ∧ (plain 120).n0 = 120 ∧ (∀ o ∈ s.ctl.copy, o.n0 ≠ (60 : Int)) ∧
    s.frames.current = some (plain 60) ∧ s.timer.nextDrive = some 20000000 ∧ committedLeap s.schedule = none ∧ s.time.n.isSome = true ∧
    (∀ o ∈ s.ctl.copy, o.n0 ≠ (180 : Int)) ∧ (∀ o ∈ s.frames.current, o.n0 ≠ (180 : Int)) ∧
    ∀ o ∈ s.frames.next, o.n0 ≠ (180 : Int) := by decide
/-- R92: a stale next frame is rebuilt also by a request that the current frame answers, and by one that neither frame does. -/
theorem test_a_request_rebuilds_a_stale_next_frame : ∀ n ∈ [(60 : Int), 180],
    ((comparesAt 107 (some (plain 60)) (some { plain 120 with stale := true })).handFrame
      (lineFrame n (plain n).symbols 10000000)).frames.rebuilds = 1 := by decide +kernel
/-- The drive instant of an own count: past, past without a count, to come, and to come across a leap. -/
theorem witness_ComparisonsMoveTheStanding_instants :
    let s := comparesAt 107 none none
    let c : State := { s with timer := { s.timer with past := s.timer.past.map (fun p => { p with count := none }) } }
    (∃ p, s.timer.past.find? (fun p => p.count == some 107) = some p ∧ s.driveOfCount 107 = some p.t0) ∧
    (∀ p ∈ c.timer.past, p.count ≠ some 107) ∧ (∃ p, c.timer.past[((107 : Int) - 107).toNat]? = some p ∧ p.count = none) ∧
    (∀ k ∈ [EntryKind.leapInsert, .leapDelete],
      committedLeap (leaps k 86398).schedule = some (entry 86400 k none .ref true) ∧ (leaps k 86398).timer.nextDrive = some 20000000) ∧
    (∀ p ∈ (leaps .leapInsert 86398).timer.past.head?, p.leap ≠ .inserted) :=
  ⟨⟨_, rfl, rfl⟩, by decide, ⟨_, rfl, rfl⟩, by decide, by decide⟩
/-- R125: a line a minute ahead, compared with the next frame, does not agree, however well its fall stands in its own second. -/
theorem test_a_line_a_minute_ahead_is_a_mark_offset :
    ((comparesAt 107 (some (plain 60)) (some (plain 120))).handFrame (lineFrame 120 (plain 120).symbols 10000000)).ctl.lastComparison =
      some { n0 := 120, result := .markOffset (-13000000) } := by decide +kernel

theorem witness_TwoFramesInARowAreAdopted :
    let s := refAt .holdover (knows none (stands (.survey .adopting) up))
    let c : State := { s with line := { s.line with candidate := some 0 } }
    c.line.candidate = some ((60 : Int) - 60) ∧ (lineFrame 60 (plain 60).symbols 10000000).symbols.length = 60 ∧
    c.secondOf 10000000 = some 10000000 ∧ (∃ p, pastAt 10000000 c.timer.past 0 = some (p, 0) ∧ p.t0 = 10000000) ∧
    c.ref.state ≠ .locked ∧ c.time.n = none ∧ up.line.candidate ≠ some (0 - 60) := by
  refine ⟨rfl, rfl, by decide, ⟨_, rfl, rfl⟩, by decide, rfl, by decide⟩
/-- The SET case, with the frame's own second one epoch back. -/
theorem witness_TwoFramesInARowAreAdopted_set :
    let s := refAt .holdover (knows (some 60) (setAt 61 (stands (.survey .adopting) up)))
    let p : PastSecond := { t0 := 20000000, epoch := 20000000, count := some 61, leap := .plain, keyed := false, refJudged := false }
    let c : State := { s with timer := { s.timer with past := p :: s.timer.past, nextDrive := some 30000000 } }
    (∃ q, c.secondOf 10000000 = some q.t0 ∧ pastAt 10000000 c.timer.past 0 = some (q, 1)) ∧
    (c.timer.past[1]?).bind (fun q => q.count) = some 60 ∧ c.time.n = some 61 ∧ (61 : Int) + (60 - 60) ≤ 3155759999 := by
  refine ⟨⟨_, by decide, rfl⟩, rfl, rfl, by decide⟩

theorem witness_TimersRunOut :
    up.ctl.silenceFrom = some 10000000 ∧ (10000000 : Int) + 25000000 = (at_ 35000000).tick ∧
    ({ refAt .acquire up with ref := { (refAt .acquire up).ref with acquireFrom := some 0 } } : State).ref.acquireFrom = some 0 ∧
    (0 : Int) + 100000000 = (at_ 100000000).tick ∧ alarmed.maint.alertFrom = some 0 ∧
    0 + alarmed.load.params.alert.delay * 1000000 = 10000000 := by decide

/-! ### Records and pulses -/

/-- A record of count 60 at quality 8 with its CRC. -/
def recordBytes (n3 seq type : Byte) : List Byte :=
  let b := [0xC3#8, type, 0x00#8, 0x00#8, 0x00#8, n3, 0x08#8, 0x00#8, 0x00#8, 0x00#8, 0x00#8, 0x00#8, 0x00#8, seq]
  b ++ [(crc16 b).extractLsb' 8 8, (crc16 b).extractLsb' 0 8]

/-- A record receiver inside a record, with the sequence number before. -/
def receives (prev : Option Nat) : State := { up with ref := { up.ref with assembling := true, prevSeq := prev } }

theorem witness_RecordsAreReceivedAndChecked :
    up.ref.assembling = false ∧ (receives none).ref.assembling = true ∧ (19949999 : Int) + 50000 < turn.tick ∧
    turn.tick ≤ 19950000 + 50000 ∧ (waits (labelled 60 0) up).ref.waiting = some { record := labelled 60 0, time := 19500000 } ∧
    (19500000 : Int) + 9500000 = (at_ 29000000).tick ∧ (recordBytes 60#8 1#8 1#8).length = 16 ∧
    (recordBytes 60#8 1#8 1#8).head? = some 0xC3#8 ∧ crc16 (recordBytes 60#8 1#8 1#8) = 0#16 ∧
    crc16 (recordBytes 60#8 1#8 2#8) = 0#16 ∧ (receives (some 65535)).ref.prevSeq = some ((0 + 65535) % 65536) ∧
    (1 : Nat) ≠ (65535 + 1) % 65536 := by decide +kernel
/-- R184: the bits of 0xC3 and of the record type 0x01, least significant first. -/
theorem test_serial_bytes_come_least_significant_bit_first :
    serialByte [true, true, false, false, false, false, true, true] = 0xC3#8 ∧
    serialByte [true, false, false, false, false, false, false, false] = 0x01#8 := by decide
/-- A receiver between characters, hunting, within a record and at its last byte, and one in a character. -/
def hears (bits : Option (List Bool)) (bytes : Nat) : State :=
  up.setRecordLine { bits := bits, record := List.replicate bytes 0xC3#8, byteEnd := if bytes = 0 then none else some 19949999 }
theorem witness_RecordsAreReceivedAndChecked_line :
    (hears none 3).timer.monitor = .up ∧ (hears none 3).ref.trec.bits = none ∧ (hears none 3).ref.trec.byteEnd = some 19949999 ∧
    (19949999 : Int) + 50000 < turn.tick ∧ (∀ e ∈ (hears none 0).ref.trec.byteEnd, turn.tick ≤ e + 50000) ∧
    (hears (some []) 0).ref.trec.bits = some [] ∧ (hears (some []) 0).ref.trec.record = [] ∧
    (hears (some []) 3).ref.trec.record.length ≠ 15 ∧ (hears (some []) 15).ref.trec.record.length = 15 ∧
    [turn, turn, turn, turn, turn, turn, turn, turn].length = 8 ∧ State.reset.timer.monitor = .down := by decide

theorem good_label (r : RefRecord) (s : State) (h : s.load.params.site.qMin ≤ r.quality) : GoodLabel turn r (waits r s) :=
  ⟨⟨19500000, rfl, by decide, by decide⟩, h⟩

theorem accepted (s : State) (h : s.timer.monitor = .up) (h' : s.ref.prevPulse = none) : PulseAccepted turn s :=
  ⟨h, by simp [h']⟩

/-- A streak of `k` whose last pulse was of count `n` at tick `t`. -/
def streaks (k : Nat) (n : Int) (t : Int) (s : State) : State :=
  { s with ref := { s.ref with state := .acquire, streak := k, streakLast := some { n := n, tick := t }, acquireFrom := some t } }

/-- Timestamps at the edges of the spacing, 999 ms and 1,001 ms before 19,999,990, that of a pulse accepted at `turn`; the last and the
first tick of an epoch's window. -/
theorem witness_PulsesBuildTheAcquireStreak :
    (20000000 : Int) - 10 - 10009991 < 9990000 ∧ PulseAccepted turn up ∧ (∃ pe, up.pulseEpoch (turn.tick - 10) = some pe) ∧
    up.ref.state ≠ .locked ∧ GoodLabel turn (labelled 60 0) (waits (labelled 60 0) up) ∧
    PulseAccepted turn (streaks 2 59 10009990 (waits (labelled 60 0) up)) ∧ turn.tick - 10 - 10009990 = 9990000 ∧
    turn.tick - 10 - 9989990 = 10010000 ∧ up.ref.waiting = none ∧
    ({ labelled 60 0 with quality := 7 } : RefRecord).quality < up.load.params.site.qMin ∧
    PulseAccepted turn { up with ref := { up.ref with prevPulse := some 10009990 } } :=
  ⟨by decide, accepted _ rfl rfl, ⟨_, rfl⟩, by decide, good_label _ _ (by decide), accepted _ rfl rfl, by decide, by decide, rfl, by decide,
    ⟨rfl, by simp [pulseTime, turn, Config.secHigh, Config.pulseSpacing]⟩⟩
theorem witness_PulsesBuildTheAcquireStreak_epoch : (knows none up).timer.nextEpoch = some 20000000 ∧
    (∃ p, (knows none up).timer.past = [p] ∧ (14999999 : Int) - p.epoch < 20000000 - 14999999 ∧
      (20000000 : Int) - 15000000 ≤ 15000000 - p.epoch) ∧ State.reset.timer.nextEpoch = none ∧
    committedLeap (leaps .leapInsert 86399).schedule = some (entry 86400 .leapInsert none .ref true) :=
  ⟨rfl, ⟨_, rfl, by decide, by decide⟩, rfl, rfl⟩
/-- R28, R33: a pulse high from tick 20,000,000 on is accepted 10 ticks later and belongs to the epoch at its timestamp. -/
theorem test_pulse_timestamp :
    let s := streaks 1 59 10000000 (waits (labelled 60 0) (knows none up))
    let u : State := { s with timer := { s.timer with epoch := some 20000000, nextEpoch := some 30000000, past := [
      { t0 := 20000000, epoch := 20000000, count := none, leap := .plain, keyed := false, refJudged := false }] } }
    ((u.at (at_ 20000010)).secInEffect).ref.streak = 2 ∧
    ((u.at (at_ 20000010)).secInEffect).ref.streakLast = some { n := 60, tick := 20000000 } ∧
    (u.pulseEpoch 20000000).map (fun pe => pe.since) = some (some 0) := by decide

/-- The fourth pulse, UNSET, SET off the line and ACTIVE; at `turn` it belongs to the coming epoch. -/
theorem witness_FourthPulseLocks : ∀ s ∈ [up, setAt 59 up, setAt 59 (stands .active up)],
    PulseAccepted turn (streaks 3 59 10000000 (waits (labelled 60 0) s)) ∧
    (∃ pe, (streaks 3 59 10000000 (waits (labelled 60 0) s)).pulseEpoch (turn.tick - 10) = some pe ∧ pe.since = none) ∧
    GoodLabel turn (labelled 60 0) (streaks 3 59 10000000 (waits (labelled 60 0) s)) ∧ (labelled 60 0).n = 59 + 1 ∧
    (9990000 : Int) ≤ turn.tick - 10 - 10000000 ∧ turn.tick - 10 - 10000000 ≤ 10010000 := by
  intro s hs
  simp only [List.mem_cons, List.not_mem_nil, or_false] at hs
  rcases hs with rfl | rfl | rfl <;>
    exact ⟨accepted _ rfl rfl, ⟨_, rfl, rfl⟩, ⟨⟨19500000, rfl, by decide, by decide⟩, by decide⟩, by decide, by decide, by decide⟩
/-- The fourth pulse of a keyer that holds a LINE entry and a RULE entry. -/
theorem witness_FourthPulseLocks_line :
    let s := lists [entry 3600 .offset (some 8) .line false, entry 7200 .offset (some 4) .rule false] (setAt 59 up)
    PulseAccepted turn (streaks 3 59 10000000 (waits (labelled 60 0) s)) ∧
    GoodLabel turn (labelled 60 0) (streaks 3 59 10000000 (waits (labelled 60 0) s)) ∧ s.comingCount.map Prod.fst = some (labelled 60 0).n ∧
    (labelled 60 0).leapKind ≠ 1 ∧ (labelled 60 0).leapKind ≠ 2 :=
  ⟨accepted _ rfl rfl, ⟨⟨19500000, rfl, by decide, by decide⟩, by decide⟩, by decide, by decide, by decide⟩
/-- The fourth pulse at the present second's epoch, 10,000,000. -/
theorem witness_FourthPulseLocks_present :
    ∃ pe, (streaks 3 59 0 (knows none up)).pulseEpoch 10000000 = some pe ∧ pe.since = some 0 := ⟨_, rfl, rfl⟩
/-- The fourth pulse at the epoch of an inserted second repeats the last N, and at that of a deletion skips one. -/
theorem witness_FourthPulseLocks_leap :
    (∃ pe, (knows (some 86399) (leaps .leapInsert 86399)).pulseEpoch (turn.tick - 10) = some pe ∧ pe.leap = .inserted) ∧
    (∃ pe, (knows (some 86398) (leaps .leapDelete 86398)).pulseEpoch (turn.tick - 10) = some pe ∧ pe.leap = .deleted) := by
  refine ⟨⟨_, rfl, by decide⟩, ⟨_, rfl, by decide⟩⟩

theorem witness_LockedPulsesAreTested :
    PulseAccepted turn (waits (labelled 60 0) (refAt .locked (setAt 59 up))) ∧
    (∃ pe, (waits (labelled 60 0) (refAt .locked (setAt 59 up))).pulseEpoch (turn.tick - 10) = some pe ∧ pe.since = none) ∧
    GoodLabel turn (labelled 60 0) (waits (labelled 60 0) (refAt .locked (setAt 59 up))) ∧
    (refAt .locked (setAt 59 up)).comingCount.map Prod.fst = some 60 ∧ (refAt .locked (setAt 59 up)).ref.unlabelledRun < 10 ∧
    refError 20000200 20000000 0 = 10 * (up.load.params.site.outlier : Int) ∧
    10 * (up.load.params.site.outlier : Int) < refError 20000201 20000000 0 ∧ (refAt .locked (setAt 59 up)).ref.lastLabel = none ∧
    (refAt .locked (setAt 59 up)).ref.waiting = none ∧ (19500001 : Int) + 500000 > turn.tick ∧
    ({ (refAt .locked up).ref with lastLabel := some (labelled 60 0), unlabelledRun := 9 } : RefUnit).unlabelledRun < 10 :=
  ⟨accepted _ rfl rfl, ⟨_, rfl, rfl⟩, ⟨⟨19500000, rfl, by decide, by decide⟩, by decide⟩, by decide, by decide, by decide, by decide, rfl, rfl,
    by decide, by decide⟩

theorem witness_ThreeMissingSecondsEnterHoldover :
    let s := refAt .locked (knows (some 59) (setAt 59 up))
    (∃ p ∈ s.timer.past, p.epoch + 5000000 = (at_ 15000000).tick ∧ p.refJudged = false) ∧ s.ref.state = .locked ∧ s.ref.pulses = [] ∧
    ({ s with ref := { s.ref with missingStreak := 2 } } : State).ref.missingStreak = 2 ∧ s.ref.missingStreak ≠ 2 := by
  refine ⟨⟨_, List.mem_singleton.mpr rfl, by decide, rfl⟩, rfl, rfl, rfl, by decide⟩

theorem witness_LeapKindsOfferAndCancel :
    monthEnd 30 = true ∧ monthEnd 29 = false ∧ (2678399 : Int) < (30 + 1) * 86400 ∧ (setAt 0 up).time.n = some 0 ∧
    (setAt 0 up).schedule = [] ∧ (labelled 0 1).leapKind = 1 ∧ (labelled 0 3).leapKind = 3 ∧ 3 < (labelled 0 4).leapKind := by decide
/-- A used pulse of each state: NOREF, ACQUIRE, and a sample of LOCKED. -/
theorem witness_LeapKindsOfferAndCancel_pulses : ∀ r ∈ [RefState.noref, .acquire, .locked],
    let s := waits (labelled 60 1) (refAt r (setAt 59 up))
    PulseAccepted turn s ∧ (∃ pe, s.pulseEpoch (turn.tick - 10) = some pe ∧ pe.since = none ∧
      refError (turn.tick - 10) pe.epoch (labelled 60 1).corrNs = -10) ∧ GoodLabel turn (labelled 60 1) s ∧
    s.ref.state = r ∧ s.ref.streak ≠ 3 ∧ s.comingCount.map Prod.fst = some 60 := by
  intro r h
  simp only [List.mem_cons, List.not_mem_nil, or_false] at h
  rcases h with rfl | rfl | rfl <;>
    exact ⟨accepted _ rfl rfl, ⟨_, rfl, by decide, by decide⟩, good_label _ _ (by decide), rfl, by decide, by decide⟩

/-! ### Alarms, the port and the lamps -/

theorem witness_RaisingsMakeAlarmsAndAlert :
    (∀ e ∈ alarmed.maint.alarms, e.kind ≠ .conflict) ∧
    alarmed.maint.alarms = [] ++ { kind := .refLost, firstN := none, count := 1 } :: [] := by decide

theorem witness_AckAlarmsEmptiesTheAlarmSet : alarmed.load.phase = .done ∧ up.maint.alarms = [] ∧ up.maint.raisings = 0 ∧
    up.maint.alertFrom = none ∧ up.maint.alertN = false := by decide

theorem zero_counters : CountersSafe Counters.zero := by
  constructor <;> decide

theorem witness_CountersAreReadAndCleared : up.load.phase = .done ∧ CountersSafe up.maint.counters := ⟨rfl, zero_counters⟩

theorem witness_PortCommandsTouchOnlyTheSnapshot : up.load.phase = .done ∧ (7#8).toNat ≤ 7 ∧ 7 < (8#8).toNat ∧
    unknownCodeOk 0x09#8 = true ∧ State.reset.load.phase ≠ .done ∧ writeCommand turn [0x01#8] = some (.status turn) ∧
    writeCommand turn [0x04#8, 0x08#8] = some (.unknownCode turn 0x04#8) := by decide
/-- The port's own address byte at load completion and before it, another's, and its line within a write and a read. -/
theorem witness_PortCommandsTouchOnlyTheSnapshot_bus :
    (up.load.phase = .done ∧ (0x99#8).toNat / 2 = 0x4C + up.load.slot) ∧ (0x99#8).getLsbD 0 = true ∧ (0x98#8).getLsbD 0 = false ∧
    ¬ ((0x9A#8).toNat / 2 = 0x4C + up.load.slot) ∧ State.reset.load.phase ≠ .done ∧
    (up.setPort { phase := .receive, bits := [], data := [] }).maint.port = { phase := .receive, bits := [], data := [] } ∧
    (up.setPort { phase := .send 31, bits := [], data := [] }).maint.port = { phase := .send 31, bits := [], data := [] } ∧
    up.maint.port = PortLine.idle := by decide

theorem witness_SnapshotsShowTheState : up.load.phase = .done ∧ (lists eight up).schedule.length ≤ 8 ∧
    (∃ e, (lists eight up).schedule[7]? = some e) ∧ alarmed.maint.alarms.find? (fun e => e.kind == .refLost) ≠ none ∧
    AlarmKind.all[10]? = some .configClamped := by
  refine ⟨rfl, by decide, ⟨_, rfl⟩, by decide, rfl⟩
/-- A keyer that holds everything STATUS has a field for. -/
def shows : State :=
  { frames (some (plain 60)) (some (plain 120)) (setAt 60 up) with
    key := { up.key with lastVerdict := some { verdict := .disturbed, n0 := 0 }, listenIndex := some 5 }
    line := { up.line with
      decoder := .assembling, assembly := some (assembly 10000000 [.mark] false), lastBreak := some .leapMinute
      notice := some { cycleStart := 0, segments := [0#8, 0#8, 0#8] } }
    ctl := { up.ctl with floor := some 0, lastComparison := some { n0 := -960, result := .markOffset 4096 } } }
theorem witness_SnapshotsShowTheState_status : shows.load.phase = .done ∧ (∃ f, shows.frames.current = some f) ∧
    (∃ v, shows.key.lastVerdict = some v) ∧ shows.ctl.floor = some 0 ∧ (∃ c, shows.ctl.lastComparison = some c) ∧
    shows.line.decoder = .assembling ∧ (∃ a, shows.line.assembly = some a) ∧ (∃ a, shows.line.notice = some a) ∧
    shows.ctl.standing ≠ .loading ∧ shows.load.result = some .ok :=
  ⟨rfl, ⟨_, rfl⟩, ⟨_, rfl⟩, rfl, ⟨_, rfl⟩, rfl, ⟨_, rfl⟩, ⟨_, rfl⟩, by decide, rfl⟩
/-- R187: byte 19 has the length 2 for 60 symbols at its place, the comparison's N0 saturates at −15 minutes, and the difference at
+4,095. -/
theorem test_status_bytes :
    (shows.statusItem.getD 19 0#8).toNat / 64 = 2 ∧ (shows.statusItem.getD 26 0#8).toNat / 8 = 32 - 15 ∧
    (shows.statusItem.getD 27 0#8).toNat = 5 * 32 + 15 ∧ (shows.statusItem.getD 28 0#8).toNat = 255 := by decide

theorem witness_CommandsAnswerByStanding : up.load.phase = .done ∧ up.ctl.standing = .survey .watching ∧
    (stands .active up).ctl.standing = .active ∧ (stands .standby up).ctl.test.state = .idle ∧
    (stands .faultedDrive up).ctl.standing = .faultedDrive ∧ waitsTest.ctl.standing = .standby ∧ waitsTest.ctl.test.state ≠ .idle := by decide

theorem witness_RepetitionsShowTheLamps :
    ({ up with maint := { up.maint with nextRepetition := some 2000000 } } : State).maint.nextRepetition = some turn.clk ∧
    up.maint.shift = none ∧ (∃ r : Repetition, ({ up.maint with shift := some r } : Maintenance).shift = some r) :=
  ⟨rfl, rfl, ⟨{ start := 0, words := up.lampWords }, rfl⟩⟩

theorem witness_CrcFindsEveryOneBitError : crc16 ([] ++ 0xC3#8 :: (recordBytes 60#8 1#8 1#8).tail) = 0#16 ∧ 7 < 8 := by decide +kernel

/-! ### What every step keeps -/

/-- R21, R48, R60, R122, R175, R177: the state of reset meets the invariants, and a step from it answers a next state. -/
theorem witness_EveryStepKeeps : ∃ t, TimerSafe State.reset ∧ BoundsSafe State.reset ∧ AlarmsSafe State.reset ∧ KeyingSafe State.reset ∧
    TimeSafe State.reset ∧ ScheduleSafe State.reset ∧ step State.reset = .next t := by
  refine ⟨_, safe_timer _ rfl rfl rfl rfl, ⟨zero_counters, by decide, by decide, by decide, by decide, by decide⟩, ?_, ?_, ?_, ?_, rfl⟩
  · exact ⟨by decide, by decide, by decide, by decide, by decide, by decide, by decide, by simp [State.reset, Loader.reset, Staging.empty]⟩
  · exact ⟨by decide, by decide, by decide, by decide, by decide, by decide, by decide, by decide, by decide, by decide⟩
  · exact ⟨by simp [State.reset, TimeScale.reset], by simp [State.reset, TimeScale.reset], by decide, by decide,
      by simp [State.reset, TimeScale.reset], by decide, by decide, by simp [State.reset, TimeScale.reset], by decide, by decide,
      by decide, by decide, by decide⟩
  · exact ⟨by decide, by simp [State.reset], by simp [State.reset], by simp [State.reset, TimeScale.reset], by decide⟩

end Sys2Proof.Tests
end

section
/-!
PROOFS. The oscillator loss (R19): what the loss leaves in each block of the state, and the obligation assembled from it.
-/

namespace Sys2Proof.Machine

/-! ## The self-test at an abort -/

@[simp] theorem State.endTest_testState (r : TestResult) (s : State) : (s.endTest r).ctl.test.state = .idle := by
  unfold State.endTest
  split <;> rfl

@[simp] theorem State.endTest_testResult (r : TestResult) (s : State) : (s.endTest r).ctl.test.result = r := by
  unfold State.endTest
  split <;> rfl

/-- No self-test is left waiting or running by an abort (R141). -/
@[simp] theorem State.abortTest_testState (s : State) : s.abortTest.ctl.test.state = .idle := by
  unfold State.abortTest
  split
  · assumption
  · simp

theorem State.abortTest_of_idle {s : State} (h : s.ctl.test.state = .idle) : s.abortTest = s := by
  simp [State.abortTest, h]

theorem State.abortTest_testResult {s : State} (h : s.ctl.test.state ≠ .idle) :
    s.abortTest.ctl.test.result = .aborted := by
  simp [State.abortTest, h]

/-! ## The loss, block by block -/

theorem State.lossEffect_timer (s : State) : s.lossEffect.timer = s.timer.lost s.tick := by simp [State.lossEffect]

theorem State.lossEffect_ref (s : State) : s.lossEffect.ref = RefUnit.reset := rfl

theorem State.lossEffect_time (s : State) : s.lossEffect.time = s.time.unset := by simp [State.lossEffect]

theorem State.lossEffect_schedule (s : State) : s.lossEffect.schedule = [] := rfl

theorem State.lossEffect_frames (s : State) :
    s.lossEffect.frames = { FrameBuilder.reset with rebuilds := s.frames.rebuilds } := by simp [State.lossEffect]

theorem State.lossEffect_key (s : State) : s.lossEffect.key = s.key.lost := by simp [State.lossEffect, Keying.lost]

theorem State.lossEffect_line (s : State) : s.lossEffect.line = s.line.lost := by
  simp [State.lossEffect, LineReader.lost]

/-- The controller that is lost is the one whose self-test has been aborted (R141). -/
theorem State.lossEffect_ctl (s : State) : s.lossEffect.ctl = s.abortTest.ctl.lost := by simp [State.lossEffect]

/-- OSC_LOST is raised with the N held before the time becomes UNSET (R177). -/
theorem State.lossEffect_alarms (s : State) :
    s.lossEffect.maint.alarms = raiseIn .oscLost s.time.n s.maint.alarms := by simp [State.lossEffect]

/-- The class is U while the time is UNSET (R51). -/
theorem State.cls_of_unset {s : State} (h : s.time.n = none) : s.cls = .u := by
  simp [State.cls, timeClass, h]

/-- OSCILLATOR_LOSS is due whenever the monitor is UP (R18). -/
theorem exec_oscillatorLoss {now : Instant} {s : State} (up : s.timer.monitor = .up) :
    exec (.oscillatorLoss now) s = .next (s.at now).lossEffect :=
  State.onEvent_due (by simp [up])

end Sys2Proof.Machine

namespace Sys2Proof.Proofs

open Sys2Proof.Machine

/-- Settles O12: each block of the state a loss leaves is the block's `lost` or reset value, and those are read off field by field. -/
theorem oscillatorLossEffects : Obligations.OscillatorLossEffects := by
  intro now s up
  have unset : (s.at now).lossEffect.time.n = none := by simp [State.lossEffect_time]
  refine ⟨_, exec_oscillatorLoss up, ?key, ?ctl, State.lossEffect_ref _, ?time, State.lossEffect_schedule _, ?frames,
    ?timer, ?line, ?maint, ?load⟩
  case key => simp [State.keyPulled, State.lossEffect_key, Keying.lost, Keying.reset]
  case ctl =>
    simp only [State.lossEffect_ctl]
    refine ⟨rfl, rfl, rfl, rfl, rfl, rfl, rfl, rfl, by simp, by simp, fun busy => ?_, fun idle => ?_⟩
    · exact State.abortTest_testResult busy
    · rw [State.abortTest_of_idle (s := s.at now) idle]; rfl
  case time =>
    rw [State.cls_of_unset unset, State.lossEffect_time]
    simp [TimeScale.unset]
  case frames => simp [State.lossEffect_frames, FrameBuilder.reset]
  case timer => simp [State.lossEffect_timer, Timer.lost, Timer.reset]
  case line => simp [State.lossEffect_line, LineReader.lost, LineReader.reset]
  case maint => simp [State.lossEffect_alarms]
  case load => simp

end Sys2Proof.Proofs
end

section
/-!
PROOFS. The limits of the second timer's arithmetic (R25, R27): what an epoch makes of F, A and the second length, what each
command makes of F, and the obligation assembled from both.
-/

namespace Sys2Proof.Machine

/-! ## Clamped values -/

theorem clampInt_within {x lo hi : Int} (h : lo ≤ hi) : lo ≤ clampInt x lo hi ∧ clampInt x lo hi ≤ hi := by
  unfold clampInt
  split
  · omega
  · split <;> omega

/-- F within its limits (R25, R27). -/
def fWithin (f : Int) : Prop := -Config.fLimit ≤ f ∧ f ≤ Config.fLimit

theorem steeredF_within {f : Int} (h : fWithin f) (e : Int) (n : Nat) : fWithin (steeredF f e n) := by
  unfold steeredF
  split
  · exact clampInt_within (by decide)
  · exact h

theorem phaseCorrection_within (e : Int) : -20 ≤ phaseCorrection e ∧ phaseCorrection e ≤ 20 :=
  clampInt_within (by decide)

/-- The initial F that a completed load brings is in range where the staged one is (R166, R167). -/
theorem Loader.complete_trim_ok {l : Loader} (staged : trimInRange l.staging.trim) :
    trimInRange l.complete.params.trim := by
  unfold Loader.complete
  split
  · exact staged
  · simp [trimInRange, Params.defaults]

/-! ## The second length at an epoch -/

/-- Timer `u` follows `t` by steps 3 to 5 of R25, with the phase correction `p`. -/
structure Timer.Corrected (t u : Timer) (p : Int) : Prop where
  length : u.length = Config.nominalSecond + p + (t.a + u.f) / Config.fUnit
  a : u.a = (t.a + u.f) % Config.fUnit

theorem Timer.spend_corrected (t : Timer) (f p : Int) : t.Corrected (t.spend f p) p :=
  ⟨rfl, t.spend_a f p⟩

/-- While ACTIVE an epoch takes no step (R26): it flywheels or steers. -/
theorem disciplineOf_active (source : PhaseSource) (t : Timer) :
    disciplineOf true source t = .flywheel ∨ ∃ e n, disciplineOf true source t = .steer e n := by
  cases h : heldSample source t with
  | none => exact .inl (by simp [disciplineOf, h])
  | some sample => exact .inr ⟨sample.1, sample.2, by simp [disciplineOf, h]⟩

/-- At an epoch F is kept or steered; no step touches it (R25, R26). -/
theorem Timer.fixLength_f (active : Bool) (ref : RefState) (lineDiscipline : Bool) (t : Timer) :
    (t.fixLength active ref lineDiscipline).f = t.f ∨
      ∃ e n, (t.fixLength active ref lineDiscipline).f = steeredF t.f e n := by
  unfold Timer.fixLength
  dsimp only
  split
  case h_1 => exact .inl rfl
  case h_2 e n _ => exact .inr ⟨e, n, rfl⟩
  case h_3 => exact .inl rfl
  case h_4 => exact .inl rfl

/-- While ACTIVE the second is corrected by a phase correction of at most 20 ticks (R25). -/
theorem Timer.fixLength_active (ref : RefState) (lineDiscipline : Bool) (t : Timer) :
    ∃ p, t.Corrected (t.fixLength true ref lineDiscipline) p ∧ -20 ≤ p ∧ p ≤ 20 := by
  unfold Timer.fixLength
  dsimp only
  obtain h | ⟨e, n, h⟩ := disciplineOf_active (phaseSource ref lineDiscipline t.receivedMarker)
    { t with source := phaseSource ref lineDiscipline t.receivedMarker }
  · rw [h]
    have spent := t.spend_corrected t.f 0
    exact ⟨0, ⟨spent.length, spent.a⟩, by decide, by decide⟩
  · rw [h]
    have spent := t.spend_corrected (steeredF t.f e n) (phaseCorrection e)
    exact ⟨phaseCorrection e, ⟨spent.length, spent.a⟩, phaseCorrection_within e⟩

/-- The Second Timer's part of an epoch keeps F or steers it. -/
theorem State.timeSecond_f (s : State) :
    s.timeSecond.timer.f = s.timer.f ∨ ∃ e n, s.timeSecond.timer.f = steeredF s.timer.f e n :=
  s.timer.ageMarkers.fixLength_f _ _ _

theorem State.timeSecond_active {s : State} (active : s.ctl.standing = .active) :
    ∃ p, s.timer.Corrected s.timeSecond.timer p ∧ -20 ≤ p ∧ p ≤ 20 := by
  obtain ⟨p, corrected, bound⟩ :=
    Timer.fixLength_active s.ref.state s.load.params.site.lineDiscipline s.timer.ageMarkers
  refine ⟨p, ?_, bound⟩
  simp only [State.timeSecond, active]
  exact ⟨corrected.length, corrected.a⟩

/-! ## What the rest of an epoch leaves of the second length -/

@[simp] theorem State.openEpoch_length (t0 : Int) (s : State) : (s.openEpoch t0).timer.length = s.timer.length := rfl

@[simp] theorem State.setN_length (n : Int) (s : State) : (s.setN n).timer.length = s.timer.length := rfl

@[simp] theorem State.advanceTo_length (n : Int) (step : LeapStep) (s : State) :
    (s.advanceTo n step).timer.length = s.timer.length := rfl

@[simp] theorem State.setTime_length (n : Int) (origin : Origin) (s : State) :
    (s.setTime n origin).timer.length = s.timer.length := by simp [State.setTime]

@[simp] theorem State.endRange_length (s : State) : s.endRange.timer.length = s.timer.length := by
  unfold State.endRange
  dsimp only
  split <;> simp

@[simp] theorem State.shiftCount_length (difference : Int) (s : State) :
    (s.shiftCount difference).timer.length = s.timer.length := by
  unfold State.shiftCount
  split <;> simp

@[simp] theorem State.shiftAtEpoch_length (difference : Int) (s : State) :
    (s.shiftAtEpoch difference).timer.length = s.timer.length := by
  unfold State.shiftAtEpoch
  split <;> simp

@[simp] theorem State.countAtEpoch_length (coming : Option (Int × LeapStep)) (e : Int) (s : State) :
    (s.countAtEpoch coming e).timer.length = s.timer.length := by
  unfold State.countAtEpoch
  repeat' split
  all_goals simp

@[simp] theorem State.takePendingReset_length (s : State) :
    s.takePendingReset.1.timer.length = s.timer.length := by
  unfold State.takePendingReset
  dsimp only
  repeat' split
  all_goals simp

/-- Once the second length is fixed, the rest of the epoch leaves it, F and A as they are. -/
theorem State.epochEffect_arithmetic (s : State) :
    s.epochEffect.timer.length = s.timeSecond.timer.length ∧ s.epochEffect.timer.f = s.timeSecond.timer.f ∧
      s.epochEffect.timer.a = s.timeSecond.timer.a := by
  simp [State.epochEffect]

/-! ## What each command makes of F -/

theorem State.monitorUpEffect_f (s : State) :
    s.monitorUpEffect.timer.f = s.timer.f ∨ ∃ e n, s.monitorUpEffect.timer.f = steeredF s.timer.f e n := by
  have up := ({ s with timer := { s.timer with monitor := .up } } : State).timeSecond_f
  simpa [State.monitorUpEffect, State.firstEpoch] using up

/-- A completed load puts its TRIM into F, where it has one (R170). -/
theorem State.completeEffect_f (s : State) :
    s.completeEffect.timer.f = s.load.complete.params.trim.getD s.timer.f := by
  simp [State.completeEffect, State.takeParams]

/-- A command whose effect leaves F alone leaves F alone. -/
theorem State.onEvent_keeps_f {s t : State} {now : Instant} {due : Bool} {effect : State → State}
    (h : s.onEvent now due effect = .next t) (keeps : ∀ u, (effect u).timer.f = u.timer.f) :
    t.timer.f = s.timer.f := by
  obtain ⟨_, rfl⟩ | ⟨_, rfl⟩ := State.onEvent_cases h
  · simp [keeps]
  · rfl

/-- All that a command can make of F: it is kept, cleared by a reset, brought by a completed load, or steered at an epoch. -/
theorem exec_f {c : Instr} {s t : State} (h : exec c s = .next t) :
    t.timer.f = s.timer.f ∨ t.timer.f = 0 ∨ t.timer.f = s.load.complete.params.trim.getD s.timer.f ∨
      ∃ e n, t.timer.f = steeredF s.timer.f e n := by
  cases c
  case reset now =>
    cases h
    exact .inr (.inl rfl)
  case loadCompletion now =>
    obtain ⟨_, rfl⟩ | ⟨_, rfl⟩ := State.onEvent_cases h
    · exact .inr (.inr (.inl (by simp [State.completeEffect_f])))
    · exact .inl rfl
  case oscMonitorUp now =>
    obtain ⟨_, rfl⟩ | ⟨_, rfl⟩ := State.onEvent_cases h
    · obtain kept | steered := (s.at now).monitorUpEffect_f
      · exact .inl kept
      · exact .inr (.inr (.inr steered))
    · exact .inl rfl
  case epoch now =>
    obtain ⟨_, rfl⟩ | ⟨_, rfl⟩ := State.onEvent_cases h
    · obtain ⟨-, kept_f, -⟩ := (s.at now).epochEffect_arithmetic
      rw [kept_f]
      obtain kept | steered := (s.at now).timeSecond_f
      · exact .inl kept
      · exact .inr (.inr (.inr steered))
    · exact .inl rfl
  case oscillatorLoss now => exact .inl (State.onEvent_keeps_f h fun u => by simp [State.lossEffect])
  -- The commands whose arm writes its effect out in place.
  case settlingEnd | silence | recordStart | oscGapWhileDown | status | schedule | currentFrame | lineFrame | alarms | ackAlarms |
      alertDelayExpiry =>
    simp only [exec, execSettlingEnd, execSilence, execRecordStart, execOscGapWhileDown, execStatus, execSchedule, execCurrentFrame,
      execLineFrame, execAlarms, execAckAlarms, execAlertDelayExpiry] at h
    exact .inl (State.onEvent_keeps_f h fun _ => rfl)
  -- Every other effect is named, and its frame lemma says that F stays.
  all_goals exact .inl (State.onEvent_keeps_f h fun u => by simp)

theorem exec_fWithin {c : Instr} {s t : State} (safe : TimerSafe s) (h : exec c s = .next t) : fWithin t.timer.f := by
  have within : fWithin s.timer.f := ⟨safe.f_low, safe.f_high⟩
  obtain kept | cleared | brought | ⟨e, n, steered⟩ := exec_f h
  · rwa [kept]
  · rw [cleared]; unfold fWithin; decide
  · rw [brought]
    cases trim : s.load.complete.params.trim with
    | none => exact within
    | some f => exact Loader.complete_trim_ok safe.staged_ok f trim
  · rw [steered]; exact steeredF_within within e n

/-! ## The bounds -/

/-- With A in its range and F within its limits, q is at most 50 either way (R27). -/
theorem wholeTicks_within {a f : Int} (a_low : 0 ≤ a) (a_high : a < Config.fUnit) (f_within : fWithin f) :
    -50 ≤ (a + f) / Config.fUnit ∧ (a + f) / Config.fUnit ≤ 50 := by
  obtain ⟨f_low, f_high⟩ := f_within
  simp only [Config.fUnit, Config.fLimit] at *
  omega

theorem exec_epoch {now : Instant} {s : State} (due : EpochDue now s) :
    exec (.epoch now) s = .next (s.at now).epochEffect :=
  State.onEvent_due (by simp [due.up, due.tick, due.driven])

/-- An epoch while ACTIVE corrects the second by at most 20 ticks of phase (R25). -/
theorem State.epochEffect_active {s : State} (active : s.ctl.standing = .active) :
    ∃ p, s.timer.Corrected s.epochEffect.timer p ∧ -20 ≤ p ∧ p ≤ 20 := by
  obtain ⟨p, corrected, bound⟩ := State.timeSecond_active active
  obtain ⟨length, f, a⟩ := s.epochEffect_arithmetic
  exact ⟨p, ⟨by rw [length, f, corrected.length], by rw [a, f, corrected.a]⟩, bound⟩

end Sys2Proof.Machine

namespace Sys2Proof.Proofs

open Sys2Proof.Machine

/-- Settles O15: no command takes F past its limits, so q stays within 50 ticks, and an epoch while ACTIVE adds a phase
correction of at most 20. -/
theorem activeSecondsStayNearNominal : Obligations.ActiveSecondsStayNearNominal := by
  refine ⟨fun c s t safe h => exec_fWithin safe h, fun s safe => ?sum, fun now s safe due active => ?second⟩
  case sum =>
    have q_within := wholeTicks_within safe.a_low safe.a_high ⟨safe.f_low, safe.f_high⟩
    obtain ⟨f_low, f_high, a_low, a_high, -, -⟩ := safe
    simp only [Config.fUnit, Config.fLimit] at *
    omega
  case second =>
    have runs := exec_epoch due
    obtain ⟨p, ⟨length, a⟩, p_low, p_high⟩ := State.epochEffect_active (s := s.at now) active
    obtain ⟨q_low, q_high⟩ := wholeTicks_within safe.a_low safe.a_high (exec_fWithin safe runs)
    simp only [State.at_frame, Config.nominalSecond, Config.fUnit] at length a q_low q_high
    exact ⟨_, p, _, runs, length, p_low, p_high, q_low, q_high, rfl, by omega, by omega, by omega⟩

end Sys2Proof.Proofs
end

section
/-!
PROOFS. ACK_ALARMS (R178): what the acknowledgement clears and leaves, that it forgets a raising taken before it, what a raising makes
of the cleared state, and the obligation assembled from them.
-/

namespace Sys2Proof.Machine

/-! ## What the acknowledgement clears -/

/-- With nothing raised and ALERT_N released, there is nothing to clear (R178). -/
theorem State.clearAlarms_of_clear {s : State} (alarms : s.maint.alarms = []) (raisings : s.maint.raisings = 0)
    (alertFrom : s.maint.alertFrom = none) (alertN : s.maint.alertN = false) : s.clearAlarms = s := by
  unfold State.clearAlarms
  rw [← alarms, ← raisings, ← alertFrom, ← alertN]

/-- A raising writes only what an acknowledgement clears, whatever the clocks read at each (R177, R178). -/
theorem State.clearAlarms_raise (now : Instant) (k : AlarmKind) (s : State) :
    ((s.raise k).at now).clearAlarms = (s.at now).clearAlarms := rfl

/-! ## The command -/

/-- ACK_ALARMS handled, with the answer recorded (R174, R178). -/
def State.ackAlarmsEffect (s : State) : State := s.clearAlarms.recordCommand 0x81#8 .accepted

/-- ACK_ALARMS is taken whenever the load is complete (R172, R178). -/
theorem exec_ackAlarms {now : Instant} {s : State} (done : s.load.phase = .done) :
    exec (.ackAlarms now) s = .next (s.at now).ackAlarmsEffect := by
  have loaded : s.loaded = true := by simp [State.loaded, done]
  exact State.onEvent_due (effect := State.ackAlarmsEffect) loaded

/-! ## A raising on an empty alarm set -/

/-- A raising after load completion on an empty alarm set (R177, R179): one entry with a count of 1, the delay timer
started, and ALERT_N driven exactly where ALERT_COUNT is at most 1. -/
theorem State.raise_first {s : State} (k : AlarmKind) (done : s.load.phase = .done) (alarms : s.maint.alarms = [])
    (raisings : s.maint.raisings = 0) (alertFrom : s.maint.alertFrom = none) (alertN : s.maint.alertN = false) :
    (s.raise k).maint.alarms = [{ kind := k, firstN := s.time.n, count := 1 }] ∧ (s.raise k).maint.raisings = 1 ∧
      (s.raise k).maint.alertFrom = some s.clk ∧
      ((s.raise k).maint.alertN = true ↔ s.load.params.alert.count ≤ 1) := by
  have one : bumpSat 0 = 1 := bumpSat_below (by decide)
  refine ⟨?entry, ?count, ?timer, ?judged⟩
  case entry => rw [State.raise_alarms, alarms, raiseIn]
  case count => rw [State.raise_raisings, raisings, one]
  case timer => rw [State.raise_alertFrom, alertFrom, Option.getD_none]
  case judged => simp [State.loaded, done, raisings, one, alertN]

end Sys2Proof.Machine

namespace Sys2Proof.Proofs

open Sys2Proof.Machine

/-- Settles O50: the acknowledgement writes the alarm set's fields and its answer and no more, forgets a raising before it, and
leaves the state in which a raising after it is the first. -/
theorem ackAlarmsEmptiesTheAlarmSet : Obligations.AckAlarmsEmptiesTheAlarmSet := by
  intro now s k done
  refine ⟨(s.at now).ackAlarmsEffect, exec_ackAlarms done, rfl, ?nothing, ?before, ?after⟩
  case nothing =>
    intro alarms raisings alertFrom alertN
    have clear : (s.at now).clearAlarms = s.at now := State.clearAlarms_of_clear alarms raisings alertFrom alertN
    rw [State.ackAlarmsEffect, clear]
    rfl
  case before =>
    have taken := exec_ackAlarms (now := now) (s := s.raise k) done
    rwa [State.ackAlarmsEffect, State.clearAlarms_raise] at taken
  case after =>
    exact State.raise_first k (s := (s.at now).ackAlarmsEffect) done rfl rfl rfl rfl

end Sys2Proof.Proofs
end

section
/-!
PROOFS. The CRC-16 (R185). Each shift of the register can be undone, because the bit shifted out is seen again in bit 0, so a run of bytes
keeps different registers different; and a register whose set bits are all in its low byte is only moved up by a byte's eight shifts. From
these: an error within one byte is always found, and a run followed by its own CRC ends at 0.
-/

namespace Sys2Proof.Machine

/-! ## One shift -/

theorem crcShift_eq (r : BitVec 16) :
    crcShift r = if r.getLsbD 15 then (r <<< 1) ^^^ 0x1021#16 else r <<< 1 := by
  rw [crcShift, BitVec.msb_eq_getLsbD_last]

theorem crcShift_of_msb_false {r : BitVec 16} (h : r.msb = false) : crcShift r = r <<< 1 := by
  simp [crcShift, h]

/-- 0x1021 is odd, so bit 0 after a shift is the bit shifted out. -/
theorem crcShift_getLsbD_zero (r : BitVec 16) : (crcShift r).getLsbD 0 = r.msb := by
  unfold crcShift
  split
  next one => simp [one]
  next zero => simp [zero]

theorem shiftLeft_one_inj {r q : BitVec 16} (top : r.msb = q.msb) (h : r <<< 1 = q <<< 1) : r = q := by
  have low : (r <<< 1).toNat = (q <<< 1).toNat := by rw [h]
  simp only [BitVec.msb_eq_decide, decide_eq_decide, BitVec.toNat_shiftLeft, Nat.shiftLeft_eq] at top low
  apply BitVec.eq_of_toNat_eq
  omega

theorem crcShift_injective : Function.Injective crcShift := by
  intro r q h
  have top : r.msb = q.msb := by rw [← crcShift_getLsbD_zero, ← crcShift_getLsbD_zero, h]
  refine shiftLeft_one_inj top ?_
  unfold crcShift at h
  rw [top] at h
  split at h
  · exact (BitVec.xor_left_inj _).mp h
  · exact h

/-! ## The shifts of a byte -/

theorem crcShifts_injective (n : Nat) : Function.Injective (crcShifts n) := by
  induction n with
  | zero => exact fun _ _ h => h
  | succ n ih => exact ih.comp crcShift_injective

/-- While only zeros are shifted out, the shifts only move the register up. -/
theorem crcShifts_of_small (n : Nat) {r : BitVec 16} (h : r.toNat * 2 ^ n < 2 ^ 16) : crcShifts n r = r <<< n := by
  induction n generalizing r with
  | zero => simp [crcShifts]
  | succ n ih =>
    have fits : r.toNat * 2 * 2 ^ n < 2 ^ 16 := by rwa [Nat.mul_assoc, ← Nat.pow_succ']
    have twice : r.toNat * 2 < 2 ^ 16 := (Nat.le_mul_of_pos_right _ (by positivity)).trans_lt fits
    have top : r.msb = false := by rw [BitVec.msb_eq_decide, decide_eq_false_iff_not]; omega
    have doubled : (r <<< 1).toNat = r.toNat * 2 := by
      rw [BitVec.toNat_shiftLeft, Nat.shiftLeft_eq, Nat.pow_one, Nat.mod_eq_of_lt twice]
    rw [crcShifts, crcShift_of_msb_false top, ih (by rwa [doubled]), ← BitVec.shiftLeft_add, Nat.add_comm]

/-! ## One byte -/

theorem crcByte_injective_register (b : Byte) : Function.Injective (crcByte · b) := by
  intro r q h
  exact (BitVec.xor_left_inj _).mp (crcShifts_injective 8 h)

theorem crcByte_injective_byte (r : BitVec 16) : Function.Injective (crcByte r) := by
  intro b c h
  exact (BitVec.append_left_inj 0#8).mp ((BitVec.xor_right_inj r).mp (crcShifts_injective 8 h))

/-- A byte in the low half of the register moves to the high half. -/
theorem crcShifts_low_byte (lo : Byte) : crcShifts 8 (0#8 ++ lo) = lo ++ 0#8 := by
  have low : (0#8 ++ lo).toNat = lo.toNat := by rw [BitVec.toNat_append]; simp
  have high : (lo ++ 0#8).toNat = lo.toNat * 2 ^ 8 := by rw [BitVec.toNat_append]; simp [Nat.shiftLeft_eq]
  have fits : lo.toNat * 2 ^ 8 < 2 ^ 16 := by omega
  rw [crcShifts_of_small 8 (by rwa [low])]
  apply BitVec.eq_of_toNat_eq
  rw [BitVec.toNat_shiftLeft, low, high, Nat.shiftLeft_eq, Nat.mod_eq_of_lt fits]

/-- The register's own high byte cancels it, and its low byte moves up. -/
theorem crcByte_high (hi lo : Byte) : crcByte (hi ++ lo) hi = lo ++ 0#8 := by
  have cancelled : (hi ++ lo) ^^^ (hi ++ 0#8) = 0#8 ++ lo := by
    rw [BitVec.xor_append, BitVec.xor_self, BitVec.xor_zero]
  rw [crcByte, cancelled, crcShifts_low_byte]

/-- A byte equal to the register's high byte clears it where the low one is 0. -/
theorem crcByte_self (b : Byte) : crcByte (b ++ 0#8) b = 0#16 := by
  rw [crcByte, BitVec.xor_self, crcShifts_of_small 8 (by decide)]
  rfl

/-- A register run through its own two bytes, high byte first, ends at 0. -/
theorem crcByte_own_bytes (hi lo : Byte) : crcByte (crcByte (hi ++ lo) hi) lo = 0#16 := by
  rw [crcByte_high, crcByte_self]

/-! ## A run of bytes -/

theorem crc16_append_cons (pre post : List Byte) (b : Byte) :
    crc16 (pre ++ b :: post) = post.foldl crcByte (crcByte (crc16 pre) b) := by
  simp [crc16]

/-- Registers that differ before a run differ after it. -/
theorem foldl_crcByte_injective (bytes : List Byte) : Function.Injective (bytes.foldl crcByte) := by
  induction bytes with
  | nil => exact fun _ _ h => h
  | cons b bytes ih => exact ih.comp (crcByte_injective_register b)

/-- Any change confined to one byte changes the CRC. -/
theorem crc16_inj_byte {pre post : List Byte} {b c : Byte} (h : crc16 (pre ++ b :: post) = crc16 (pre ++ c :: post)) :
    b = c := by
  rw [crc16_append_cons, crc16_append_cons] at h
  exact crcByte_injective_byte _ (foldl_crcByte_injective post h)

/-- A run followed by its own CRC, high byte first, ends at 0. -/
theorem crc16_append_crc (bytes : List Byte) :
    crc16 (bytes ++ [(crc16 bytes).extractLsb' 8 8, (crc16 bytes).extractLsb' 0 8]) = 0#16 := by
  rw [crc16_append_cons]
  have halves : (crc16 bytes).extractLsb' 8 8 ++ (crc16 bytes).extractLsb' 0 8 = crc16 bytes :=
    BitVec.extractLsb'_append_extractLsb'
  have ended := crcByte_own_bytes ((crc16 bytes).extractLsb' 8 8) ((crc16 bytes).extractLsb' 0 8)
  rwa [halves] at ended

theorem xor_bit_ne (b : Byte) {i : Nat} (h : i < 8) : b ^^^ (1#8 <<< i) ≠ b := by
  intro same
  have bit := congrArg (BitVec.getLsbD · i) same
  simp [h] at bit

end Sys2Proof.Machine

namespace Sys2Proof.Proofs

open Sys2Proof.Machine

/-- Settles O56: the register's definition by its equations, the check value by running it, the self-CRC by cancelling the register byte
by byte, and the one-bit error because a run keeps registers apart. -/
theorem crcFindsEveryOneBitError : Obligations.CrcFindsEveryOneBitError := by
  refine ⟨rfl, crc16_append_byte, fun k r => ⟨rfl, ?shift⟩, by decide +kernel, crc16_append_crc, ?oneBit⟩
  case shift => rw [crcShifts, crcShift_eq]
  case oneBit =>
    intro pre post b i bit_in_byte sound broken
    exact xor_bit_ne b bit_in_byte (crc16_inj_byte (broken.trans sound.symm))

end Sys2Proof.Proofs
end

section
/-!
PROOFS. What a step can do: every command is an event with one effect, taken when it is due; so a step is the effect of the front
command, or nothing. The rules that every proof about all commands uses, and the first obligations settled by them.
-/

namespace Sys2Proof.Machine

/-! ## The effect of a command -/

/-- The effect of a command that is due, on the state with the command's clock readings. -/
def Instr.effect : Instr → State → State
  | .reset _ => State.afterReset
  | .resetEnd _ slot1 slot0 => State.resetEndEffect slot1 slot0
  | .settlingEnd _ => fun s => { s with load := { s.load with phase := .reading, memCs := .low } }
  | .imageHeaderCheck _ header => State.headerEffect header
  | .imageReadEnd _ rest => State.readEndEffect rest
  | .loadCompletion _ => State.completeEffect
  | .oscMonitorUp _ => State.monitorUpEffect
  | .oscillatorLoss _ => State.lossEffect
  | .epoch _ => State.epochEffect
  | .driveInstant _ => State.driveEffect
  | .reductionRelease _ => State.releaseNow
  | .readback _ => State.readbackEffect
  | .rescueGraceExpiry _ => State.graceEffect
  | .decisionPoint _ => State.decisionEffect
  | .recordClose _ => State.recordCloseEffect
  | .filterFirstLevel _ level => State.firstLevelEffect level
  | .keyFall _ => State.keyFallEffect
  | .keyRise _ => State.keyRiseEffect
  | .fallSettled _ => State.settleNow
  | .markRecognised _ => State.recogniseMark
  | .overlong _ => State.overlongNow
  | .spacingWindowClose _ => State.spacingEffect
  | .silence _ => fun s => { s with ctl := { s.ctl with silence := true } }
  | .secInPulse _ => State.secInEffect
  | .refWindowClose _ => State.windowEffect
  | .acquireTimeout _ => State.acquireTimeoutEffect
  | .referenceRecord _ bytes => State.recordEffect bytes
  | .recordByteGap _ _ => State.abandonRecord
  | .recordLowStopBit _ => State.abandonRecord
  | .recordStale _ => State.dropWaiting
  | .status _ => fun s => s.select s.statusItem
  | .counters _ => State.countersEffect
  | .schedule _ => fun s => s.select (scheduleItem s.schedule)
  | .observations _ page => State.observationsEffect page
  | .currentFrame _ => fun s => s.select (currentFrameItem s.frames.current)
  | .lineFrame _ => fun s => s.select (lineFrameItem s.line.last)
  | .alarms _ => fun s => s.select (alarmsItem s.maint.alarms)
  | .ackAlarms _ => State.ackAlarmsEffect
  | .withdraw _ => State.withdrawEffect
  | .rejoin _ => State.rejoinEffect
  | .selftest _ => State.selftestEffect
  | .unknownCode _ code => State.unknownEffect code
  | .alertDelayExpiry _ => fun s => { s with maint := { s.maint with alertN := true } }
  | .statusRepetition _ => State.repetitionEffect
  | .oscGapWhileDown _ => fun s => { s with timer := { s.timer with runFrom := s.tick } }
  | .recordStart _ => fun s => { s with ref := { s.ref with assembling := true } }
/-- When a command is due, or not shut out by a guard. -/
def Instr.due : Instr → State → Bool
  | .reset _, _ => true
  | .resetEnd _ _ _, s => s.load.phase == .held
  | .settlingEnd now, s => s.load.phase == .settling && now.clk == s.load.readStart
  | .imageHeaderCheck now header, s => s.load.phase == .reading && s.load.imageLength == 0 && now.clk == s.load.bytesRead header.length
  | .imageReadEnd now rest, s => s.load.phase == .reading && s.load.imageLength != 0 &&
      s.load.buffer.length + rest.length == s.load.imageLength && now.clk == s.load.bytesRead s.load.imageLength
  | .loadCompletion now, s => s.load.phase.closing && s.load.doneClk == some now.clk
  | .oscMonitorUp now, s => s.load.phase != .held && s.timer.monitor == .down && decide (s.timer.runFrom + Config.stableRun = now.tick)
  | .oscillatorLoss _, s => s.timer.monitor == .up
  | .epoch now, s => s.timer.monitor == .up && s.timer.nextEpoch == some now.tick && s.timer.driveTaken
  | .driveInstant now, s => s.timer.monitor == .up && s.timer.nextDrive == some now.tick && !s.timer.driveTaken
  | .reductionRelease now, s => s.timer.monitor == .up && s.reducing && s.releaseDue now.tick
  | .readback now, s => s.timer.monitor == .up && (s.readbackOf now.tick).isSome
  | .rescueGraceExpiry now, s => s.timer.monitor == .up && s.key.drive == .listening && s.key.t0 == some (now.tick - s.rescueGrace)
  | .decisionPoint now, s => s.timer.monitor == .up && (s.key.openAt (now.tick - Config.decisionAt)).any (fun o => o.outcome.isNone)
  | .recordClose now, s => s.timer.monitor == .up &&
      (s.key.openAt (now.tick - Config.recordAt)).any (fun o => !o.action.keyed || o.outcome.isSome)
  | .filterFirstLevel now _, s => s.timer.monitor == .up && s.key.level.isNone && s.key.filterReady now.tick && !s.testRunning
  | .keyFall now, s => s.timer.monitor == .up && s.key.level == some .high && s.key.filterReady now.tick && !s.testRunning
  | .keyRise now, s => s.timer.monitor == .up && s.key.level == some .low && s.key.filterReady now.tick && !s.testRunning
  | .fallSettled now, s => s.timer.monitor == .up && s.line.reduction.any (fun r => r.role == .unsettled &&
      decide (r.fall + Config.glitchBelow = now.tick))
  | .markRecognised now, s => s.timer.monitor == .up && s.line.reduction.any (fun r => !r.markSeen &&
      decide (r.fall + Config.markFrom = now.tick))
  | .overlong now, s => s.timer.monitor == .up && s.line.reduction.any (fun r => !r.overSeen &&
      decide (r.fall + Config.markTo = now.tick))
  | .spacingWindowClose now, s => s.timer.monitor == .up && s.line.decoder == .assembling &&
      s.line.assembly.any (fun a => !a.windowClosed && decide (a.lastFall + Config.spacingTo = now.tick))
  | .silence now, s => s.timer.monitor == .up && s.ctl.standing.surveys && s.ctl.silenceFrom == some (now.tick - Config.silenceRun)
  | .secInPulse _, s => s.timer.monitor == .up
  | .refWindowClose now, s => s.timer.monitor == .up && s.ref.state == .locked && s.timer.past.any (windowDue now.tick)
  | .acquireTimeout now, s => s.timer.monitor == .up && s.ref.state == .acquire &&
      s.ref.acquireFrom == some (now.tick - Config.acquireTimeout)
  | .referenceRecord _ bytes, s => s.timer.monitor == .up && s.ref.assembling && bytes.length == 16 && bytes.head? == some 0xC3#8
  | .recordByteGap now lastByteEnd, s => s.timer.monitor == .up && s.ref.assembling && decide (Config.byteGap < now.tick - lastByteEnd)
  | .recordLowStopBit _, s => s.timer.monitor == .up && s.ref.assembling
  | .recordStale now, s => s.timer.monitor == .up && s.ref.waiting.any (fun w => decide (w.time + Config.labelTo = now.tick))
  | .unknownCode _ code, s => s.loaded && unknownCodeOk code
  | .alertDelayExpiry now, s => s.loaded &&
      s.maint.alertFrom.any (fun t => t + s.load.params.alert.delay * Config.clockSecond == now.clk)
  | .statusRepetition now, s => s.loaded && s.maint.nextRepetition == some now.clk
  | .oscGapWhileDown _, s => s.load.phase != .held && s.timer.monitor == .down
  | .recordStart _, s => s.timer.monitor == .up && !s.ref.assembling
  | .status _, s | .counters _, s | .schedule _, s | .observations _ _, s | .currentFrame _, s | .lineFrame _, s | .alarms _, s
  | .ackAlarms _, s | .withdraw _, s | .rejoin _, s | .selftest _, s => s.loaded

/-- Every command is an event: its effect when it is due, and nothing otherwise (notes/assumptions/2.md). -/
theorem exec_onEvent (c : Instr) (s : State) : exec c s = s.onEvent c.now (Instr.due c s) (Instr.effect c) := by
  cases c <;> rfl

theorem exec_due {c : Instr} {s : State} (due : Instr.due c s = true) : exec c s = .next (Instr.effect c (s.at c.now)) :=
  (exec_onEvent c s).trans (State.onEvent_due due)

/-- Whatever a command answers is its effect where it is due, or the state as it was. -/
theorem exec_cases {c : Instr} {s t : State} (h : exec c s = .next t) :
    (Instr.due c s = true ∧ t = Instr.effect c (s.at c.now)) ∨ t = s := by
  rw [exec_onEvent] at h
  exact (State.onEvent_cases h).imp id And.right

/-- What neither the clock readings nor any command's effect changes, no command changes. -/
theorem exec_preserves {P : State → Prop} {c : Instr} {s t : State} (h : exec c s = .next t) (before : P s)
    (clocks : P s → P (s.at c.now)) (effect : P (s.at c.now) → P (Instr.effect c (s.at c.now))) : P t := by
  obtain ⟨-, rfl⟩ | rfl := exec_cases h
  · exact effect (clocks before)
  · exact before

/-! ## A step -/

theorem step_front (c : Instr) (rest : List Instr) (s : State) :
    step (s.withPending (c :: rest)) = exec c (s.withPending rest) := rfl

theorem step_empty (s : State) : step (s.withPending []) = .next (s.withPending []) := rfl

/-- A step is a command taken from the queue, or nothing. -/
theorem step_cases {s t : State} (h : step s = .next t) :
    (∃ c rest, exec c (s.withPending rest) = .next t) ∨ t = s := by
  unfold step at h
  split at h
  next c rest _ => exact .inl ⟨c, rest, h⟩
  next => exact .inr (by cases h; rfl)

/-- What every command keeps, and what does not speak of the queue, every step keeps. -/
theorem step_keeps {P : State → Prop} (queue : ∀ s rest, P s → P (s.withPending rest))
    (command : ∀ c s t, P s → exec c s = .next t → P t) {s t : State} (before : P s) (h : step s = .next t) : P t := by
  obtain ⟨c, rest, taken⟩ | rfl := step_cases h
  · exact command c _ t (queue s rest before) taken
  · exact before

/-! ## The queue -/

/-- No effect touches the queue: only the pins put commands there. -/
theorem Instr.effect_pending (c : Instr) (s : State) : (Instr.effect c s).pending = s.pending := by
  cases c <;> simp [Instr.effect, State.ackAlarmsEffect]

theorem exec_completes (c : Instr) (s : State) : ∃ t, exec c s = .next t := by
  rw [exec_onEvent]
  cases due : Instr.due c s
  · exact ⟨s, State.onEvent_idle rfl⟩
  · exact ⟨_, State.onEvent_due rfl⟩

/-! ## The epoch, stage by stage -/

/-- The state at an epoch once the second length and the count are taken (R17, R44, R51). -/
def State.epochCounted (s : State) : State :=
  ((s.timeSecond.openEpoch s.presentDrive).countAtEpoch s.comingCount s.tick).ageAlarm s.cls

/-- The state at an epoch once the pending re-set is taken too (R53). -/
def State.epochReset (s : State) : State := s.epochCounted.takePendingReset.1

/-- Whether an epoch applies a re-set: a step, or a pending one taken (R52, R53). -/
def State.epochResets (s : State) : Bool := s.epochSteps || s.epochCounted.takePendingReset.2

theorem State.epochEffect_eq (s : State) : s.epochEffect = s.epochReset.entriesAtEpoch.buildAtEpoch s.epochResets := rfl

/-! ## The drive instant, stage by stage -/

/-- The state at a drive instant once the swap is made (R90). -/
def State.driveSwapped (s : State) : State := s.swapIf s.swapDue

/-- Whether a drive instant is that of a MARK (R90). -/
def State.driveMark (s : State) : Bool := s.swapDue && s.driveSwapped.beginsFrame s.comingCount

/-- The index of the second that a drive instant begins (R91). -/
def State.driveIndex (s : State) : Option Nat := s.driveSwapped.indexAt s.comingCount

/-- The state at a drive instant once the standing has turned and a self-test closes or starts (R120, R138, R140). -/
def State.driveTurned (s : State) : State :=
  ((s.driveSwapped.standingAtDrive s.driveMark).closeTest s.driveMark).startTest s.driveMark

theorem State.driveEffect_eq (s : State) : s.driveEffect = (s.driveTurned.keySecond s.driveMark s.driveIndex).loopSecond := rfl

end Sys2Proof.Machine

namespace Sys2Proof.Proofs

open Sys2Proof.Machine

/-- Settles O1: both parts are the equations of `step`. -/
theorem stepRunsTheFrontCommand : Obligations.StepRunsTheFrontCommand :=
  ⟨step_front, step_empty⟩

/-- Settles O2: every command is an event, which answers a next state, and no effect touches the queue. -/
theorem everyCommandCompletes : Obligations.EveryCommandCompletes := by
  intro c s
  obtain ⟨t, answered⟩ := exec_completes c s
  refine ⟨t, answered, ?_⟩
  refine exec_preserves (P := fun u => u.pending = s.pending) answered rfl (fun _ => ?clocks) (fun kept => ?effect)
  case clocks => simp
  case effect => rw [Instr.effect_pending, kept]

end Sys2Proof.Proofs
end

section
/-!
PROOFS. What the units tell the Maintenance Unit: counts (R175), raisings (R177, R179) and the two lamps of the stretch counts (R182), and
nothing else. One relation says so, and one lemma an operation says that the operation keeps to it; the bounds and the standing alarms
of every step follow from it.
-/

namespace Sys2Proof.Machine

/-! ## Signals -/

/-- The counts that the units make (R175). -/
def Counters.adds : List (Counters → Counters) :=
  [Counters.addPulseGood, Counters.addFrameKeyed, Counters.addLineFrameGood, Counters.addPulseRejected, Counters.addRecordBad,
   Counters.addRecordGap, Counters.addCountConflict, Counters.addRescue, Counters.addEarly, Counters.addLong, Counters.addExcess,
   Counters.addListenMismatch, Counters.addLineFrameBad, Counters.addSchedDrop, Counters.addLeapRefused]

/-- The Maintenance Unit after a run of counts, raisings and lamps, where `loaded` and `limit` are what ALERT_N is judged by (R179). -/
inductive Maintenance.Signalled (loaded : Bool) (limit : Nat) (m : Maintenance) : Maintenance → Prop
  | none : Signalled loaded limit m m
  | count {u : Maintenance} (bump : Counters → Counters) : bump ∈ Counters.adds → Signalled loaded limit m u →
      Signalled loaded limit m { u with counters := bump u.counters }
  | raising {u : Maintenance} (k : AlarmKind) (n : Option Int) (clk : Nat) : Signalled loaded limit m u →
      Signalled loaded limit m { u with
        alarms := raiseIn k n u.alarms, raisings := bumpSat u.raisings, alertFrom := some (u.alertFrom.getD clk)
        alertN := u.alertN || (loaded && decide (limit ≤ bumpSat u.raisings)) }
  | rescueLamp {u : Maintenance} : Signalled loaded limit m u → Signalled loaded limit m { u with rescueStretch := Config.stretch }
  | peerLamp {u : Maintenance} : Signalled loaded limit m u → Signalled loaded limit m { u with peerStretch := Config.stretch }

/-- State `t` comes of `s` by an operation that leaves the load alone and only signals to the Maintenance Unit. -/
structure State.Signals (s t : State) : Prop where
  load : t.load = s.load
  maint : s.maint.Signalled s.loaded s.load.params.alert.count t.maint

/-! ## The parts of a verdict -/

/-- The DISTURBED frames in a row with the present one, by its tallies (R113). -/
def Keying.disturbedRun (k : Keying) : Nat := if k.tallies.verdict = .disturbed then k.timingStreak + 1 else 0

/-- The CONFLICT frames in a row with the present one, by its tallies (R113). -/
def Keying.conflictRun (k : Keying) : Nat := if k.tallies.verdict = .conflict then k.conflictStreak + 1 else 0

/-- The destination of the yield that the present frame makes due (R130). -/
def State.yieldAfter (s : State) : Option YieldTo :=
  let limit := s.load.params.site.conflictLimit
  let rule := yieldRule limit s.load.slot s.cls
  if yieldIsDue limit rule.1 s.key.conflictRun s.key.tallies.listen then some rule.2 else none

/-- The streaks, the last verdict and the yield due (R112, R113, R114, R130). -/
def State.scoreVerdict (n0 : Int) (s : State) : State :=
  { s with
    key := { s.key with
      conflictStreak := s.key.conflictRun, timingStreak := if s.key.disturbedRun = 3 then 0 else s.key.disturbedRun
      lastVerdict := some { verdict := s.key.tallies.verdict, n0 := n0 } }
    ctl := { s.ctl with yieldDue := s.yieldAfter } }

/-- FRAMES_KEYED counts a frame whose MARK was keyed (R112). -/
def State.countKeyed (s : State) : State := if s.key.keyedMark then s.count Counters.addFrameKeyed else s

/-- PEER_TIMING raised and its lamp lit (R114, R182). -/
def State.warnPeer (s : State) : State :=
  let s := s.raise .peerTiming
  { s with maint := { s.maint with peerStretch := Config.stretch } }

theorem State.giveVerdict_eq (n0 : Int) (s : State) :
    s.giveVerdict n0 =
      if s.key.disturbedRun = 3 then (s.scoreVerdict n0).countKeyed.warnPeer else (s.scoreVerdict n0).countKeyed := rfl

namespace State.Signals

variable {r s t : State}

@[simp] theorem refl (s : State) : s.Signals s := ⟨rfl, .none⟩

/-- An operation that leaves load and Maintenance Unit alone signals nothing. -/
theorem quiet (h : r.Signals s) (load : t.load = s.load) (maint : t.maint = s.maint) : r.Signals t :=
  ⟨load.trans h.load, maint ▸ h.maint⟩

theorem count (h : r.Signals s) {bump : Counters → Counters} (add : bump ∈ Counters.adds) : r.Signals (s.count bump) :=
  ⟨h.load, .count bump add h.maint⟩

@[simp] theorem raise (h : r.Signals s) (k : AlarmKind) : r.Signals (s.raise k) := by
  have judged := h.maint.raising k s.time.n s.clk
  exact ⟨h.load, by simpa [State.raise, State.loaded, h.load] using judged⟩

/-! ## The Change Schedule -/

@[simp] theorem setSchedule (h : r.Signals s) (entries : List Entry) : r.Signals (s.setSchedule entries) :=
  h.quiet (by simp) (by simp)

@[simp] theorem refuseOffer (h : r.Signals s) (o : Offer) : r.Signals (s.refuseOffer o) := by
  unfold State.refuseOffer
  split
  · exact h.count (by simp [Counters.adds])
  · exact h

@[simp] theorem schedFull (h : r.Signals s) : r.Signals s.schedFull := (h.count (by simp [Counters.adds])).raise _

@[simp] theorem insertOffer (h : r.Signals s) (o : Offer) : r.Signals (s.insertOffer o) := by
  unfold State.insertOffer
  repeat' split
  all_goals simp [h]

@[simp] theorem placeOffer (h : r.Signals s) (o : Offer) : r.Signals (s.placeOffer o) := by
  have refused : r.Signals (s.count Counters.addLeapRefused) := h.count (by simp [Counters.adds])
  unfold State.placeOffer
  repeat' split
  all_goals simp [h, refused]

@[simp] theorem offer (h : r.Signals s) (o : Offer) : r.Signals (s.offer o) := by
  unfold State.offer
  repeat' split
  all_goals simp [h]

theorem offers (os : List Offer) (h : r.Signals s) : r.Signals (os.foldl (fun acc o => acc.offer o) s) := by
  induction os generalizing s with
  | nil => exact h
  | cons o os ih => exact ih (h.offer o)

@[simp] theorem expandRules (h : r.Signals s) : r.Signals s.expandRules := by
  unfold State.expandRules
  split
  · exact h.offers _
  · exact h

/-! ## The time scale -/

@[simp] theorem classChanged (h : r.Signals s) (before : TimeClass) : r.Signals (s.classChanged before) :=
  h.quiet (by simp) (by simp)

@[simp] theorem catchUp (h : r.Signals s) : r.Signals s.catchUp := h.quiet (by simp) (by simp)

@[simp] theorem catchUpNow (h : r.Signals s) : r.Signals s.catchUpNow := h.quiet (by simp) (by simp)

@[simp] theorem setN (h : r.Signals s) (n : Int) : r.Signals (s.setN n) := h.quiet (by simp) (by simp)

@[simp] theorem setTime (h : r.Signals s) (n : Int) (origin : Origin) : r.Signals (s.setTime n origin) := by
  unfold State.setTime
  refine classChanged (catchUp (expandRules (setN ?_ n))) _
  exact h.quiet rfl rfl

@[simp] theorem resetApplied (h : r.Signals s) : r.Signals s.resetApplied := h.quiet (by simp) (by simp)

@[simp] theorem shiftCount (h : r.Signals s) (difference : Int) : r.Signals (s.shiftCount difference) := by
  unfold State.shiftCount
  split
  next n _ =>
    have pruned : r.Signals (({ s with time := { s.time with leap60 := false } } : State).resetSchedule n) :=
      h.quiet (by simp) (by simp)
    exact (pruned.setN n).expandRules.quiet rfl rfl
  next => exact h

@[simp] theorem applyCountReset (h : r.Signals s) (difference : Int) : r.Signals (s.applyCountReset difference) := by
  unfold State.applyCountReset
  split <;> simp [h]

@[simp] theorem advanceTo (h : r.Signals s) (n : Int) (step : LeapStep) : r.Signals (s.advanceTo n step) := h.quiet (by simp) (by simp)

@[simp] theorem countAtEpoch (h : r.Signals s) (coming : Option (Int × LeapStep)) (e : Int) : r.Signals (s.countAtEpoch coming e) := by
  have ended : r.Signals s.endRange := h.quiet (by simp) (by simp)
  unfold State.countAtEpoch
  repeat' split
  all_goals simp [h, ended]

@[simp] theorem shiftAtEpoch (h : r.Signals s) (difference : Int) : r.Signals (s.shiftAtEpoch difference) := by
  unfold State.shiftAtEpoch
  split
  · refine shiftCount ?_ difference
    exact h.quiet rfl rfl
  · exact h

@[simp] theorem takePendingReset (h : r.Signals s) : r.Signals s.takePendingReset.1 := by
  unfold State.takePendingReset
  split
  case h_2 => exact h
  case h_1 pending _ =>
    split
    · exact h
    · have dropped : r.Signals s.dropPendingReset := h.quiet (by simp) (by simp)
      dsimp only
      split <;> split
      · exact (dropped.shiftAtEpoch _).quiet rfl rfl
      · exact dropped.quiet rfl rfl
      · exact dropped.shiftAtEpoch _
      · exact dropped

@[simp] theorem ageAlarm (h : r.Signals s) (before : TimeClass) : r.Signals (s.ageAlarm before) := by
  unfold State.ageAlarm
  split <;> simp [h]

@[simp] theorem entriesAtEpoch (h : r.Signals s) : r.Signals s.entriesAtEpoch := by
  have retired (n : Int) : r.Signals (s.retire n) := h.quiet (by simp) (by simp)
  unfold State.entriesAtEpoch
  repeat' split
  all_goals simp [h, retired]

@[simp] theorem buildAtEpoch (h : r.Signals s) (reset : Bool) : r.Signals (s.buildAtEpoch reset) := by
  unfold State.buildAtEpoch
  cases reset <;> exact h.quiet (by simp) (by simp)

theorem epochEffect (s : State) : s.Signals s.epochEffect := by
  have opened : s.Signals (s.timeSecond.openEpoch s.presentDrive) := (refl s).quiet (by simp) (by simp)
  exact ((((opened.countAtEpoch _ _).ageAlarm _).takePendingReset).entriesAtEpoch).buildAtEpoch _

@[simp] theorem handWhileUnset (h : r.Signals s) (count : HandedCount) : r.Signals (s.handWhileUnset count).1 := by
  unfold State.handWhileUnset
  repeat' split
  · exact h.quiet rfl rfl
  all_goals simp [h]

@[simp] theorem setOrigin (h : r.Signals s) (origin : Origin) : r.Signals (s.setOrigin origin) := h.quiet (by simp) (by simp)

@[simp] theorem dropPendingReset (h : r.Signals s) : r.Signals s.dropPendingReset := h.quiet (by simp) (by simp)

@[simp] theorem holdStep (h : r.Signals s) (e : Int) : r.Signals (s.holdStep e) := h.quiet (by simp) (by simp)

/-! ## The Reference Input Unit -/

@[simp] theorem leftLocked (h : r.Signals s) (before : TimeClass) : r.Signals (s.leftLocked before) := by
  unfold State.leftLocked
  dsimp only
  split <;> simp [h]

@[simp] theorem lockedToAcquire (h : r.Signals s) : r.Signals s.lockedToAcquire :=
  leftLocked (by exact h.quiet rfl rfl) _

@[simp] theorem lockedToHoldover (h : r.Signals s) : r.Signals s.lockedToHoldover :=
  leftLocked (raise (by exact h.quiet rfl rfl) _) _

@[simp] theorem leapOffer (h : r.Signals s) (record : RefRecord) : r.Signals (s.leapOffer record) := by
  have refused : r.Signals (s.count Counters.addLeapRefused) := h.count (by simp [Counters.adds])
  unfold State.leapOffer
  dsimp only
  repeat' split
  all_goals simp [h, refused]

@[simp] theorem completeAcquire (h : r.Signals s) (n : Int) (pe : PulseEpoch) (e : Int) : r.Signals (s.completeAcquire n pe e) := by
  have locked : r.Signals ({ s with ref := s.ref.enterLocked } : State) := h.quiet rfl rfl
  unfold State.completeAcquire
  dsimp only
  split
  · split
    · exact ((locked.setOrigin _).classChanged _).quiet rfl rfl
    · exact applyCountReset (holdStep (dropPendingReset ((locked.setOrigin _).classChanged _)) _) _
  · split
    · exact locked.handWhileUnset _
    · exact (locked.holdStep _).handWhileUnset _

@[simp] theorem beginStreak (h : r.Signals s) (record : RefRecord) (pe : PulseEpoch) : r.Signals (s.beginStreak record pe) :=
  h.quiet rfl rfl

@[simp] theorem acquirePulse (h : r.Signals s) (record : RefRecord) (pe : PulseEpoch) : r.Signals (s.acquirePulse record pe) := by
  have conflict : r.Signals (s.count Counters.addCountConflict) := h.count (by simp [Counters.adds])
  unfold State.acquirePulse
  dsimp only
  split
  case h_2 => exact (h.beginStreak _ _).leapOffer _
  case h_1 =>
    split
    · split
      · exact (h.completeAcquire _ _ _).leapOffer _
      · exact leapOffer (by exact h.quiet rfl rfl) _
    · split
      · exact (h.beginStreak _ _).leapOffer _
      · exact (conflict.beginStreak _ _).leapOffer _

@[simp] theorem outlierPulse (h : r.Signals s) : r.Signals s.outlierPulse := by
  have rejected : r.Signals (s.count Counters.addPulseRejected) := h.count (by simp [Counters.adds])
  unfold State.outlierPulse
  dsimp only
  split
  · exact lockedToAcquire (rejected.quiet rfl rfl)
  · exact rejected.quiet rfl rfl

@[simp] theorem conflictPulse (h : r.Signals s) : r.Signals s.conflictPulse := by
  have conflict : r.Signals (s.count Counters.addCountConflict) := h.count (by simp [Counters.adds])
  unfold State.conflictPulse
  dsimp only
  split
  · exact lockedToAcquire (conflict.quiet rfl rfl)
  · exact conflict.quiet rfl rfl

@[simp] theorem lockedGood (h : r.Signals s) (record : RefRecord) (pe : PulseEpoch) : r.Signals (s.lockedGood record pe) := by
  have cleared : r.Signals ({ s with ref := { s.ref with unlabelledRun := 0 } } : State) := h.quiet rfl rfl
  unfold State.lockedGood
  dsimp only
  repeat' split
  · exact cleared.conflictPulse
  · exact cleared.outlierPulse
  · refine leapOffer (quiet (s := s) h ?_ ?_) _ <;> simp

@[simp] theorem lockedUnlabelled (h : r.Signals s) (pe : PulseEpoch) : r.Signals (s.lockedUnlabelled pe) := by
  unfold State.lockedUnlabelled
  dsimp only
  repeat' split
  all_goals first | exact outlierPulse (h.quiet rfl rfl) | exact h.quiet rfl rfl

@[simp] theorem samplePulse (h : r.Signals s) (e : Int) : r.Signals (s.samplePulse e) := h.quiet (by simp) (by simp)

@[simp] theorem acceptPulse (h : r.Signals s) (label : PulseLabel) (t : Int) : r.Signals (s.acceptPulse label t) := by
  unfold State.acceptPulse
  cases label
  case unlabelled => exact h.quiet rfl rfl
  case low => exact count (by exact h.quiet rfl rfl) (by simp [Counters.adds])
  case good => exact count (by exact h.quiet rfl rfl) (by simp [Counters.adds])

@[simp] theorem handlePulse (h : r.Signals s) (label : PulseLabel) (pe : PulseEpoch) : r.Signals (s.handlePulse label pe) := by
  have broken : r.Signals s.breakStreak := h.quiet rfl rfl
  have low : r.Signals s.lockedLow := h.quiet rfl rfl
  unfold State.handlePulse
  split <;> simp [h, broken, low]

@[simp] theorem secInEffect (h : r.Signals s) : r.Signals s.secInEffect := by
  unfold State.secInEffect
  dsimp only
  repeat' split
  · exact h.count (by simp [Counters.adds])
  · exact (h.acceptPulse _ _).handlePulse _ _
  · exact h

@[simp] theorem windowEffect (h : r.Signals s) : r.Signals s.windowEffect := by
  unfold State.windowEffect
  dsimp only
  repeat' split
  · exact lockedToHoldover (by exact h.quiet rfl rfl)
  all_goals exact h.quiet rfl rfl

@[simp] theorem dropWaiting (h : r.Signals s) : r.Signals s.dropWaiting :=
  count (by exact h.quiet rfl rfl) (by simp [Counters.adds])

@[simp] theorem compareSeq (h : r.Signals s) (seq : Nat) : r.Signals (s.compareSeq seq) := by
  have gap : r.Signals (s.count Counters.addRecordGap) := h.count (by simp [Counters.adds])
  unfold State.compareSeq
  repeat' split
  · exact h.quiet rfl rfl
  · exact gap.quiet rfl rfl
  · exact h.quiet rfl rfl

@[simp] theorem acceptRecord (h : r.Signals s) (record : RefRecord) : r.Signals (s.acceptRecord record) := by
  have refused : r.Signals (s.count Counters.addLeapRefused) := h.count (by simp [Counters.adds])
  unfold State.acceptRecord
  dsimp only
  split <;> split
  · exact refused.dropWaiting.quiet rfl rfl
  · exact refused.quiet rfl rfl
  · exact h.dropWaiting.quiet rfl rfl
  · exact h.quiet rfl rfl

@[simp] theorem recordEffect (h : r.Signals s) (bytes : List Byte) : r.Signals (s.recordEffect bytes) := by
  have hunting : r.Signals ({ s with ref := { s.ref with assembling := false } } : State) := h.quiet rfl rfl
  unfold State.recordEffect
  dsimp only
  repeat' split
  · exact hunting.count (by simp [Counters.adds])
  · exact hunting.count (by simp [Counters.adds])
  · exact (hunting.compareSeq _).acceptRecord _
  · exact (hunting.compareSeq _).count (by simp [Counters.adds])

@[simp] theorem abandonRecord (h : r.Signals s) : r.Signals s.abandonRecord :=
  count (by exact h.quiet rfl rfl) (by simp [Counters.adds])

/-! ## The Line Reader -/

@[simp] theorem emptyNotice (h : r.Signals s) : r.Signals s.emptyNotice := h.quiet rfl rfl

@[simp] theorem setPhase (h : r.Signals s) (phase : SurveyPhase) : r.Signals (s.setPhase phase) := h.quiet rfl rfl

@[simp] theorem setRole (h : r.Signals s) (role : ReductionRole) : r.Signals (s.setRole role) := h.quiet rfl rfl

@[simp] theorem startFrame (h : r.Signals s) (fall : Int) : r.Signals (s.startFrame fall) := h.quiet rfl rfl

@[simp] theorem setJoin (h : r.Signals s) (join : Bool) : r.Signals (s.setJoin join) := h.quiet rfl rfl

@[simp] theorem deferByConflict (h : r.Signals s) : r.Signals s.deferByConflict := raise (by exact h.quiet (by simp) (by simp)) _

@[simp] theorem actOnComparison (h : r.Signals s) (f : LineFrame) (result : Comparison) : r.Signals (s.actOnComparison f result) := by
  unfold State.actOnComparison
  dsimp only
  repeat' split
  case h_1.isFalse => exact h.quiet (by simp) (by simp)
  all_goals simp [h]

@[simp] theorem handFrame (h : r.Signals s) (f : LineFrame) : r.Signals (s.handFrame f) := by
  have compared : r.Signals (s.compareLine f).1 := h.quiet (by simp) (by simp)
  unfold State.handFrame
  split
  · exact compared.actOnComparison _ _
  · exact h

@[simp] theorem takeAdoption (h : r.Signals s) (f : LineFrame) (p : PastSecond) (since : Nat) :
    r.Signals (s.takeAdoption f p since).1 := by
  unfold State.takeAdoption
  dsimp only
  split
  · exact h
  · split
    · exact ((h.setOrigin _).dropPendingReset).applyCountReset _
    · exact h.handWhileUnset _

@[simp] theorem adoptFrame (h : r.Signals s) (f : LineFrame) : r.Signals (s.adoptFrame f) := by
  unfold State.adoptFrame
  dsimp only
  repeat' split
  case _ => exact ((h.takeAdoption f _ _).holdStep _).setPhase _
  all_goals exact h.quiet rfl rfl

@[simp] theorem noticeFrame (h : r.Signals s) (f : LineFrame) : r.Signals (s.noticeFrame f) := by
  unfold State.noticeFrame
  dsimp only
  repeat' split
  all_goals first | exact h.quiet rfl rfl | exact h.emptyNotice.offer _

@[simp] theorem badFrame (h : r.Signals s) (reason : BreakReason) : r.Signals (s.badFrame reason) :=
  count (by exact h.quiet rfl rfl) (by simp [Counters.adds])

@[simp] theorem breakFrame (h : r.Signals s) (reason : BreakReason) : r.Signals (s.breakFrame reason) := by
  unfold State.breakFrame
  dsimp only
  split
  · exact h.quiet rfl rfl
  · exact badFrame (by exact h.quiet rfl rfl) _

@[simp] theorem deliverFrame (h : r.Signals s) (f : LineFrame) : r.Signals (s.deliverFrame f) := by
  unfold State.deliverFrame
  repeat' split
  all_goals simp [h]

@[simp] theorem closeFrame (h : r.Signals s) (a : Assembly) (falls : List Int) : r.Signals (s.closeFrame a falls) := by
  have good : r.Signals (s.count Counters.addLineFrameGood) := h.count (by simp [Counters.adds])
  unfold State.closeFrame
  dsimp only
  repeat' split
  · exact h.quiet rfl rfl
  · exact h.quiet rfl rfl
  · exact h.badFrame _
  · exact deliverFrame (by exact good.quiet rfl rfl) _

@[simp] theorem decodeFall (h : r.Signals s) (fall : Int) : r.Signals (s.decodeFall fall) := by
  unfold State.decodeFall
  repeat' split
  case h_1.isFalse.isTrue => exact setRole (by exact h.quiet rfl rfl) _
  all_goals simp [h]

@[simp] theorem settleNow (h : r.Signals s) : r.Signals s.settleNow := by
  have sampled (fall : Int) : r.Signals (s.sampleLine fall) := h.quiet (by simp) (by simp)
  unfold State.settleNow State.settleFall
  repeat' split
  all_goals simp [h, sampled]

@[simp] theorem recogniseMark (h : r.Signals s) : r.Signals s.recogniseMark := by
  unfold State.recogniseMark
  dsimp only
  split
  case h_2 => exact h.settleNow
  case h_1 r' _ =>
    have seen : r.Signals ({ s.settleNow with line := { s.settleNow.line with reduction := some { r' with markSeen := true } } } : State) :=
      h.settleNow.quiet rfl rfl
    split
    · exact (seen.startFrame _).closeFrame _ _
    · exact seen.startFrame _
    · exact seen

@[simp] theorem markNow (h : r.Signals s) : r.Signals s.markNow := by
  unfold State.markNow
  repeat' split
  all_goals simp [h]

@[simp] theorem overlongNow (h : r.Signals s) : r.Signals s.overlongNow := by
  unfold State.overlongNow
  dsimp only
  have marked := h.markNow
  split
  case h_2 => exact marked
  case h_1 =>
    split
    · exact marked
    · split
      · split
        · exact breakFrame (by exact marked.quiet rfl rfl) _
        · exact marked.quiet rfl rfl
      · exact marked.quiet rfl rfl

@[simp] theorem takeSymbol (h : r.Signals s) (y : Symbol) : r.Signals (s.takeSymbol y) := by
  unfold State.takeSymbol
  repeat' split
  · exact h.breakFrame _
  all_goals exact h.quiet rfl rfl

@[simp] theorem riseTaken (h : r.Signals s) (y : Symbol) : r.Signals (s.riseTaken y) := by
  unfold State.riseTaken
  repeat' split
  all_goals simp [h]

@[simp] theorem decoderRise (h : r.Signals s) (rise : Int) : r.Signals (s.decoderRise rise) := by
  have glitch : r.Signals s.settleGlitch := by
    unfold State.settleGlitch
    repeat' split
    all_goals simp [h]
  unfold State.decoderRise
  split
  · split
    · exact glitch.quiet rfl rfl
    · exact (h.settleNow.riseTaken _).quiet rfl rfl
    · exact (h.settleNow.riseTaken _).quiet rfl rfl
    · exact h.markNow.quiet rfl rfl
    · exact h.overlongNow.quiet rfl rfl
  · exact h

@[simp] theorem keyRiseEffect (h : r.Signals s) : r.Signals s.keyRiseEffect :=
  decoderRise (by exact h.quiet rfl rfl) _

@[simp] theorem spacingEffect (h : r.Signals s) : r.Signals s.spacingEffect := by
  unfold State.spacingEffect
  repeat' split
  · exact h.quiet rfl rfl
  · exact h.breakFrame _
  · exact h

/-! ## The Keying Unit -/

@[simp] theorem graceEffect (h : r.Signals s) : r.Signals s.graceEffect := by
  unfold State.graceEffect
  repeat' split
  · exact h.quiet (by simp) (by simp)
  case _ t0 _ _ _ =>
    have rescue : r.Signals (({ s with key :=
        { s.key.updateOpen t0 (fun o => { o with action := .rescued }) with drive := .rescuing } } : State).count Counters.addRescue) :=
      count (by exact h.quiet rfl rfl) (by simp [Counters.adds])
    exact ⟨rescue.load, .rescueLamp rescue.maint⟩
  · exact h

@[simp] theorem countOutcome (h : r.Signals s) (outcome : SecondOutcome) : r.Signals (s.countOutcome outcome) := by
  unfold State.countOutcome
  split
  case h_6 => exact h
  all_goals exact h.count (by simp [Counters.adds])

@[simp] theorem alarmOutcome (h : r.Signals s) (outcome : SecondOutcome) : r.Signals (s.alarmOutcome outcome) := by
  unfold State.alarmOutcome
  split <;> simp [h]

@[simp] theorem giveVerdict (h : r.Signals s) (n0 : Int) : r.Signals (s.giveVerdict n0) := by
  have scored : r.Signals (s.scoreVerdict n0) := h.quiet rfl rfl
  have counted : r.Signals (s.scoreVerdict n0).countKeyed := by
    unfold State.countKeyed
    split
    · exact scored.count (by simp [Counters.adds])
    · exact scored
  rw [State.giveVerdict_eq]
  split
  · exact ⟨(counted.raise .peerTiming).load, .peerLamp (counted.raise .peerTiming).maint⟩
  · exact counted

@[simp] theorem verdictAt (h : r.Signals s) (o : OpenSecond) : r.Signals (s.verdictAt o) := by
  unfold State.verdictAt
  repeat' split
  all_goals simp [h]

@[simp] theorem runDriveFault (h : r.Signals s) (action : Action) (outcome : SecondOutcome) :
    r.Signals (s.runDriveFault action outcome) := h.quiet (by simp) (by simp)

@[simp] theorem decisionEffect (h : r.Signals s) : r.Signals s.decisionEffect := by
  unfold State.decisionEffect State.decideKeyed
  dsimp only
  repeat' split
  · refine verdictAt (runDriveFault (alarmOutcome (countOutcome ?_ _) _) _ _) _
    exact h.quiet rfl rfl
  · exact h.quiet (by simp) (by simp)
  · exact h

@[simp] theorem releaseNow (h : r.Signals s) : r.Signals s.releaseNow := by
  unfold State.releaseNow
  split
  · exact decoderRise (by exact h.quiet rfl rfl) _
  · exact h.quiet rfl rfl

/-! ## The drive instant and the oscillator -/

@[simp] theorem activeExits (h : r.Signals s) (mark : Bool) : r.Signals (s.activeExits mark) := by
  have yielded (dest : YieldTo) : r.Signals (s.yieldExit dest) := by
    cases dest <;> exact raise (by exact h.quiet (by simp) (by simp)) _
  unfold State.activeExits
  repeat' split
  all_goals first | exact yielded _ | exact h.quiet (by simp) (by simp)

theorem driveEffect (s : State) : s.Signals s.driveEffect := by
  have swapped (swap : Bool) : s.Signals (s.swapIf swap) := (refl s).quiet (by simp) (by simp)
  have stood {u : State} (h : s.Signals u) (mark : Bool) : s.Signals (u.standingAtDrive mark) := by
    unfold State.standingAtDrive
    repeat' split
    · exact h.activeExits mark
    · exact h.quiet (by simp) (by simp)
    · exact h
  unfold State.driveEffect
  dsimp only
  refine (stood (swapped s.swapDue) (s.swapDue && (s.swapIf s.swapDue).beginsFrame s.comingCount)).quiet ?_ ?_ <;> simp

theorem lossEffect (s : State) : s.Signals s.lossEffect := by
  have aborted : s.Signals s.abortTest := (refl s).quiet (by simp) (by simp)
  exact (aborted.raise _).quiet rfl rfl

theorem monitorUpEffect (s : State) : s.Signals s.monitorUpEffect := (refl s).quiet (by simp) (by simp)

end State.Signals

/-- The commands that do not speak to the Maintenance Unit or the loader themselves. -/
def Instr.onlySignals : Instr → Bool
  | .oscMonitorUp _ | .oscillatorLoss _ | .epoch _ | .driveInstant _ | .reductionRelease _ | .readback _ | .rescueGraceExpiry _
  | .decisionPoint _ | .recordClose _ | .filterFirstLevel _ _ | .keyFall _ | .keyRise _ | .fallSettled _ | .markRecognised _
  | .overlong _ | .spacingWindowClose _ | .silence _ | .secInPulse _ | .refWindowClose _ | .acquireTimeout _ | .referenceRecord _ _
  | .recordByteGap _ _ | .recordLowStopBit _ | .recordStale _ | .oscGapWhileDown _ | .recordStart _ => true
  | _ => false

/-- What such a command signals is counts, raisings and lamps. -/
theorem Instr.effect_signals {c : Instr} (h : Instr.onlySignals c = true) (s : State) : s.Signals (Instr.effect c s) := by
  have start := State.Signals.refl s
  cases c
  case oscMonitorUp => exact .monitorUpEffect s
  case oscillatorLoss => exact .lossEffect s
  case epoch => exact .epochEffect s
  case driveInstant => exact .driveEffect s
  case readback | recordClose | filterFirstLevel | keyFall | acquireTimeout => exact start.quiet (by simp [Instr.effect]) (by simp [Instr.effect])
  case silence | oscGapWhileDown | recordStart => exact start.quiet rfl rfl
  case reset | resetEnd | settlingEnd | imageHeaderCheck | imageReadEnd | loadCompletion | status | counters | schedule | observations |
      currentFrame | lineFrame | alarms | ackAlarms | withdraw | rejoin | selftest | unknownCode | alertDelayExpiry | statusRepetition =>
    cases h
  all_goals simp [Instr.effect]

end Sys2Proof.Machine
end

section
/-!
PROOFS. What a run of signals keeps: the bounds of the counters, the alarm set, the alarms held. With the bounds of the ring, the rebuild
count and the initial F, it makes the invariants of every step that speak of the Maintenance Unit and of the Second Timer's arithmetic.
-/

namespace Sys2Proof.Machine

/-! ## The counters -/

/-- Every count keeps every counter within its bound (R175). -/
theorem Counters.adds_safe {c : Counters} (safe : CountersSafe c) {bump : Counters → Counters} (add : bump ∈ Counters.adds) :
    CountersSafe (bump c) := by
  obtain ⟨h1, h2, h3, h4, h5, h6, h7, h8, h9, h10, h11, h12, h13, h14, h15⟩ := safe
  simp only [Counters.adds, List.mem_cons, List.not_mem_nil, or_false] at add
  rcases add with rfl | rfl | rfl | rfl | rfl | rfl | rfl | rfl | rfl | rfl | rfl | rfl | rfl | rfl | rfl <;>
    constructor <;> first | assumption | exact bumpSat_le _ | exact bumpWrap_le _

theorem Counters.zero_safe : CountersSafe Counters.zero := by constructor <;> decide

/-! ## The alarm set -/

/-- Each entry's count stays within 1 to 255 at a raising (R177). -/
theorem raiseIn_counts {alarms : List AlarmEntry} (counts : ∀ e ∈ alarms, 1 ≤ e.count ∧ e.count ≤ 255) (k : AlarmKind) (n : Option Int) :
    ∀ e ∈ raiseIn k n alarms, 1 ≤ e.count ∧ e.count ≤ 255 := by
  induction alarms with
  | nil => simp [raiseIn]
  | cons x rest ih =>
    obtain ⟨first, others⟩ := List.forall_mem_cons.mp counts
    unfold raiseIn
    split
    · exact List.forall_mem_cons.mpr ⟨⟨bumpSat_pos _, bumpSat_le _⟩, others⟩
    · exact List.forall_mem_cons.mpr ⟨first, ih others⟩

/-- An entry stays at a raising, with its first N (R177). -/
theorem raiseIn_stands {alarms : List AlarmEntry} (k : AlarmKind) (n : Option Int) {e : AlarmEntry} (held : e ∈ alarms) :
    ∃ e' ∈ raiseIn k n alarms, e'.kind = e.kind ∧ e'.firstN = e.firstN := by
  induction alarms with
  | nil => cases held
  | cons x rest ih =>
    unfold raiseIn
    split
    · obtain rfl | later := List.mem_cons.mp held
      · exact ⟨_, List.mem_cons_self, rfl, rfl⟩
      · exact ⟨e, List.mem_cons_of_mem _ later, rfl, rfl⟩
    · obtain rfl | later := List.mem_cons.mp held
      · exact ⟨_, List.mem_cons_self, rfl, rfl⟩
      · obtain ⟨e', mem, same⟩ := ih later
        exact ⟨e', List.mem_cons_of_mem _ mem, same⟩

/-- A kind joins the set once (R177). -/
theorem raiseIn_once {alarms : List AlarmEntry} (once : (alarms.map (fun e => e.kind)).Nodup) (k : AlarmKind) (n : Option Int) :
    ((raiseIn k n alarms).map (fun e => e.kind)).Nodup := by
  rw [raiseIn_kinds]
  split
  · exact once
  · next fresh => exact List.nodup_append.mpr ⟨once, List.nodup_singleton k, fun a mem b single => by
      obtain rfl := List.mem_singleton.mp single
      exact fun same => fresh (same ▸ mem)⟩

/-- The alarm set and ALERT_N as R177 and R179 have them, apart from the parameter set. -/
structure Maintenance.AlarmsOk (loaded : Bool) (m : Maintenance) : Prop where
  once : (m.alarms.map (fun e => e.kind)).Nodup
  counts : ∀ e ∈ m.alarms, 1 ≤ e.count ∧ e.count ≤ 255
  raisings : m.raisings ≤ 255
  raised : m.alarms = [] ↔ m.raisings = 0
  delay : m.alertFrom.isSome = true ↔ m.alarms ≠ []
  alert : m.alertN = true → m.alarms ≠ [] ∧ loaded = true

theorem AlarmsSafe.ok {s : State} (safe : AlarmsSafe s) : s.maint.AlarmsOk s.loaded :=
  ⟨safe.once, safe.counts, safe.raisings, safe.raised, safe.delay, safe.alert⟩

/-- The alarm set's invariant is that of the unit and that of the parameters that judge it. -/
theorem Maintenance.AlarmsOk.safe {s : State} (ok : s.maint.AlarmsOk s.loaded) (count : 1 ≤ s.load.params.alert.count)
    (staged : ∀ a ∈ s.load.staging.alert, 1 ≤ a.count) : AlarmsSafe s :=
  ⟨ok.once, ok.counts, ok.raisings, ok.raised, ok.delay, ok.alert, count, staged⟩

theorem Maintenance.alarmsOk_empty {m : Maintenance} {loaded : Bool} (alarms : m.alarms = []) (raisings : m.raisings = 0)
    (alertFrom : m.alertFrom = none) (alertN : m.alertN = false) : m.AlarmsOk loaded := by
  constructor <;> simp [alarms, raisings, alertFrom, alertN]

/-- A Maintenance Unit with the same alarm set has the same standing of it. -/
theorem Maintenance.AlarmsOk.congr {m u : Maintenance} {loaded : Bool} (ok : m.AlarmsOk loaded) (alarms : u.alarms = m.alarms)
    (raisings : u.raisings = m.raisings) (alertFrom : u.alertFrom = m.alertFrom) (alertN : u.alertN = m.alertN) : u.AlarmsOk loaded := by
  obtain ⟨once, counts, limit, raised, delay, alert⟩ := ok
  constructor <;> simp only [alarms, raisings, alertFrom, alertN] <;> assumption

theorem Maintenance.AlarmsOk.raising {m : Maintenance} {loaded : Bool} (ok : m.AlarmsOk loaded) (k : AlarmKind) (n : Option Int)
    (clk limit : Nat) :
    Maintenance.AlarmsOk loaded { m with
      alarms := raiseIn k n m.alarms, raisings := bumpSat m.raisings, alertFrom := some (m.alertFrom.getD clk)
      alertN := m.alertN || (loaded && decide (limit ≤ bumpSat m.raisings)) } where
  once := raiseIn_once ok.once k n
  counts := raiseIn_counts ok.counts k n
  raisings := bumpSat_le _
  raised := by
    have pos := bumpSat_pos m.raisings
    exact ⟨fun empty => absurd empty (raiseIn_ne_nil k n _), fun zero => absurd (show bumpSat m.raisings = 0 from zero) (by omega)⟩
  delay := ⟨fun _ => raiseIn_ne_nil k n _, fun _ => rfl⟩
  alert := by
    intro asserted
    refine ⟨raiseIn_ne_nil k n _, ?_⟩
    obtain before | ⟨judged, -⟩ := (Bool.or_eq_true _ _).mp asserted |>.imp id (fun now => (Bool.and_eq_true _ _).mp now)
    · exact (ok.alert before).2
    · exact judged

/-! ## A run of signals -/

namespace Maintenance.Signalled

variable {loaded : Bool} {limit : Nat} {m u : Maintenance}

theorem counters_safe (h : m.Signalled loaded limit u) (safe : CountersSafe m.counters) : CountersSafe u.counters := by
  induction h with
  | none => exact safe
  | count bump add _ ih => exact Counters.adds_safe ih add
  | raising k n clk _ ih => exact ih
  | rescueLamp _ ih => exact ih
  | peerLamp _ ih => exact ih

theorem alarmsOk (h : m.Signalled loaded limit u) (ok : m.AlarmsOk loaded) : u.AlarmsOk loaded := by
  induction h with
  | none => exact ok
  | raising k n clk _ ih => exact ih.raising k n clk limit
  | count bump add _ ih => exact ih.congr rfl rfl rfl rfl
  | rescueLamp _ ih => exact ih.congr rfl rfl rfl rfl
  | peerLamp _ ih => exact ih.congr rfl rfl rfl rfl

/-- An alarm that is held stays held through any signals, with its first N (R177). -/
theorem alarms_stand (h : m.Signalled loaded limit u) {e : AlarmEntry} (held : e ∈ m.alarms) :
    ∃ e' ∈ u.alarms, e'.kind = e.kind ∧ e'.firstN = e.firstN := by
  induction h with
  | none => exact ⟨e, held, rfl, rfl⟩
  | raising k n clk _ ih =>
    obtain ⟨e', mem, kind, first⟩ := ih
    obtain ⟨e'', mem', kind', first'⟩ := raiseIn_stands k n mem
    exact ⟨e'', mem', kind'.trans kind, first'.trans first⟩
  | count bump add _ ih => exact ih
  | rescueLamp _ ih => exact ih
  | peerLamp _ ih => exact ih

theorem alert_stands (h : m.Signalled loaded limit u) (asserted : m.alertN = true) : u.alertN = true := by
  induction h with
  | none => exact asserted
  | raising k n clk _ ih => simp [ih]
  | count bump add _ ih => exact ih
  | rescueLamp _ ih => exact ih
  | peerLamp _ ih => exact ih

theorem stretches_le (h : m.Signalled loaded limit u) (rescue : m.rescueStretch ≤ 8) (peer : m.peerStretch ≤ 8) :
    u.rescueStretch ≤ 8 ∧ u.peerStretch ≤ 8 := by
  induction h with
  | none => exact ⟨rescue, peer⟩
  | raising k n clk _ ih => exact ih
  | count bump add _ ih => exact ih
  | rescueLamp _ ih => exact ⟨Nat.le_refl 8, ih.2⟩
  | peerLamp _ ih => exact ⟨ih.1, Nat.le_refl 8⟩

theorem groupCount_eq (h : m.Signalled loaded limit u) : u.groupCount = m.groupCount := by
  induction h with
  | none => rfl
  | raising k n clk _ ih => exact ih
  | count bump add _ ih => exact ih
  | rescueLamp _ ih => exact ih
  | peerLamp _ ih => exact ih

end Maintenance.Signalled

/-! ## The record walk -/

/-- What every record written keeps, a walk keeps (R164, R165). -/
theorem walkFrom_keeps {P : Walked → Prop} (write : ∀ type body w, P w → P (writeRecord type body w)) (image : List Byte)
    (left least offset : Nat) {w : Walked} (h : P w) : P (walkFrom image left least offset w).walked := by
  induction left generalizing least offset w with
  | zero => exact h
  | succ left ih =>
    unfold walkFrom
    dsimp only
    repeat' split
    · exact h
    · exact h
    · exact write _ _ _ h
    · exact ih _ _ (write _ _ _ h)
    · exact h
    · exact ih _ _ h

/-- The staging set that a load may put in force has its initial F in range and asks for at least one raising (R166). -/
structure Staging.Sound (g : Staging) : Prop where
  trim : trimInRange g.trim
  alert : ∀ a ∈ g.alert, 1 ≤ a.count

theorem Staging.sound_empty : Staging.empty.Sound := ⟨by simp [trimInRange, Staging.empty], by simp [Staging.empty]⟩

theorem readAlert_count (body : List Byte) : 1 ≤ (readAlert body).1.count := by
  have within : (1 : Int) ≤ clampInt (beNat body 0 1) 1 15 := (clampInt_within (by decide)).1
  simp only [readAlert, clampField]
  omega

theorem writeRecord_sound (type : Nat) (body : List Byte) {w : Walked} (sound : w.staging.Sound) :
    (writeRecord type body w).staging.Sound := by
  unfold writeRecord
  split
  · exact ⟨sound.trim, sound.alert⟩
  · exact ⟨sound.trim, sound.alert⟩
  · refine ⟨fun f brought => ?_, sound.alert⟩
    obtain rfl := Option.some.inj brought
    exact clampInt_within (by decide)
  · refine ⟨sound.trim, fun a brought => ?_⟩
    obtain rfl := Option.some.inj brought
    exact readAlert_count body
  · exact sound

theorem limitEpochTol_sound {w : Walked} (sound : w.staging.Sound) : (limitEpochTol w).staging.Sound := by
  unfold limitEpochTol
  repeat' split
  · exact ⟨sound.trim, sound.alert⟩
  · exact sound
  · exact sound

theorem walkImage_sound (image : List Byte) : (walkImage image).walked.staging.Sound := by
  have walked : (if beNat image 5 2 = 0 then { result := .ok, walked := { staging := Staging.empty, clamp := false } }
      else walkFrom image 16 7 (beNat image 5 2) { staging := Staging.empty, clamp := false } : WalkEnd).walked.staging.Sound := by
    split
    · exact Staging.sound_empty
    · exact walkFrom_keeps (P := fun w => w.staging.Sound) (fun _ _ _ => writeRecord_sound _ _) image _ _ _ Staging.sound_empty
  unfold walkImage
  dsimp only
  split
  · exact limitEpochTol_sound walked
  · exact walked

/-! ## The load -/

/-- No command but those of the load and a reset writes the loader. -/
def Instr.loads : Instr → Bool
  | .reset _ | .resetEnd _ _ _ | .settlingEnd _ | .imageHeaderCheck _ _ | .imageReadEnd _ _ | .loadCompletion _ => true
  | _ => false

theorem Instr.effect_load {c : Instr} (h : Instr.loads c = false) (s : State) : (Instr.effect c s).load = s.load := by
  cases c
  case reset | resetEnd | settlingEnd | imageHeaderCheck | imageReadEnd | loadCompletion => cases h
  all_goals simp [Instr.effect, State.ackAlarmsEffect]

@[simp] theorem State.completeEffect_load (s : State) : s.completeEffect.load = s.load.complete := by
  simp [State.completeEffect, State.takeParams]

@[simp] theorem Loader.complete_staging (l : Loader) : l.complete.staging = l.staging := by
  unfold Loader.complete
  split <;> rfl

/-- A load puts the staged set in force, or DEFAULTS (R167). -/
theorem Loader.complete_params (l : Loader) : l.complete.params = l.staging.params ∨ l.complete.params = Params.defaults := by
  unfold Loader.complete
  split
  · exact .inl rfl
  · exact .inr rfl

theorem State.readEndEffect_params (rest : List Byte) (s : State) : (s.readEndEffect rest).load.params = s.load.params := by
  unfold State.readEndEffect State.walkEffect State.failLoad State.endRead
  dsimp only
  repeat' split
  all_goals rfl

theorem State.headerEffect_params (header : List Byte) (s : State) : (s.headerEffect header).load.params = s.load.params := by
  unfold State.headerEffect State.failLoad State.endRead
  split <;> rfl

/-- What a command can make of the parameter set in force: a completed load brings the staged one or DEFAULTS, a reset DEFAULTS. -/
theorem Instr.effect_params (c : Instr) (s : State) :
    (Instr.effect c s).load.params = s.load.params ∨ (Instr.effect c s).load.params = s.load.staging.params ∨
      (Instr.effect c s).load.params = Params.defaults := by
  cases c
  case reset => exact .inr (.inr rfl)
  case resetEnd | settlingEnd => exact .inl rfl
  case imageHeaderCheck header => exact .inl (State.headerEffect_params header s)
  case imageReadEnd rest => exact .inl (State.readEndEffect_params rest s)
  case loadCompletion =>
    rw [Instr.effect, State.completeEffect_load]
    exact .inr (Loader.complete_params s.load)
  all_goals exact .inl (congrArg Loader.params (Instr.effect_load rfl s))

/-- What a command can make of the staging set: it is kept, emptied, or what a walk wrote (R160, R163, R165). -/
theorem Instr.effect_staging (c : Instr) (s : State) :
    (Instr.effect c s).load.staging = s.load.staging ∨ (Instr.effect c s).load.staging = Staging.empty ∨
      ∃ image, (Instr.effect c s).load.staging = (walkImage image).walked.staging := by
  cases c
  case reset => exact .inr (.inl rfl)
  case resetEnd | settlingEnd => exact .inl rfl
  case imageHeaderCheck header =>
    simp only [Instr.effect]
    unfold State.headerEffect State.failLoad State.endRead
    split
    · exact .inl rfl
    · exact .inr (.inl rfl)
    · exact .inl rfl
  case imageReadEnd rest =>
    simp only [Instr.effect]
    unfold State.readEndEffect State.walkEffect State.failLoad State.endRead
    dsimp only
    repeat' split
    · exact .inr (.inl rfl)
    · exact .inr (.inr ⟨_, rfl⟩)
    · exact .inr (.inl rfl)
  case loadCompletion => exact .inl (by simp [Instr.effect])
  all_goals exact .inl (congrArg Loader.staging (Instr.effect_load rfl s))

/-- The initial F that a load may bring is in range, with the one in force (R166). -/
def Loader.TrimOk (l : Loader) : Prop := trimInRange l.params.trim ∧ trimInRange l.staging.trim

/-- ALERT_COUNT is at least 1, in force and staged (R166). -/
def Loader.AlertOk (l : Loader) : Prop := 1 ≤ l.params.alert.count ∧ ∀ a ∈ l.staging.alert, 1 ≤ a.count

theorem Params.defaults_trim : trimInRange Params.defaults.trim := by simp [trimInRange, Params.defaults]

theorem Params.defaults_alert : 1 ≤ Params.defaults.alert.count := by decide

theorem Staging.params_alert {g : Staging} (staged : ∀ a ∈ g.alert, 1 ≤ a.count) : 1 ≤ g.params.alert.count := by
  cases present : g.alert with
  | none => simp [Staging.params, present, Alert.defaults]
  | some a => simpa [Staging.params, present] using staged a present

theorem Instr.effect_trimOk (c : Instr) {s : State} (ok : s.load.TrimOk) : (Instr.effect c s).load.TrimOk := by
  obtain ⟨inForce, staged⟩ := ok
  constructor
  · obtain same | brought | defaults := Instr.effect_params c s
    · rwa [same]
    · rwa [brought]
    · rw [defaults]; exact Params.defaults_trim
  · obtain same | empty | ⟨image, walked⟩ := Instr.effect_staging c s
    · rwa [same]
    · rw [empty]; exact Staging.sound_empty.trim
    · rw [walked]; exact (walkImage_sound image).trim

theorem Instr.effect_alertOk (c : Instr) {s : State} (ok : s.load.AlertOk) : (Instr.effect c s).load.AlertOk := by
  obtain ⟨inForce, staged⟩ := ok
  constructor
  · obtain same | brought | defaults := Instr.effect_params c s
    · rwa [same]
    · rw [brought]; exact Staging.params_alert staged
    · rw [defaults]; exact Params.defaults_alert
  · obtain same | empty | ⟨image, walked⟩ := Instr.effect_staging c s
    · rwa [same]
    · rw [empty]; exact Staging.sound_empty.alert
    · rw [walked]; exact (walkImage_sound image).alert

theorem Loader.complete_alert {l : Loader} (ok : l.AlertOk) : 1 ≤ l.complete.params.alert.count := by
  obtain brought | defaults := l.complete_params
  · rw [brought]; exact Staging.params_alert ok.2
  · rw [defaults]; exact Params.defaults_alert

/-! ## The alarm set at every command -/

@[simp] theorem State.loaded_congr {s t : State} (h : s.load = t.load) : s.loaded = t.loaded := by simp [State.loaded, h]

/-- ALERT_N is asserted by its delay or by the judgement at completion only where an entry is held (R179). -/
theorem State.judgeAlert_alert {s : State} (ok : s.maint.AlarmsOk s.loaded) (loaded : s.loaded = true) (count : 1 ≤ s.load.params.alert.count) :
    s.judgeAlert.maint.AlarmsOk s.loaded := by
  refine { ok with alert := fun asserted => ⟨?_, loaded⟩ }
  have due : s.maint.alertN = true ∨ s.load.params.alert.count ≤ s.maint.raisings ∨ s.maint.alertFrom.isSome = true := by
    simp only [State.judgeAlert, Bool.or_eq_true, decide_eq_true_eq, Option.any_eq_true] at asserted
    obtain before | raised | ⟨c, running, -⟩ := asserted
    · exact .inl before
    · exact .inr (.inl raised)
    · exact .inr (.inr (by simp [running]))
  obtain before | raised | running := due
  · exact (ok.alert before).1
  · exact fun empty => absurd (ok.raised.mp empty) (by omega)
  · exact ok.delay.mp running

/-- The signals of a load's completion before it serves the port (R170). -/
theorem State.completeEffect_signals (s : State) :
    s.takeParams.Signals s.takeParams.offsetAtLoad.raiseConfig.surveyAtLoad := by
  have start := State.Signals.refl s.takeParams
  have offset : s.takeParams.Signals s.takeParams.offsetAtLoad := by
    unfold State.offsetAtLoad
    split
    · exact State.Signals.catchUpNow (State.Signals.expandRules (by exact start.quiet rfl rfl))
    · exact start.quiet rfl rfl
  have config : s.takeParams.Signals s.takeParams.offsetAtLoad.raiseConfig := by
    unfold State.raiseConfig
    repeat' split
    all_goals simp [offset]
  exact config.quiet (by simp) (by simp)

/-- Before load completion ALERT_N is not asserted, so that the alarm set stands as well in any other load phase (R179). -/
theorem Maintenance.AlarmsOk.unloaded {m : Maintenance} (ok : m.AlarmsOk false) (loaded : Bool) : m.AlarmsOk loaded :=
  { ok with alert := fun asserted => absurd (ok.alert asserted).2 (by decide) }

theorem State.loaded_of_phase {s : State} {p : LoadPhase} (phase : s.load.phase = p) (early : p ≠ .done) : s.loaded = false := by
  simp [State.loaded, phase, early]

theorem State.completeEffect_alarmsOk {s : State} (ok : s.maint.AlarmsOk false) (sound : s.load.AlertOk) :
    s.completeEffect.maint.AlarmsOk s.completeEffect.loaded := by
  have signals := s.completeEffect_signals
  have completed : s.takeParams.load = s.load.complete := by simp [State.takeParams]
  have loaded : s.takeParams.loaded = true := by
    rw [State.loaded, completed]
    unfold Loader.complete
    split <;> rfl
  have before : s.takeParams.maint.AlarmsOk s.takeParams.loaded := by simpa using ok.unloaded s.takeParams.loaded
  have after := signals.maint.alarmsOk before
  rw [← State.loaded_congr signals.load] at after loaded
  have count := Loader.complete_alert sound
  rw [← completed, ← signals.load] at count
  unfold State.completeEffect
  generalize s.takeParams.offsetAtLoad.raiseConfig.surveyAtLoad = u at after loaded count
  exact State.judgeAlert_alert (s := { u with maint := { u.maint with nextRepetition := some u.clk } })
    (after.congr rfl rfl rfl rfl) loaded count

/-- The commands of the port and of the status stream but ACK_ALARMS leave the alarm set and ALERT_N alone. -/
theorem Instr.effect_keepsAlarms {c : Instr} (s : State) (h : Instr.onlySignals c = false) (load : Instr.loads c = false)
    (ack : ∀ now, c ≠ .ackAlarms now) (delay : ∀ now, c ≠ .alertDelayExpiry now) :
    (Instr.effect c s).maint.alarms = s.maint.alarms ∧ (Instr.effect c s).maint.raisings = s.maint.raisings ∧
      (Instr.effect c s).maint.alertFrom = s.maint.alertFrom ∧ (Instr.effect c s).maint.alertN = s.maint.alertN := by
  cases c <;> try cases h
  case reset | resetEnd | settlingEnd | imageHeaderCheck | imageReadEnd | loadCompletion => cases load
  case ackAlarms now => exact absurd rfl (ack now)
  case alertDelayExpiry now => exact absurd rfl (delay now)
  all_goals simp [Instr.effect]

/-- The commands of the load come before its completion, so that ALERT_N is not asserted (R179). -/
theorem exec_alarmsOk_loading {c : Instr} {s t : State} (loads : Instr.loads c = true) (ok : s.maint.AlarmsOk s.loaded)
    (sound : s.load.AlertOk) (h : exec c s = .next t) : t.maint.AlarmsOk t.loaded := by
  have early {p : LoadPhase} (phase : s.load.phase = p) (notDone : p ≠ .done) : s.maint.AlarmsOk false := by
    rwa [State.loaded_of_phase phase notDone] at ok
  obtain ⟨due, rfl⟩ | rfl := exec_cases h
  case inr => exact ok
  cases c <;> try cases loads
  case inl.reset.refl now => exact Maintenance.alarmsOk_empty rfl rfl rfl rfl
  all_goals simp only [Instr.due, Bool.and_eq_true, beq_iff_eq] at due
  case inl.resetEnd.refl => exact (early due (by decide)).unloaded _
  case inl.settlingEnd.refl => exact (early due.1 (by decide)).unloaded _
  case inl.imageHeaderCheck.refl now header =>
    have keeps : ((s.at now).headerEffect header).maint = s.maint := by simp
    rw [Instr.effect, Instr.now, keeps]
    exact (early due.1.1 (by decide)).unloaded _
  case inl.imageReadEnd.refl now rest =>
    have keeps : ((s.at now).readEndEffect rest).maint = s.maint := by simp
    rw [Instr.effect, Instr.now, keeps]
    exact (early due.1.1.1 (by decide)).unloaded _
  case inl.loadCompletion.refl now =>
    refine State.completeEffect_alarmsOk (s := s.at now) ?_ sound
    cases phase : s.load.phase
    case walking | ending => exact early phase (by decide)
    all_goals simp [phase, LoadPhase.closing] at due

theorem exec_alarmsOk {c : Instr} {s t : State} (ok : s.maint.AlarmsOk s.loaded) (sound : s.load.AlertOk) (h : exec c s = .next t) :
    t.maint.AlarmsOk t.loaded := by
  cases loads : Instr.loads c
  case true => exact exec_alarmsOk_loading loads ok sound h
  case false =>
    have load : t.load = s.load := by
      refine exec_preserves (P := fun u => u.load = s.load) h rfl (fun _ => by simp) (fun same => ?_)
      rw [Instr.effect_load loads, same]
    rw [State.loaded_congr load]
    obtain ⟨due, rfl⟩ | rfl := exec_cases h
    case inr => exact ok
    have ok : (s.at c.now).maint.AlarmsOk s.loaded := by simpa using ok
    cases signals : Instr.onlySignals c
    case true =>
      exact (Instr.effect_signals signals (s.at c.now)).maint.alarmsOk ok
    case false =>
      by_cases ack : ∃ now, c = .ackAlarms now
      · obtain ⟨now, rfl⟩ := ack
        exact Maintenance.alarmsOk_empty rfl rfl rfl rfl
      · by_cases delay : ∃ now, c = .alertDelayExpiry now
        · obtain ⟨now, rfl⟩ := delay
          obtain ⟨loaded, running⟩ := (Bool.and_eq_true _ _).mp due
          have held : s.maint.alertFrom.isSome = true := by
            obtain ⟨c, present, -⟩ := (Option.any_eq_true _ _).mp running
            simp [present]
          exact { ok with alert := fun _ => ⟨ok.delay.mp held, loaded⟩ }
        · obtain ⟨alarms, raisings, alertFrom, alertN⟩ := Instr.effect_keepsAlarms (s.at c.now) signals loads
            (fun now same => ack ⟨now, same⟩) (fun now same => delay ⟨now, same⟩)
          exact ok.congr alarms raisings alertFrom alertN

/-! ## The ring and the rebuild count -/

theorem appendRecord_length {ring : List ObsRecord} (bound : ring.length ≤ 64) (r : ObsRecord) : (appendRecord r ring).length ≤ 64 := by
  unfold appendRecord
  by_cases room : ring.length < Config.ringSize <;> simp [room] <;> simp only [Config.ringSize] at * <;> omega

@[simp] theorem State.lossEffect_ring (s : State) : s.lossEffect.key.ring = s.key.ring := by
  rw [State.lossEffect_key, Keying.lost_ring]

@[simp] theorem State.readbackEffect_ring (s : State) : s.readbackEffect.key.ring = s.key.ring := by
  unfold State.readbackEffect
  split <;> rfl

@[simp] theorem State.graceEffect_ring (s : State) : s.graceEffect.key.ring = s.key.ring := by
  unfold State.graceEffect State.listenTaken
  dsimp only
  repeat' split
  all_goals rfl

@[simp] theorem State.decisionEffect_ring (s : State) : s.decisionEffect.key.ring = s.key.ring := by
  unfold State.decisionEffect State.decideKeyed
  repeat' split
  all_goals simp

@[simp] theorem State.keyFallEffect_ring (s : State) : s.keyFallEffect.key.ring = s.key.ring := by
  unfold State.keyFallEffect
  simp

@[simp] theorem State.keyRiseEffect_ring (s : State) : s.keyRiseEffect.key.ring = s.key.ring := by
  unfold State.keyRiseEffect
  simp

/-- The observation ring changes at a record close and at a reset only (R107, R110). -/
theorem Instr.effect_ring {c : Instr} (reset : ∀ now, c ≠ .reset now) (close : ∀ now, c ≠ .recordClose now) (s : State) :
    (Instr.effect c s).key.ring = s.key.ring := by
  cases c
  case reset now => exact absurd rfl (reset now)
  case recordClose now => exact absurd rfl (close now)
  all_goals simp [Instr.effect, State.ackAlarmsEffect]

theorem Instr.effect_ringBound (c : Instr) {s : State} (bound : s.key.ring.length ≤ 64) : (Instr.effect c s).key.ring.length ≤ 64 := by
  by_cases reset : ∃ now, c = .reset now
  · obtain ⟨now, rfl⟩ := reset
    exact Nat.zero_le _
  · by_cases close : ∃ now, c = .recordClose now
    · obtain ⟨now, rfl⟩ := close
      simp only [Instr.effect]
      unfold State.recordCloseEffect
      split
      · exact appendRecord_length bound _
      · exact bound
    · rwa [Instr.effect_ring (fun now same => reset ⟨now, same⟩) (fun now same => close ⟨now, same⟩)]

/-- The rebuild count within its bound (R88). -/
def State.rebuildsBound (s : State) : Prop := s.frames.rebuilds ≤ 255

namespace State.rebuildsBound

variable {s t : State}

theorem congr (h : s.rebuildsBound) (same : t.frames.rebuilds = s.frames.rebuilds) : t.rebuildsBound := by
  unfold State.rebuildsBound at *
  omega

theorem rebuildStale (h : s.rebuildsBound) : s.rebuildStale.rebuildsBound := by
  unfold State.rebuildStale
  repeat' split
  · exact bumpSat_le _
  · exact h
  · exact h

theorem frameSwap (h : s.rebuildsBound) : s.frameSwap.rebuildsBound := by
  unfold State.frameSwap
  dsimp only
  repeat' split
  all_goals exact h.rebuildStale.congr (by simp)

theorem buildAtEpoch (h : s.rebuildsBound) (reset : Bool) : (s.buildAtEpoch reset).rebuildsBound := by
  unfold State.buildAtEpoch
  cases reset
  · exact h.rebuildStale.congr (by simp)
  · exact h.congr (by simp)

theorem epochEffect (h : s.rebuildsBound) : s.epochEffect.rebuildsBound := by
  rw [State.epochEffect_eq]
  exact buildAtEpoch (h.congr (by simp [State.epochReset, State.epochCounted])) _

theorem driveEffect (h : s.rebuildsBound) : s.driveEffect.rebuildsBound := by
  have swapped : (s.swapIf s.swapDue).rebuildsBound := by
    unfold State.swapIf
    split
    · exact h.frameSwap
    · exact h
  exact swapped.congr (by simp [State.driveEffect])

theorem handFrame (h : s.rebuildsBound) (f : LineFrame) : (s.handFrame f).rebuildsBound := by
  have asked (n0 : Int) : (s.frameToCompare n0).1.rebuildsBound := by
    unfold State.frameToCompare State.ownFrame
    repeat' split
    · exact h
    · exact h.rebuildStale
    · exact h.rebuildStale
  have compared : (s.compareLine f).1.rebuildsBound := by
    unfold State.compareLine
    dsimp only
    split
    · exact asked f.n0
    · exact h
  unfold State.handFrame
  split
  · exact compared.congr (by simp)
  · exact h

theorem closeFrame (h : s.rebuildsBound) (a : Assembly) (falls : List Int) : (s.closeFrame a falls).rebuildsBound := by
  have delivered (f : LineFrame) {u : State} (h : u.rebuildsBound) : (u.deliverFrame f).rebuildsBound := by
    unfold State.deliverFrame
    repeat' split
    · exact h
    · exact h.congr (by simp)
    · exact (h.handFrame f).congr (by simp)
  unfold State.closeFrame
  dsimp only
  repeat' split
  · exact h
  · exact h
  · exact h
  · exact delivered _ (by exact h)

theorem settleNow (h : s.rebuildsBound) : s.settleNow.rebuildsBound := h.congr (by simp)

theorem recogniseMark (h : s.rebuildsBound) : s.recogniseMark.rebuildsBound := by
  unfold State.recogniseMark
  dsimp only
  repeat' split
  · exact closeFrame (by exact congr h.settleNow rfl) _ _
  all_goals exact h.settleNow

theorem markNow (h : s.rebuildsBound) : s.markNow.rebuildsBound := by
  unfold State.markNow
  repeat' split
  · exact h
  · exact h.recogniseMark
  · exact h

theorem overlongNow (h : s.rebuildsBound) : s.overlongNow.rebuildsBound := by
  unfold State.overlongNow
  dsimp only
  repeat' split
  all_goals exact h.markNow.congr (by simp)

theorem decoderRise (h : s.rebuildsBound) (rise : Int) : (s.decoderRise rise).rebuildsBound := by
  unfold State.decoderRise
  split
  · split
    · exact h.congr (by simp)
    · exact h.congr (by simp)
    · exact h.congr (by simp)
    · exact h.markNow
    · exact h.overlongNow
  · exact h

theorem releaseNow (h : s.rebuildsBound) : s.releaseNow.rebuildsBound := by
  unfold State.releaseNow State.loopRelease
  split
  · exact decoderRise (by exact congr h rfl) _
  · exact h

end State.rebuildsBound

theorem Instr.effect_rebuildsBound (c : Instr) {s : State} (h : s.rebuildsBound) : (Instr.effect c s).rebuildsBound := by
  cases c
  case reset => exact Nat.zero_le _
  case epoch => exact h.epochEffect
  case driveInstant => exact h.driveEffect
  case reductionRelease => exact h.releaseNow
  case keyRise => exact .decoderRise (by exact h) _
  case markRecognised => exact h.recogniseMark
  case overlong => exact h.overlongNow
  all_goals exact h.congr (by simp [Instr.effect, State.ackAlarmsEffect])

/-! ## The bounds at every command -/

theorem Instr.effect_boundsSafe (c : Instr) {s : State} (safe : BoundsSafe s) : BoundsSafe (Instr.effect c s) := by
  obtain ⟨counters, ring, rebuilds, group, rescue, peer⟩ := safe
  have ring' := Instr.effect_ringBound c ring
  have rebuilds' := Instr.effect_rebuildsBound c rebuilds
  cases signals : Instr.onlySignals c
  case true =>
    have done := (Instr.effect_signals signals s).maint
    obtain ⟨rescue', peer'⟩ := done.stretches_le rescue peer
    exact ⟨done.counters_safe counters, ring', rebuilds', by rwa [done.groupCount_eq], rescue', peer'⟩
  case false =>
    cases c <;> try cases signals
    case reset.refl => exact ⟨Counters.zero_safe, ring', rebuilds', (by decide : 0 < 4), Nat.zero_le _, Nat.zero_le _⟩
    case loadCompletion.refl =>
      have done := s.completeEffect_signals.maint
      obtain ⟨rescue', peer'⟩ := done.stretches_le (by simpa using rescue) (by simpa using peer)
      exact ⟨done.counters_safe (by simpa using counters), ring', rebuilds', by simpa [Instr.effect] using group, rescue', peer'⟩
    case counters.refl =>
      exact ⟨Counters.zero_safe, ring', rebuilds', group, rescue, peer⟩
    case statusRepetition.refl =>
      refine ⟨counters, ring', rebuilds', Nat.mod_lt _ (by decide), ?_, ?_⟩
      · exact (Nat.sub_le _ _).trans rescue
      · exact (Nat.sub_le _ _).trans peer
    all_goals
      refine ⟨?_, ring', rebuilds', ?_, ?_, ?_⟩ <;> simpa [Instr.effect, State.ackAlarmsEffect]

/-! ## The Second Timer's arithmetic at every command -/

theorem Timer.fixLength_a (active : Bool) (ref : RefState) (lineDiscipline : Bool) (t : Timer) :
    (t.fixLength active ref lineDiscipline).a = t.a ∨ ∃ x, (t.fixLength active ref lineDiscipline).a = x % Config.fUnit := by
  unfold Timer.fixLength
  dsimp only
  split
  case h_1 => exact .inr ⟨_, Timer.spend_a _ _ 0⟩
  case h_2 e n _ => exact .inr ⟨_, Timer.spend_a _ _ (phaseCorrection e)⟩
  case h_3 => exact .inl rfl
  case h_4 => exact .inl rfl

/-- A in its range (R25). -/
def aWithin (a : Int) : Prop := 0 ≤ a ∧ a < Config.fUnit

theorem State.timeSecond_aWithin {s : State} (within : aWithin s.timer.a) : aWithin s.timeSecond.timer.a := by
  obtain same | ⟨x, remainder⟩ := Timer.fixLength_a (s.ctl.standing == .active) s.ref.state s.load.params.site.lineDiscipline s.timer.ageMarkers
  · have : s.timeSecond.timer.a = s.timer.a := same
    rwa [this]
  · have : s.timeSecond.timer.a = x % Config.fUnit := remainder
    rw [this]
    exact ⟨Int.emod_nonneg x (by decide), Int.emod_lt_of_pos x (by decide)⟩

theorem Instr.effect_aWithin (c : Instr) {s : State} (within : aWithin s.timer.a) : aWithin (Instr.effect c s).timer.a := by
  cases c
  case reset => exact ⟨Int.le_refl 0, (by decide : (0 : Int) < Config.fUnit)⟩
  case oscillatorLoss => exact ⟨Int.le_refl 0, (by decide : (0 : Int) < Config.fUnit)⟩
  case epoch =>
    rw [Instr.effect, s.epochEffect_arithmetic.2.2]
    exact State.timeSecond_aWithin within
  case oscMonitorUp =>
    have up := State.timeSecond_aWithin (s := { s with timer := { s.timer with monitor := .up } }) within
    simpa [Instr.effect, State.monitorUpEffect, State.firstEpoch] using up
  all_goals simpa [Instr.effect, State.ackAlarmsEffect] using within

end Sys2Proof.Machine

namespace Sys2Proof.Proofs

open Sys2Proof.Machine

theorem exec_keeps_timerSafe {c : Instr} {s t : State} (safe : TimerSafe s) (h : exec c s = .next t) : TimerSafe t := by
  have f := exec_fWithin safe h
  have rest : aWithin t.timer.a ∧ t.load.TrimOk := by
    refine exec_preserves (P := fun u => aWithin u.timer.a ∧ u.load.TrimOk) h ?_ (fun before => by simpa using before) (fun before => ?_)
    · exact ⟨⟨safe.a_low, safe.a_high⟩, safe.trim_ok, safe.staged_ok⟩
    · exact ⟨Instr.effect_aWithin c before.1, Instr.effect_trimOk c before.2⟩
  obtain ⟨⟨a_low, a_high⟩, trim, staged⟩ := rest
  exact ⟨f.1, f.2, a_low, a_high, trim, staged⟩

theorem exec_keeps_boundsSafe {c : Instr} {s t : State} (safe : BoundsSafe s) (h : exec c s = .next t) : BoundsSafe t :=
  exec_preserves h safe (fun ⟨h1, h2, h3, h4, h5, h6⟩ => ⟨h1, h2, h3, h4, h5, h6⟩) (Instr.effect_boundsSafe c)

theorem exec_keeps_alarmsSafe {c : Instr} {s t : State} (safe : AlarmsSafe s) (h : exec c s = .next t) : AlarmsSafe t := by
  have load : t.load.AlertOk :=
    exec_preserves (P := fun u => u.load.AlertOk) h ⟨safe.count_ok, safe.staged_ok⟩ id (Instr.effect_alertOk c)
  exact (exec_alarmsOk safe.ok ⟨safe.count_ok, safe.staged_ok⟩ h).safe load.1 load.2

/-- Settles O57: the arithmetic's limits by what a command can make of F, A and the load; the bounds and the alarm set because the units
only signal, and by the commands of the port and the status stream one by one. -/
theorem everyStepKeepsBoundsAndAlarms : Obligations.EveryStepKeepsBoundsAndAlarms := by
  refine ⟨fun s t safe h => ?_, fun s t safe h => ?_⟩
  · refine step_keeps (P := fun u => TimerSafe u ∧ BoundsSafe u) (fun s rest ⟨timer, bounds⟩ => ?_) (fun c s t ⟨timer, bounds⟩ h => ?_) safe h
    · obtain ⟨h1, h2, h3, h4, h5, h6⟩ := timer
      obtain ⟨b1, b2, b3, b4, b5, b6⟩ := bounds
      exact ⟨⟨h1, h2, h3, h4, h5, h6⟩, ⟨b1, b2, b3, b4, b5, b6⟩⟩
    · exact ⟨exec_keeps_timerSafe timer h, exec_keeps_boundsSafe bounds h⟩
  · refine step_keeps (P := AlarmsSafe) (fun s rest safe => ?_) (fun c s t => exec_keeps_alarmsSafe) safe h
    obtain ⟨h1, h2, h3, h4, h5, h6, h7, h8⟩ := safe
    exact ⟨h1, h2, h3, h4, h5, h6, h7, h8⟩

/-- Settles O3: after a completed load the load's commands are not due; the units' signals keep the alarms held and ALERT_N; and only a
record close or a reset writes the ring. -/
theorem loadAndAlarmsStand : Obligations.LoadAndAlarmsStand := by
  refine ⟨fun c s t done reset h => ?load, fun c s t reset h => ⟨fun ack => ?alarms, fun close => ?ring⟩⟩
  case load =>
    obtain ⟨due, rfl⟩ | rfl := exec_cases h
    case inr => rfl
    cases loads : Instr.loads c
    case false => simp [Instr.effect_load loads]
    case true =>
      cases c <;> try cases loads
      case reset.refl now => exact absurd rfl (reset now)
      all_goals simp [Instr.due, done, LoadPhase.closing] at due
  case ring =>
    obtain ⟨-, rfl⟩ | rfl := exec_cases h
    · simp [Instr.effect_ring reset close]
    · rfl
  case alarms =>
    obtain ⟨due, rfl⟩ | rfl := exec_cases h
    case inr => exact ⟨fun e held => ⟨e, held, rfl, rfl⟩, id⟩
    cases signals : Instr.onlySignals c
    case true =>
      have done := (Instr.effect_signals signals (s.at c.now)).maint
      exact ⟨fun e held => done.alarms_stand (by simpa using held), fun asserted => done.alert_stands (by simpa using asserted)⟩
    case false =>
      cases c <;> try cases signals
      case reset.refl now => exact absurd rfl (reset now)
      case ackAlarms.refl now => exact absurd rfl (ack now)
      case alertDelayExpiry.refl now => exact ⟨fun e held => ⟨e, held, rfl, rfl⟩, fun _ => rfl⟩
      case loadCompletion.refl now =>
        have done := (s.at now).completeEffect_signals.maint
        refine ⟨fun e held => done.alarms_stand (by simpa using held), fun asserted => ?_⟩
        have stands := done.alert_stands (by simpa using asserted)
        exact (Bool.or_eq_true _ _).mpr (.inl stands)
      all_goals
        refine ⟨fun e held => ⟨e, by simpa [Instr.effect] using held, rfl, rfl⟩, fun asserted => ?_⟩
        simpa [Instr.effect] using asserted

end Sys2Proof.Proofs
end

section
/-!
PROOFS. How the standing, the drive and the count move: outside the drive instant, the epoch and a few commands they move by one relation,
which leaves ACTIVE and a count held while ACTIVE alone. The keying invariant and the statements about ACTIVE follow from it.
-/

namespace Sys2Proof.Machine

/-! ## The relation -/

/-- What the keying invariant speaks of (R96, R118). -/
def State.stand (s : State) : (DriveState × Monitor × Bool × Bool × Option YieldTo) × Standing × Option Int × Bool × TestState :=
  ((s.key.drive, s.timer.monitor, s.timer.driveTaken, s.ctl.pendingWithdraw, s.ctl.yieldDue), s.ctl.standing, s.time.n,
    s.time.rangeEnding, s.ctl.test.state)

/-- State `t` comes of `s` by an operation that pulls KEY no more than before, moves the standing among SURVEY and DEFERRED only, keeps
the time SET, touches neither N nor the mark of the range's end while ACTIVE, and ends a self-test at most. -/
structure State.Moves (s t : State) : Prop where
  drive : t.key.drive ≠ .released → s.key.drive ≠ .released
  monitor : t.timer.monitor = s.timer.monitor
  driveTaken : t.timer.driveTaken = s.timer.driveTaken
  withdraw : t.ctl.pendingWithdraw = true → s.ctl.pendingWithdraw = true ∨ s.ctl.standing = .active
  yield_due : t.ctl.yieldDue.isSome = true → s.ctl.yieldDue.isSome = true ∨ s.ctl.standing = .active
  standing : t.ctl.standing = s.ctl.standing ∨ (s.ctl.standing.surveys = true ∧ t.ctl.standing.surveys = true)
  set : s.time.n.isSome = true → t.time.n.isSome = true
  held : s.ctl.standing = .active → s.time.n.isSome = true → t.time.n = s.time.n ∧ t.time.rangeEnding = s.time.rangeEnding
  test : t.ctl.test.state = s.ctl.test.state ∨ t.ctl.test.state = .idle

@[simp] theorem Standing.surveys_survey (p : SurveyPhase) : (Standing.survey p).surveys = true := rfl
@[simp] theorem Standing.surveys_deferred : Standing.deferred.surveys = true := rfl

theorem Standing.not_active_of_surveys {st : Standing} (h : st.surveys = true) : st ≠ .active := by
  rintro rfl
  cases h

namespace State.Moves

variable {r s t : State}

@[simp] theorem refl (s : State) : s.Moves s :=
  ⟨id, rfl, rfl, .inl, .inl, .inl rfl, id, fun _ _ => ⟨rfl, rfl⟩, .inl rfl⟩

/-- ACTIVE is neither entered nor left. -/
theorem active_iff (h : s.Moves t) : t.ctl.standing = .active ↔ s.ctl.standing = .active := by
  obtain same | ⟨before, after⟩ := h.standing
  · rw [same]
  · exact ⟨fun a => absurd a (Standing.not_active_of_surveys after), fun a => absurd a (Standing.not_active_of_surveys before)⟩

theorem surveys (h : s.Moves t) (before : s.ctl.standing.surveys = true) : t.ctl.standing.surveys = true := by
  obtain same | ⟨-, after⟩ := h.standing
  · rwa [same]
  · exact after

theorem trans (h : r.Moves s) (h' : s.Moves t) : r.Moves t where
  drive := h.drive ∘ h'.drive
  monitor := h'.monitor.trans h.monitor
  driveTaken := h'.driveTaken.trans h.driveTaken
  withdraw pending := (h'.withdraw pending).elim h.withdraw fun active => .inr (h.active_iff.mp active)
  yield_due due := (h'.yield_due due).elim h.yield_due fun active => .inr (h.active_iff.mp active)
  standing := by
    obtain same' | ⟨before', after'⟩ := h'.standing
    · rw [same']
      exact h.standing
    · obtain same | ⟨before, -⟩ := h.standing
      · exact .inr ⟨same ▸ before', after'⟩
      · exact .inr ⟨before, after'⟩
  set := h'.set ∘ h.set
  held active known := by
    obtain ⟨n, ending⟩ := h.held active known
    obtain ⟨n', ending'⟩ := h'.held (h.active_iff.mpr active) (h.set known)
    exact ⟨n'.trans n, ending'.trans ending⟩
  test := by
    obtain same' | idle := h'.test
    · rw [same']
      exact h.test
    · exact .inr idle

/-- An operation that leaves alone what the keying invariant speaks of. -/
theorem quiet (h : r.Moves s) (same : t.stand = s.stand) : r.Moves t := by
  simp only [State.stand, Prod.mk.injEq] at same
  obtain ⟨⟨drive, monitor, taken, withdraw, yield⟩, standing, n, ending, test⟩ := same
  refine h.trans ⟨?_, monitor, taken, ?_, ?_, .inl standing, ?_, fun _ _ => ⟨n, ending⟩, .inl test⟩
  · rw [drive]; exact id
  · rw [withdraw]; exact .inl
  · rw [yield]; exact .inl
  · rw [n]; exact id

/-! ## The standings -/

/-- A move from a standing that watches the line to one that does. -/
theorem watch (h : r.Moves s) (before : s.ctl.standing.surveys = true) (after : t.ctl.standing.surveys = true)
    (same : t.stand = { s with ctl := { s.ctl with standing := t.ctl.standing } }.stand) : r.Moves t := by
  simp only [State.stand, Prod.mk.injEq] at same
  obtain ⟨⟨drive, monitor, taken, withdraw, yield⟩, -, n, ending, test⟩ := same
  refine h.trans ⟨?_, monitor, taken, ?_, ?_, .inr ⟨before, after⟩, ?_, fun _ _ => ⟨n, ending⟩, .inl test⟩
  · rw [drive]; exact id
  · rw [withdraw]; exact .inl
  · rw [yield]; exact .inl
  · rw [n]; exact id

theorem enterSurvey (h : r.Moves s) (before : s.ctl.standing.surveys = true) : r.Moves s.enterSurvey :=
  h.watch before rfl rfl

theorem enterDeferred (h : r.Moves s) (before : s.ctl.standing.surveys = true) : r.Moves s.enterDeferred :=
  h.watch before rfl rfl

theorem setPhase (h : r.Moves s) (before : s.ctl.standing.surveys = true) (phase : SurveyPhase) : r.Moves (s.setPhase phase) :=
  h.watch before rfl rfl

theorem endTest (h : r.Moves s) (result : TestResult) : r.Moves (s.endTest result) :=
  h.trans ⟨by simp, by simp, by simp, by simp; exact .inl, by simp; exact .inl, .inl (by simp), by simp, by simp, .inr (by simp)⟩

/-! ## The time scale -/

theorem classChanged (h : r.Moves s) (before : TimeClass) : r.Moves (s.classChanged before) := by
  have removed : r.Moves s.removeLineEntries := h.quiet (by simp [State.stand])
  unfold State.classChanged
  dsimp only
  split
  · split
    next adopting => exact removed.setPhase (by rw [adopting]; rfl) _
    · exact removed
  · split
    next leaving => exact h.enterSurvey (by rw [leaving.2.2]; rfl)
    · exact h

/-- A count for the present second moves nothing that is ACTIVE, where the time was UNSET. -/
theorem setTime (h : r.Moves s) (unset : s.time.n = none) (n : Int) (origin : Origin) : r.Moves (s.setTime n origin) := by
  unfold State.setTime
  refine classChanged (h.trans ?_) _
  exact ⟨by simp, by simp, by simp, by simp; exact .inl, by simp; exact .inl, .inl (by simp), by simp, by simp [unset], .inl (by simp)⟩

theorem resetApplied_test (s : State) : s.resetApplied.ctl.test.state = s.ctl.test.state ∨ s.resetApplied.ctl.test.state = .idle := by
  unfold State.resetApplied
  dsimp only
  split
  · exact .inr (by simp)
  · exact .inl (by simp)

theorem resetApplied (h : r.Moves s) : r.Moves s.resetApplied :=
  h.trans ⟨by simp, by simp, by simp, by simp; exact .inl, by simp; exact .inl, .inl (by simp), by simp, by simp, resetApplied_test s⟩

theorem shiftCount (h : r.Moves s) (off : s.ctl.standing ≠ .active) (difference : Int) : r.Moves (s.shiftCount difference) := by
  unfold State.shiftCount
  split
  · exact h.trans ⟨by simp, by simp, by simp, by simp; exact .inl, by simp; exact .inl, .inl (by simp), by simp,
      fun active => absurd active off, .inl (by simp)⟩
  · exact h

theorem applyCountReset (h : r.Moves s) (off : s.ctl.standing ≠ .active) (difference : Int) : r.Moves (s.applyCountReset difference) := by
  unfold State.applyCountReset
  split
  · exact h
  · exact (h.shiftCount off difference).resetApplied

theorem handWhileUnset (h : r.Moves s) (unset : s.time.n = none) (count : HandedCount) : r.Moves (s.handWhileUnset count).1 := by
  unfold State.handWhileUnset
  repeat' split
  · exact h.quiet rfl
  · exact h
  · exact h.setTime unset _ _
  · exact h

theorem dropPendingReset (h : r.Moves s) : r.Moves s.dropPendingReset := h.quiet rfl

theorem setOrigin (h : r.Moves s) (origin : Origin) : r.Moves (s.setOrigin origin) := h.quiet rfl

theorem holdStep (h : r.Moves s) (e : Int) : r.Moves (s.holdStep e) := h.quiet rfl

/-! ## The Reference Input Unit -/

theorem leftLocked (h : r.Moves s) (before : TimeClass) : r.Moves (s.leftLocked before) := by
  unfold State.leftLocked
  dsimp only
  split
  · exact classChanged (h.quiet (by simp [State.stand])) _
  · exact h.classChanged _

theorem lockedToAcquire (h : r.Moves s) : r.Moves s.lockedToAcquire := leftLocked (by exact h.quiet rfl) _

theorem lockedToHoldover (h : r.Moves s) : r.Moves s.lockedToHoldover := leftLocked (by exact h.quiet rfl) _

theorem leapOffer (h : r.Moves s) (record : RefRecord) : r.Moves (s.leapOffer record) := h.quiet (by simp [State.stand])

theorem completeAcquire (h : r.Moves s) (n : Int) (pe : PulseEpoch) (e : Int) : r.Moves (s.completeAcquire n pe e) := by
  have locked : s.Moves ({ s with ref := s.ref.enterLocked } : State) := (refl s).quiet rfl
  refine h.trans ?_
  unfold State.completeAcquire
  dsimp only
  split
  · have changed := (locked.setOrigin .ref).classChanged s.cls
    split
    · exact changed.quiet rfl
    next off =>
      have off' : s.ctl.standing ≠ .active := by simpa using off
      exact ((changed.dropPendingReset).holdStep e).applyCountReset (fun active => off' (changed.active_iff.mp active)) _
  next unset =>
    have unset' : s.time.n = none := by simpa [State.timeSet] using unset
    split
    · exact locked.handWhileUnset unset' _
    · exact (locked.holdStep e).handWhileUnset unset' _

theorem acquirePulse (h : r.Moves s) (record : RefRecord) (pe : PulseEpoch) : r.Moves (s.acquirePulse record pe) := by
  have began {u : State} (h : r.Moves u) : r.Moves (u.beginStreak record pe) := h.quiet rfl
  unfold State.acquirePulse
  dsimp only
  split
  case h_2 => exact (began h).leapOffer _
  case h_1 =>
    split
    · split
      · exact (h.completeAcquire _ _ _).leapOffer _
      · exact leapOffer (by exact h.quiet rfl) _
    · split
      · exact (began h).leapOffer _
      · exact (began (by exact h.quiet rfl)).leapOffer _

theorem outlierPulse (h : r.Moves s) : r.Moves s.outlierPulse := by
  unfold State.outlierPulse
  dsimp only
  split
  · exact lockedToAcquire (by exact h.quiet rfl)
  · exact h.quiet rfl

theorem conflictPulse (h : r.Moves s) : r.Moves s.conflictPulse := by
  unfold State.conflictPulse
  dsimp only
  split
  · exact lockedToAcquire (by exact h.quiet rfl)
  · exact h.quiet rfl

theorem handlePulse (h : r.Moves s) (label : PulseLabel) (pe : PulseEpoch) : r.Moves (s.handlePulse label pe) := by
  have good (record : RefRecord) : r.Moves (s.lockedGood record pe) := by
    unfold State.lockedGood
    dsimp only
    repeat' split
    · exact conflictPulse (by exact h.quiet rfl)
    · exact outlierPulse (by exact h.quiet rfl)
    · exact leapOffer (h.quiet (by simp [State.stand])) _
  have unlabelled : r.Moves (s.lockedUnlabelled pe) := by
    unfold State.lockedUnlabelled
    dsimp only
    repeat' split
    · exact outlierPulse (by exact h.quiet rfl)
    · exact h.quiet rfl
    · exact outlierPulse (by exact h.quiet rfl)
    · exact h.quiet rfl
    · exact h.quiet rfl
  unfold State.handlePulse
  split
  case h_7 => exact h.acquirePulse _ _
  case h_10 => exact good _
  case h_12 => exact unlabelled
  all_goals exact h.quiet rfl

theorem secInEffect (s : State) : s.Moves s.secInEffect := by
  unfold State.secInEffect
  dsimp only
  repeat' split
  · exact (refl s).quiet rfl
  · exact handlePulse ((refl s).quiet (by simp [State.stand])) _ _
  · exact refl s

theorem windowEffect (s : State) : s.Moves s.windowEffect := by
  unfold State.windowEffect
  dsimp only
  repeat' split
  · exact lockedToHoldover (by exact (refl s).quiet rfl)
  · exact (refl s).quiet rfl
  · exact (refl s).quiet rfl

/-! ## The Line Reader -/

theorem actOnComparison (h : r.Moves s) (surveys : s.ctl.standing.surveys = true) (f : LineFrame) (result : Comparison) :
    r.Moves (s.actOnComparison f result) := by
  have deferred : r.Moves s.deferByConflict := quiet (h.enterDeferred surveys) (by simp [State.stand, State.deferByConflict])
  unfold State.actOnComparison
  dsimp only
  repeat' split
  · exact h.quiet rfl
  · exact h.quiet rfl
  · exact deferred
  · exact (h.setPhase surveys .adopting).quiet rfl
  · exact deferred
  · exact h

theorem handFrame (h : r.Moves s) (f : LineFrame) : r.Moves (s.handFrame f) := by
  have compared : r.Moves (s.compareLine f).1 := h.quiet (by simp [State.stand])
  unfold State.handFrame
  split
  next watching => exact compared.actOnComparison (by simpa using watching.1) _ _
  · exact h

theorem takeAdoption (h : r.Moves s) (off : s.ctl.standing ≠ .active) (f : LineFrame) (p : PastSecond) (since : Nat) :
    r.Moves (s.takeAdoption f p since).1 := by
  unfold State.takeAdoption
  dsimp only
  split
  · exact h
  · split
    · exact ((h.setOrigin _).dropPendingReset).applyCountReset off _
    next unset => exact h.handWhileUnset (by simpa [State.timeSet] using unset) _

theorem adoptFrame (h : r.Moves s) (leave : s.leave = true) (f : LineFrame) : r.Moves (s.adoptFrame f) := by
  have surveys : s.ctl.standing.surveys = true := by
    have adopting : s.ctl.standing = .survey .adopting := by simpa [State.leave] using leave
    rw [adopting]; rfl
  have off : s.ctl.standing ≠ .active := Standing.not_active_of_surveys surveys
  unfold State.adoptFrame
  dsimp only
  repeat' split
  next p since _ _ =>
    have taken := takeAdoption (refl s) off f p since
    exact h.trans ((taken.holdStep _).setPhase (taken.surveys surveys) .confirming)
  all_goals exact h.quiet rfl

theorem closeFrame (h : r.Moves s) (a : Assembly) (falls : List Int) : r.Moves (s.closeFrame a falls) := by
  have delivered (f : LineFrame) {u : State} (h : r.Moves u) : r.Moves (u.deliverFrame f) := by
    unfold State.deliverFrame
    split
    · exact h.quiet rfl
    · split
      next leave => exact (h.adoptFrame leave f).quiet (by simp [State.stand])
      · exact (h.handFrame f).quiet (by simp [State.stand])
  unfold State.closeFrame
  dsimp only
  repeat' split
  · exact h.quiet rfl
  · exact h.quiet rfl
  · exact h.quiet rfl
  · exact delivered _ (by exact h.quiet rfl)

theorem settleNow (h : r.Moves s) : r.Moves s.settleNow := h.quiet (by simp [State.stand])

theorem recogniseMark (h : r.Moves s) : r.Moves s.recogniseMark := by
  unfold State.recogniseMark
  dsimp only
  split
  · split
    · exact closeFrame (by exact h.settleNow.quiet rfl) _ _
    · exact h.settleNow.quiet rfl
    · exact h.settleNow.quiet rfl
  · exact h.settleNow

theorem markNow (h : r.Moves s) : r.Moves s.markNow := by
  unfold State.markNow
  repeat' split
  · exact h
  · exact h.recogniseMark
  · exact h

theorem overlongNow (h : r.Moves s) : r.Moves s.overlongNow := by
  have marked := h.markNow
  unfold State.overlongNow
  dsimp only
  repeat' split
  all_goals exact marked.quiet (by simp [State.stand])

theorem decoderRise (h : r.Moves s) (rise : Int) : r.Moves (s.decoderRise rise) := by
  unfold State.decoderRise
  split
  · split
    · exact h.quiet (by simp [State.stand])
    · exact h.quiet (by simp [State.stand])
    · exact h.quiet (by simp [State.stand])
    · exact h.markNow.quiet rfl
    · exact h.overlongNow.quiet rfl
  · exact h

/-! ## The Keying Unit -/

theorem releaseNow (s : State) : s.Moves s.releaseNow := by
  unfold State.releaseNow State.loopRelease
  split
  · exact decoderRise (by exact (refl s).quiet rfl) _
  · exact ⟨fun pulled => absurd rfl pulled, rfl, rfl, .inl, .inl, .inl rfl, id, fun _ _ => ⟨rfl, rfl⟩, .inl rfl⟩

/-- The listen second's grace ends in a release or in a rescue, and the keyer listened before. -/
theorem graceEffect {s : State} (listening : s.key.drive = .listening) : s.Moves s.graceEffect := by
  refine ⟨fun _ => by rw [listening]; decide, ?_, ?_, ?_, ?_, ?_, ?_, ?_, ?_⟩
  all_goals simp
  · exact .inl
  · exact .inl

theorem decisionEffect (s : State) : s.Moves s.decisionEffect := by
  have judged {u : State} (h : s.Moves u) (o : OpenSecond) : s.Moves (u.verdictAt o) := by
    unfold State.verdictAt
    split
    · split
      next ends =>
        refine h.trans ⟨by simp, by simp, by simp, by simp; exact .inl, fun _ => .inr ends.1, .inl (by simp), by simp, by simp,
          .inl (by simp)⟩
      · exact h
    · exact h
  have tested (o : OpenSecond) : s.Moves (s.testAt o) := by
    unfold State.testAt
    split
    · exact (refl s).endTest _
    · exact refl s
  unfold State.decisionEffect State.decideKeyed
  dsimp only
  repeat' split
  · exact judged ((refl s).quiet (by simp [State.stand])) _
  · exact tested _
  · exact refl s

end State.Moves

/-! ## The commands that move the state so -/

/-- The commands that turn the standing or the count by rules of their own. -/
def Instr.turns : Instr → Bool
  | .reset _ | .loadCompletion _ | .oscMonitorUp _ | .oscillatorLoss _ | .epoch _ | .driveInstant _ | .withdraw _ | .rejoin _
  | .selftest _ => true
  | _ => false

@[simp] theorem State.readbackEffect_drive (s : State) : s.readbackEffect.key.drive = s.key.drive := by
  unfold State.readbackEffect
  split <;> rfl

@[simp] theorem State.keyFallEffect_drive (s : State) : s.keyFallEffect.key.drive = s.key.drive := by
  unfold State.keyFallEffect
  dsimp only
  split <;> simp [Keying.addEdge]

/-- Every other command leaves the standing, the drive and the count as they were, or moves them while the oscillator is UP. -/
theorem Instr.effect_moves {c : Instr} {s : State} (due : Instr.due c s = true) (others : Instr.turns c = false) :
    (Instr.effect c (s.at c.now)).stand = s.stand ∨
      (s.timer.monitor = .up ∧ (s.at c.now).Moves (Instr.effect c (s.at c.now))) := by
  cases c <;> try cases others
  case reductionRelease => exact .inr ⟨by simp_all [Instr.due], State.Moves.releaseNow _⟩
  case rescueGraceExpiry => exact .inr ⟨by simp_all [Instr.due], State.Moves.graceEffect (by simp_all [Instr.due])⟩
  case decisionPoint => exact .inr ⟨by simp_all [Instr.due], State.Moves.decisionEffect _⟩
  case keyRise =>
    exact .inr ⟨by simp_all [Instr.due], State.Moves.decoderRise (by exact (State.Moves.refl _).quiet rfl) _⟩
  case fallSettled => exact .inr ⟨by simp_all [Instr.due], (State.Moves.refl _).settleNow⟩
  case markRecognised => exact .inr ⟨by simp_all [Instr.due], (State.Moves.refl _).recogniseMark⟩
  case overlong => exact .inr ⟨by simp_all [Instr.due], (State.Moves.refl _).overlongNow⟩
  case secInPulse => exact .inr ⟨by simp_all [Instr.due], State.Moves.secInEffect _⟩
  case refWindowClose => exact .inr ⟨by simp_all [Instr.due], State.Moves.windowEffect _⟩
  all_goals exact .inl (by simp [Instr.effect, State.stand, State.ackAlarmsEffect])

end Sys2Proof.Machine
end

section
/-!
PROOFS. The keying invariant (R96, R118) through the commands that turn the standing or the count, and what the standing and the count do
while ACTIVE.
-/

namespace Sys2Proof.Machine

variable {s t : State}

/-! ## What carries the keying invariant -/

theorem KeyingSafe.of_stand (safe : KeyingSafe s) (same : t.stand = s.stand) : KeyingSafe t := by
  simp only [State.stand, Prod.mk.injEq] at same
  obtain ⟨⟨drive, monitor, taken, withdraw, yield⟩, standing, n, ending, test⟩ := same
  obtain ⟨driven, active_set, active_up, active_ending, withdraw', yield_due, test_standby, test_set, down_unset, faulted_down⟩ := safe
  constructor <;> simpa only [drive, monitor, taken, withdraw, yield, standing, n, ending, test]

theorem KeyingSafe.of_moves (safe : KeyingSafe s) (moves : s.Moves t) (up : s.timer.monitor = .up) : KeyingSafe t where
  driven pulled := moves.active_iff.mpr (safe.driven (moves.drive pulled))
  active_set active := moves.set (safe.active_set (moves.active_iff.mp active))
  active_up _ := moves.monitor.trans up
  active_ending active ending := by
    have before := moves.active_iff.mp active
    rw [(moves.held before (safe.active_set before)).2] at ending
    exact moves.driveTaken.trans (safe.active_ending before ending)
  withdraw pending := moves.active_iff.mpr ((moves.withdraw pending).elim safe.withdraw id)
  yield_due due := moves.active_iff.mpr ((moves.yield_due due).elim safe.yield_due id)
  test_standby busy := by
    have busy' : s.ctl.test.state ≠ .idle := by
      obtain same | idle := moves.test
      · rwa [← same]
      · exact absurd idle busy
    have standby := safe.test_standby busy'
    obtain same | ⟨before, -⟩ := moves.standing
    · exact same.trans standby
    · rw [standby] at before
      cases before
  test_set busy := by
    obtain same | idle := moves.test
    · exact moves.set (safe.test_set (same ▸ busy))
    · exact absurd idle busy
  down_unset down := by
    rw [moves.monitor, up] at down
    cases down
  faulted_down faulted := by
    obtain same | ⟨-, after⟩ := moves.standing
    · exact moves.monitor.trans (safe.faulted_down (same ▸ faulted))
    · rw [faulted] at after
      cases after

/-- A keyer that is not ACTIVE turns to another standing, with no self-test under way. -/
theorem KeyingSafe.turn (safe : KeyingSafe s) (before : s.ctl.standing ≠ .active) (after : t.ctl.standing ≠ .active)
    (sound : t.ctl.standing ≠ .faultedOsc) (idle : s.ctl.test.state = .idle)
    (same : t.stand = { s with ctl := { s.ctl with standing := t.ctl.standing } }.stand) : KeyingSafe t := by
  simp only [State.stand, Prod.mk.injEq] at same
  obtain ⟨⟨drive, monitor, -, withdraw, yield⟩, -, n, -, test⟩ := same
  constructor
  · rw [drive]; exact fun pulled => absurd (safe.driven pulled) before
  · exact fun active => absurd active after
  · exact fun active => absurd active after
  · exact fun active => absurd active after
  · rw [withdraw]; exact fun pending => absurd (safe.withdraw pending) before
  · rw [yield]; exact fun due => absurd (safe.yield_due due) before
  · rw [test]; exact fun busy => absurd idle busy
  · rw [test]; exact fun busy => absurd idle busy
  · rw [monitor, n]; exact safe.down_unset
  · exact fun faulted => absurd faulted sound

theorem KeyingSafe.idle_unless_standby (safe : KeyingSafe s) (other : s.ctl.standing ≠ .standby) : s.ctl.test.state = .idle :=
  by_contra fun busy => other (safe.test_standby busy)

/-! ## Reset, the oscillator and the load -/

theorem KeyingSafe.afterReset (s : State) : KeyingSafe s.afterReset := by
  constructor <;> simp [State.afterReset, State.reset, Timer.reset, Keying.reset, Controller.reset, SelfTest.reset, TimeScale.reset]

theorem Timer.reset_monitor : Timer.reset.monitor = .down := rfl

theorem KeyingSafe.lossEffect (s : State) : KeyingSafe s.lossEffect := by
  constructor <;> simp [State.lossEffect, Keying.lost, Keying.reset, Controller.lost, Controller.reset, TimeScale.unset, Timer.lost, Timer.reset_monitor]

@[simp] theorem Timer.fixLength_monitor (active : Bool) (ref : RefState) (lineDiscipline : Bool) (t : Timer) :
    (t.fixLength active ref lineDiscipline).monitor = t.monitor := by
  unfold Timer.fixLength
  dsimp only
  split <;> rfl

@[simp] theorem State.timeSecond_monitor (s : State) : s.timeSecond.timer.monitor = s.timer.monitor :=
  Timer.fixLength_monitor _ _ _ _

@[simp] theorem State.timeSecond_driveTaken (s : State) : s.timeSecond.timer.driveTaken = false := rfl

@[simp] theorem State.firstEpoch_monitor (s : State) : s.firstEpoch.timer.monitor = .up := by
  simp [State.firstEpoch]

/-- The monitor goes UP with a keyer that is not ACTIVE and an UNSET time. -/
theorem KeyingSafe.monitorUpEffect (safe : KeyingSafe s) (down : s.timer.monitor = .down) : KeyingSafe s.monitorUpEffect := by
  have off : s.ctl.standing ≠ .active := fun active => by
    rw [safe.active_up active] at down
    cases down
  have unset : s.time.n = none := safe.down_unset down
  have idle : s.ctl.test.state = .idle := by_contra fun busy => absurd (safe.test_set busy) (by simp [unset])
  have standing : s.monitorUpEffect.ctl.standing ≠ .active ∧ s.monitorUpEffect.ctl.standing ≠ .faultedOsc := by
    unfold State.monitorUpEffect State.standingAtUp
    repeat' split
    all_goals simp_all [State.startFilter, State.enterSurvey, State.enterWatch, State.enterQuiet]
  have released : s.key.drive = .released := by_contra fun pulled => off (safe.driven pulled)
  constructor
  · simp [released]
  · exact fun active => absurd active standing.1
  · exact fun active => absurd active standing.1
  · exact fun active => absurd active standing.1
  · simp; exact fun pending => absurd (safe.withdraw pending) off
  · simp; exact fun due => absurd (safe.yield_due due) off
  · simp [idle]
  · simp [idle]
  · simp [unset]
  · exact fun faulted => absurd faulted standing.2

theorem State.surveyAtLoad_loading (h : s.ctl.standing = .loading) : s.surveyAtLoad = s.enterSurvey.wakeDecoder := if_pos h

theorem State.surveyAtLoad_other (h : s.ctl.standing ≠ .loading) : s.surveyAtLoad = s := if_neg h

theorem KeyingSafe.completeEffect (safe : KeyingSafe s) : KeyingSafe s.completeEffect := by
  have raised : KeyingSafe s.takeParams.offsetAtLoad.raiseConfig := safe.of_stand (by simp [State.stand])
  have surveyed : KeyingSafe s.takeParams.offsetAtLoad.raiseConfig.surveyAtLoad := by
    generalize s.takeParams.offsetAtLoad.raiseConfig = u at raised ⊢
    by_cases loading : u.ctl.standing = .loading
    · rw [State.surveyAtLoad_loading loading]
      exact raised.turn (by simp [loading]) (by simp [State.enterSurvey, State.enterWatch]) (by simp [State.enterSurvey, State.enterWatch])
        (raised.idle_unless_standby (by simp [loading])) (by simp [State.stand])
    · rwa [State.surveyAtLoad_other loading]
  exact surveyed.of_stand rfl

/-! ## The port's commands -/

theorem KeyingSafe.withdrawEffect (safe : KeyingSafe s) : KeyingSafe s.withdrawEffect := by
  unfold State.withdrawEffect
  split
  case h_1 standing =>
    exact safe.turn (by simp [standing]) (by simp [State.enterQuiet]) (by simp [State.enterQuiet])
      (safe.idle_unless_standby (by simp [standing])) rfl
  case h_2 standing =>
    exact safe.turn (by simp [standing]) (by simp [State.enterQuiet]) (by simp [State.enterQuiet])
      (safe.idle_unless_standby (by simp [standing])) rfl
  case h_3 active =>
    exact ⟨safe.driven, safe.active_set, safe.active_up, safe.active_ending, fun _ => active, safe.yield_due, safe.test_standby,
      safe.test_set, safe.down_unset, safe.faulted_down⟩
  all_goals exact safe.of_stand rfl

theorem KeyingSafe.abortTest (safe : KeyingSafe s) : KeyingSafe s.abortTest := by
  constructor <;> simp
  · exact safe.driven
  · exact safe.active_set
  · exact safe.active_up
  · exact safe.active_ending
  · exact safe.withdraw
  · exact safe.yield_due
  · exact safe.down_unset
  · exact safe.faulted_down

theorem KeyingSafe.rejoinEffect (safe : KeyingSafe s) : KeyingSafe s.rejoinEffect := by
  unfold State.rejoinEffect
  split
  case h_1 standby =>
    exact safe.abortTest.turn (by simp [standby]) (by simp [State.enterSurvey, State.enterWatch])
      (by simp [State.enterSurvey, State.enterWatch]) (by simp) rfl
  case h_2 faulted =>
    exact safe.turn (by simp [faulted]) (by simp [State.enterSurvey, State.enterWatch]) (by simp [State.enterSurvey, State.enterWatch])
      (safe.idle_unless_standby (by simp [faulted])) rfl
  all_goals exact safe.of_stand rfl

theorem KeyingSafe.selftestEffect (safe : KeyingSafe s) : KeyingSafe s.selftestEffect := by
  unfold State.selftestEffect
  split
  next armed =>
    have set : s.armTest.ctl.test.state ≠ .idle → s.time.n.isSome = true := by
      unfold State.armTest
      split
      next set => exact fun _ => set
      · exact fun busy => absurd rfl busy
    exact ⟨safe.driven, safe.active_set, safe.active_up, safe.active_ending, safe.withdraw, safe.yield_due, fun _ => armed.1, set,
      safe.down_unset, safe.faulted_down⟩
  · exact safe.of_stand rfl

/-! ## The epoch -/

/-- An epoch opens its second with the drive instant of the next to come. -/
theorem KeyingSafe.opened (safe : KeyingSafe s) (t0 : Int) : KeyingSafe (s.timeSecond.openEpoch t0) := by
  constructor <;> simp
  · exact safe.driven
  · exact safe.active_set
  · exact safe.active_up
  · exact safe.withdraw
  · exact safe.yield_due
  · exact safe.test_standby
  · exact safe.test_set
  · exact safe.down_unset
  · exact safe.faulted_down

@[simp] theorem State.endRange_n (s : State) : s.endRange.time.n = none := by
  unfold State.endRange
  dsimp only
  split <;> simp [TimeScale.unset]

theorem State.endRange_test (s : State) : s.endRange.ctl.test.state = .idle := by
  unfold State.endRange
  dsimp only
  split <;> simp [State.endTestUnset, apply_ite]

/-- The end of the range moves DEFERRED to SURVEY, and no other standing (R49). -/
theorem State.endRange_standing (s : State) :
    s.endRange.ctl.standing = if s.ctl.standing = .deferred then .survey .watching else s.ctl.standing := by
  unfold State.endRange
  dsimp only
  split <;> simp_all [State.enterSurvey, State.enterWatch]

theorem State.endRange_active (s : State) : s.endRange.ctl.standing = .active ↔ s.ctl.standing = .active := by
  rw [State.endRange_standing]
  split <;> simp_all

theorem KeyingSafe.endRange (safe : KeyingSafe s) (off : s.ctl.standing ≠ .active) : KeyingSafe s.endRange := by
  have off' : s.endRange.ctl.standing ≠ .active := mt s.endRange_active.mp off
  constructor
  · simp; exact fun pulled => absurd (safe.driven pulled) off
  · exact fun active => absurd active off'
  · exact fun active => absurd active off'
  · exact fun active => absurd active off'
  · simp; exact fun pending => absurd (safe.withdraw pending) off
  · simp; exact fun due => absurd (safe.yield_due due) off
  · exact fun busy => absurd s.endRange_test busy
  · exact fun busy => absurd s.endRange_test busy
  · simp
  · rw [State.endRange_standing]
    split
    · exact nofun
    · exact fun faulted => by simpa using safe.faulted_down faulted

@[simp] theorem State.advanceTo_n (n' : Int) (step : LeapStep) (s : State) :
    (s.advanceTo n' step).time.n = some (if Config.lastCount < n' then s.time.n.getD n' else n') := rfl

theorem KeyingSafe.advanceTo (safe : KeyingSafe s) (up : s.timer.monitor = .up) (fresh : s.timer.driveTaken = false) (n' : Int)
    (step : LeapStep) : KeyingSafe (s.advanceTo n' step) := by
  constructor <;> simp [up, fresh]
  · exact safe.driven
  · exact safe.withdraw
  · exact safe.yield_due
  · exact safe.test_standby
  · exact fun faulted => by simp [safe.faulted_down faulted] at up

theorem State.comingCount_none : s.comingCount = none ↔ s.time.n = none := by
  simp [State.comingCount]

/-- The count at an epoch, where the range of an ACTIVE keyer's count does not end (R49). -/
theorem KeyingSafe.countAtEpoch (safe : KeyingSafe s) (up : s.timer.monitor = .up) (fresh : s.timer.driveTaken = false)
    (runs : s.ctl.standing = .active → s.time.rangeEnding = false) {coming : Option (Int × LeapStep)}
    (unset : coming = none → s.time.n = none) (e : Int) : KeyingSafe (s.countAtEpoch coming e) := by
  unfold State.countAtEpoch
  split
  next n' step =>
    split
    next ending => exact safe.endRange (fun active => by simp [runs active] at ending)
    · exact safe.advanceTo up fresh n' step
  · split
    · split
      · exact safe.of_moves ((State.Moves.refl s).setTime (unset rfl) _ _) up
      · exact safe
    · exact safe

/-- What follows the count at an epoch moves the state as other commands do. -/
theorem State.Moves.takePendingReset (s : State) : s.Moves s.takePendingReset.1 := by
  have shifted {u : State} (off : u.ctl.standing ≠ .active) (d : Int) : u.Moves (u.shiftAtEpoch d) := by
    unfold State.shiftAtEpoch
    split
    · refine State.Moves.shiftCount ?_ (by exact off) d
      exact ⟨id, rfl, rfl, .inl, .inl, .inl rfl, id, fun active => absurd active off, .inl rfl⟩
    · exact .refl u
  unfold State.takePendingReset
  split
  next r _ =>
    split
    · exact .refl s
    next off =>
      have dropped : s.Moves s.dropPendingReset := (State.Moves.refl s).dropPendingReset
      have off' : s.dropPendingReset.ctl.standing ≠ .active := off
      dsimp only
      split <;> split
      · exact (dropped.trans (shifted off' _)).quiet rfl
      · exact dropped.quiet rfl
      · exact dropped.trans (shifted off' _)
      · exact dropped
  · exact .refl s

theorem State.Moves.buildAtEpoch (reset : Bool) (s : State) : s.Moves (s.buildAtEpoch reset) := by
  unfold State.buildAtEpoch
  split
  · exact ((State.Moves.refl s).resetApplied).quiet (by simp [State.stand])
  · exact (State.Moves.refl s).quiet (by simp [State.stand])

theorem State.Moves.afterCount (s : State) : s.epochCounted.Moves s.epochEffect := by
  rw [State.epochEffect_eq]
  have reset : s.epochCounted.Moves s.epochReset := .takePendingReset _
  exact (reset.quiet (t := s.epochReset.entriesAtEpoch) (by simp [State.stand])).trans (.buildAtEpoch _ _)

theorem KeyingSafe.epochEffect (safe : KeyingSafe s) (up : s.timer.monitor = .up) (taken : s.timer.driveTaken = true) :
    KeyingSafe s.epochEffect := by
  have runs : s.ctl.standing = .active → s.time.rangeEnding = false := fun active => by
    cases ending : s.time.rangeEnding
    · rfl
    · exact absurd taken (by simp [safe.active_ending active ending])
  have counted : KeyingSafe ((s.timeSecond.openEpoch s.presentDrive).countAtEpoch s.comingCount s.tick) :=
    (safe.opened s.presentDrive).countAtEpoch (by simpa using up) (by simp) (by simpa using runs)
      (by simpa using State.comingCount_none.mp) _
  have aged : KeyingSafe s.epochCounted := counted.of_stand (by simp [State.stand, State.epochCounted])
  exact aged.of_moves (State.Moves.afterCount s) (by simpa [State.epochCounted] using up)

/-! ## The drive instant -/

/-- A keyer that has left ACTIVE: it holds none of the causes (R120). -/
structure State.HasLeft (t : State) : Prop where
  active : t.ctl.standing ≠ .active
  osc : t.ctl.standing ≠ .faultedOsc
  withdraw : t.ctl.pendingWithdraw = false
  yield_due : t.ctl.yieldDue = none

/-- At a drive instant ACTIVE is left, or the range is not ending (R49, R120). -/
theorem State.activeExits_cases (mark : Bool) (s : State) :
    (s.activeExits mark = s ∧ s.time.rangeEnding = false) ∨ (s.activeExits mark).HasLeft := by
  have survey : s.enterSurvey.leftActive.HasLeft := ⟨nofun, nofun, rfl, rfl⟩
  unfold State.activeExits
  split
  · exact .inr ⟨nofun, nofun, rfl, rfl⟩
  split
  · exact .inr ⟨nofun, nofun, rfl, rfl⟩
  split
  · exact .inr survey
  next running =>
    have running' : s.time.rangeEnding = false := by simpa using running
    split
    · split
      next dest _ => cases dest <;> exact .inr ⟨nofun, nofun, rfl, rfl⟩
      · split
        · exact .inr survey
        · exact .inl ⟨rfl, running'⟩
    · exact .inl ⟨rfl, running'⟩

/-- The standing at a drive instant: as it was, left, or entered (R120, R124, R129). -/
theorem State.standingAtDrive_cases (mark : Bool) (s : State) :
    (s.standingAtDrive mark = s ∧ (s.ctl.standing = .active → s.time.rangeEnding = false)) ∨
    (s.ctl.standing = .active ∧ (s.standingAtDrive mark).HasLeft) ∨
    (s.ctl.standing.surveys = true ∧ s.time.n.isSome = true ∧ s.time.rangeEnding = false ∧
      s.standingAtDrive mark = s.enterQuiet .active) := by
  unfold State.standingAtDrive
  split
  next active =>
    obtain ⟨same, running⟩ | left := s.activeExits_cases mark
    · exact .inl ⟨same, fun _ => running⟩
    · exact .inr (.inl ⟨active, left⟩)
  next off =>
    split
    next joins =>
      simp only [State.joins, Bool.and_eq_true, Bool.not_eq_true'] at joins
      obtain ⟨⟨⟨surveys, set⟩, running⟩, -⟩ := joins
      exact .inr (.inr ⟨surveys, set, running, rfl⟩)
    · exact .inl ⟨rfl, fun active => absurd active off⟩

/-- The keying invariant at a drive instant, before the second is keyed: KEY is still as the last second left it. -/
structure State.Turned (s : State) : Prop where
  active_set : s.ctl.standing = .active → s.time.n.isSome = true
  running : s.ctl.standing = .active → s.time.rangeEnding = false
  withdraw : s.ctl.pendingWithdraw = true → s.ctl.standing = .active
  yield_due : s.ctl.yieldDue.isSome = true → s.ctl.standing = .active
  test_standby : s.ctl.test.state ≠ .idle → s.ctl.standing = .standby
  test_set : s.ctl.test.state ≠ .idle → s.time.n.isSome = true
  sound : s.ctl.standing ≠ .faultedOsc

theorem KeyingSafe.sound (safe : KeyingSafe s) (up : s.timer.monitor = .up) : s.ctl.standing ≠ .faultedOsc := fun faulted => by
  simp [safe.faulted_down faulted] at up

theorem KeyingSafe.turned (safe : KeyingSafe s) (up : s.timer.monitor = .up) (mark : Bool) : (s.standingAtDrive mark).Turned := by
  have unless_standby (other : s.ctl.standing ≠ .standby) : (s.standingAtDrive mark).ctl.test.state = .idle := by
    simpa using safe.idle_unless_standby other
  obtain ⟨same, running⟩ | ⟨active, left⟩ | ⟨surveys, set, running, joined⟩ := s.standingAtDrive_cases mark
  · rw [same]
    exact ⟨safe.active_set, running, safe.withdraw, safe.yield_due, safe.test_standby, safe.test_set, safe.sound up⟩
  · have idle := unless_standby (by simp [active])
    exact ⟨fun a => absurd a left.active, fun a => absurd a left.active, by simp [left.withdraw], by simp [left.yield_due],
      fun busy => absurd idle busy, fun busy => absurd idle busy, left.osc⟩
  · have idle := unless_standby (by rintro standby; simp [standby, Standing.surveys, Standing.isSurvey] at surveys)
    have active : (s.standingAtDrive mark).ctl.standing = .active := by rw [joined]; rfl
    exact ⟨fun _ => by simpa using set, fun _ => by simpa using running, fun _ => active, fun _ => active,
      fun busy => absurd idle busy, fun busy => absurd idle busy, by simp [active]⟩

theorem State.startTest_waiting {mark : Bool} (h : (s.startTest mark).ctl.test.state ≠ .idle) :
    s.ctl.test.state ≠ .idle ∧ (s.startTest mark).ctl.standing = s.ctl.standing := by
  refine ⟨?_, by simp⟩
  unfold State.startTest at h
  split at h
  next starts => simp [starts.2.1]
  · exact h

theorem State.Turned.tests (turned : s.Turned) (mark : Bool) : ((s.closeTest mark).startTest mark).Turned := by
  have busy (h : ((s.closeTest mark).startTest mark).ctl.test.state ≠ .idle) : s.ctl.test.state ≠ .idle := by
    simpa using (State.startTest_waiting h).1
  constructor
  · simpa using turned.active_set
  · simpa using turned.running
  · simpa using turned.withdraw
  · simpa using turned.yield_due
  · intro h; simpa using turned.test_standby (busy h)
  · intro h; simpa using turned.test_set (busy h)
  · simpa using turned.sound

/-- KEY is pulled for a second only while ACTIVE (R96). -/
theorem State.keySecond_drive {mark : Bool} {index : Option Nat} (pulled : (s.keySecond mark index).key.drive ≠ .released) :
    s.ctl.standing = .active := by
  unfold State.keySecond at pulled
  dsimp only at pulled
  split at pulled
  next keys => exact (by simpa [State.keysSecond] using keys : _ ∧ _).1
  · exact absurd rfl pulled

theorem State.Turned.keyed (turned : s.Turned) (up : s.timer.monitor = .up) (mark : Bool) (index : Option Nat) :
    KeyingSafe (s.keySecond mark index) := by
  constructor
  · exact State.keySecond_drive
  · exact turned.active_set
  · exact fun _ => up
  · exact fun active ending => by simp [turned.running active] at ending
  · exact turned.withdraw
  · exact turned.yield_due
  · exact turned.test_standby
  · exact turned.test_set
  · simp [up]
  · exact fun faulted => absurd faulted turned.sound

@[simp] theorem State.loopSecond_testState (s : State) : s.loopSecond.ctl.test.state = s.ctl.test.state := by
  unfold State.loopSecond State.loopPull
  split <;> simp

theorem KeyingSafe.driveEffect (safe : KeyingSafe s) (up : s.timer.monitor = .up) : KeyingSafe s.driveEffect := by
  have swapped : KeyingSafe s.driveSwapped := safe.of_stand (by simp [State.stand, State.driveSwapped])
  have turned : s.driveTurned.Turned := (swapped.turned (by simpa [State.driveSwapped] using up) s.driveMark).tests s.driveMark
  rw [State.driveEffect_eq]
  exact (turned.keyed (by simpa [State.driveTurned, State.driveSwapped] using up) s.driveMark s.driveIndex).of_stand (by simp [State.stand])

/-! ## Every command -/

theorem KeyingSafe.effect {c : Instr} (safe : KeyingSafe s) (due : Instr.due c s = true) :
    KeyingSafe (Instr.effect c (s.at c.now)) := by
  have clocks : KeyingSafe (s.at c.now) := safe.of_stand rfl
  cases turns : Instr.turns c
  · obtain quiet | ⟨up, moves⟩ := Instr.effect_moves due turns
    · exact safe.of_stand quiet
    · exact clocks.of_moves moves up
  · cases c <;> try cases turns
    case reset.refl => exact .afterReset _
    case loadCompletion.refl => exact clocks.completeEffect
    case oscMonitorUp.refl => exact clocks.monitorUpEffect (by simp_all [Instr.due])
    case oscillatorLoss.refl => exact .lossEffect _
    case epoch.refl => exact clocks.epochEffect (by simp_all [Instr.due]) (by simp_all [Instr.due])
    case driveInstant.refl => exact clocks.driveEffect (by simp_all [Instr.due])
    case withdraw.refl => exact clocks.withdrawEffect
    case rejoin.refl => exact clocks.rejoinEffect
    case selftest.refl => exact clocks.selftestEffect

/-! ## ACTIVE -/

theorem State.takePendingReset_active (h : s.ctl.standing = .active) : s.takePendingReset = (s, false) := by
  unfold State.takePendingReset
  split
  · rw [if_pos h]
  · rfl

theorem State.epochCounted_active : s.epochCounted.ctl.standing = .active ↔ s.ctl.standing = .active := by
  have counted : ((s.timeSecond.openEpoch s.presentDrive).countAtEpoch s.comingCount s.tick).ctl.standing = .active ↔
      (s.timeSecond.openEpoch s.presentDrive).ctl.standing = .active := by
    unfold State.countAtEpoch
    split
    · split
      · exact State.endRange_active _
      · simp
    next unset =>
      have unset' : (s.timeSecond.openEpoch s.presentDrive).time.n = none := by simpa using State.comingCount_none.mp unset
      split
      · split
        · exact ((State.Moves.refl _).setTime unset' _ _).active_iff
        · rfl
      · rfl
  simpa [State.epochCounted] using counted

/-- ACTIVE is entered at a drive instant, and left there, at an oscillator loss or at a reset, only (R118). -/
theorem Instr.effect_active {c : Instr} (due : Instr.due c s = true) (drive : ∀ now, c ≠ .driveInstant now)
    (reset : ∀ now, c ≠ .reset now) (loss : ∀ now, c ≠ .oscillatorLoss now) :
    (Instr.effect c (s.at c.now)).ctl.standing = .active ↔ s.ctl.standing = .active := by
  cases turns : Instr.turns c
  · obtain quiet | ⟨-, moves⟩ := Instr.effect_moves due turns
    · rw [show (Instr.effect c (s.at c.now)).ctl.standing = s.ctl.standing from congrArg (·.2.1) quiet]
    · exact moves.active_iff
  · cases c <;> try cases turns
    case reset.refl now => exact absurd rfl (reset now)
    case oscillatorLoss.refl now => exact absurd rfl (loss now)
    case driveInstant.refl now => exact absurd rfl (drive now)
    case loadCompletion.refl now =>
      suffices h : ∀ u : State, u.surveyAtLoad.ctl.standing = .active ↔ u.ctl.standing = .active by
        simpa [Instr.effect, State.completeEffect, Instr.now] using h (s.at now).takeParams.offsetAtLoad.raiseConfig
      intro u
      by_cases loading : u.ctl.standing = .loading
      · rw [State.surveyAtLoad_loading loading]
        simp [State.enterSurvey, State.enterWatch, loading]
      · rw [State.surveyAtLoad_other loading]
    case oscMonitorUp.refl now =>
      simp only [Instr.effect, State.monitorUpEffect, State.standingAtUp]
      repeat' split
      all_goals simp_all [State.startFilter, State.enterSurvey, State.enterWatch, State.enterQuiet]
    case epoch.refl now =>
      exact (State.Moves.afterCount _).active_iff.trans State.epochCounted_active
    case withdraw.refl now =>
      simp only [Instr.effect, State.withdrawEffect]
      split <;> simp_all [State.enterQuiet]
    case rejoin.refl now =>
      simp only [Instr.effect, State.rejoinEffect]
      split <;> simp_all [State.enterSurvey, State.enterWatch]
    case selftest.refl now =>
      simp only [Instr.effect, State.selftestEffect]
      split <;> simp [State.armTest]

/-! ## The count while ACTIVE -/

theorem committedLeap_eq_some {entries : List Entry} {e : Entry} (h : committedLeap entries = some e) :
    e ∈ entries ∧ e.committed = true := by
  unfold committedLeap at h
  exact ⟨List.mem_of_find?_eq_some h, (by simpa using List.find?_some h : e.committed = true ∧ _).1⟩

/-- The per-second advance: by 1, by none at an insertion, or by 2 at a committed deletion (R44, R46). -/
theorem advanceOf_cases (n : Int) (inserted : Bool) (entries : List Entry) :
    (advanceOf n inserted entries).1 = n ∨ (advanceOf n inserted entries).1 = n + 1 ∨
      ((advanceOf n inserted entries).1 = n + 2 ∧
        ∃ e ∈ entries, e.committed = true ∧ e.kind = .leapDelete ∧ e.instant = n + 2) := by
  unfold advanceOf
  split
  next e found =>
    obtain ⟨mem, committed⟩ := committedLeap_eq_some found
    split
    · exact .inl rfl
    · split
      next deletes => exact .inr (.inr ⟨rfl, e, mem, committed, deletes.1, deletes.2.symm⟩)
      · exact .inr (.inl rfl)
  · exact .inr (.inl rfl)

/-- While ACTIVE no re-set is taken at an epoch, so that N is what the advance makes it. -/
theorem State.epochEffect_n_of_active (active : s.ctl.standing = .active) : s.epochEffect.time.n = s.epochCounted.time.n := by
  rw [State.epochEffect_eq, State.epochReset, State.takePendingReset_active (State.epochCounted_active.mpr active)]
  simp

theorem State.epochCounted_n {n : Int} (set : s.time.n = some n) :
    s.epochCounted.time.n = if s.time.rangeEnding then none
      else some (if Config.lastCount < (advanceOf n s.secondInserted s.schedule).1 then n
        else (advanceOf n s.secondInserted s.schedule).1) := by
  have coming : s.comingCount = some (advanceOf n s.secondInserted s.schedule) := by simp [State.comingCount, set]
  unfold State.epochCounted
  rw [coming]
  obtain ⟨n', step⟩ := advanceOf n s.secondInserted s.schedule
  simp only [State.countAtEpoch]
  cases ending : s.time.rangeEnding <;> simp [ending, set]

/-- What the epoch of an ACTIVE keyer makes of N (R44, R49, R52). -/
theorem State.epochEffect_count_of_active {n : Int} (active : s.ctl.standing = .active) (set : s.time.n = some n) :
    s.epochEffect.time.n = some n ∨ s.epochEffect.time.n = some (n + 1) ∨
      (s.epochEffect.time.n = some (n + 2) ∧ ∃ e ∈ s.schedule, e.committed = true ∧ e.kind = .leapDelete ∧ e.instant = n + 2) ∨
      (s.epochEffect.time.n = none ∧ s.time.rangeEnding = true) := by
  rw [State.epochEffect_n_of_active active, State.epochCounted_n set]
  split
  next ending => exact .inr (.inr (.inr ⟨rfl, ending⟩))
  · split
    · exact .inl rfl
    · obtain same | one | ⟨two, deletes⟩ := advanceOf_cases n s.secondInserted s.schedule
      · exact .inl (congrArg some same)
      · exact .inr (.inl (congrArg some one))
      · exact .inr (.inr (.inl ⟨congrArg some two, deletes⟩))

/-- While ACTIVE no command but the epoch moves N, other than by losing it. -/
theorem Instr.effect_n_of_active {c : Instr} (due : Instr.due c s = true) (active : s.ctl.standing = .active)
    (set : s.time.n.isSome = true) (epoch : ∀ now, c ≠ .epoch now) (reset : ∀ now, c ≠ .reset now)
    (loss : ∀ now, c ≠ .oscillatorLoss now) : (Instr.effect c (s.at c.now)).time.n = s.time.n := by
  cases turns : Instr.turns c
  · obtain quiet | ⟨-, moves⟩ := Instr.effect_moves due turns
    · exact congrArg (·.2.2.1) quiet
    · exact (moves.held active set).1
  · cases c <;> try cases turns
    case reset.refl now => exact absurd rfl (reset now)
    case oscillatorLoss.refl now => exact absurd rfl (loss now)
    case epoch.refl now => exact absurd rfl (epoch now)
    all_goals simp [Instr.effect]

end Sys2Proof.Machine

namespace Sys2Proof.Proofs

open Sys2Proof.Machine

/-- Settles O58: the commands outside the drive instant, the epoch and a few more move the standing and the drive by one relation that
keeps the invariant, and each of those few keeps it by its own cases. -/
theorem everyStepKeepsTheKeying : Obligations.EveryStepKeepsTheKeying := by
  intro s t safe taken
  refine step_keeps (fun s rest safe => safe.of_stand rfl) ?_ safe taken
  intro c s t safe answered
  obtain ⟨due, rfl⟩ | rfl := exec_cases answered
  · exact safe.effect due
  · exact safe

/-- Settles O4: no command but a drive instant, a loss and a reset changes whether the standing is ACTIVE. -/
theorem activeChangesOnlyAtDriveInstants : Obligations.ActiveChangesOnlyAtDriveInstants := by
  intro c s t drive answered
  obtain ⟨due, rfl⟩ | rfl := exec_cases answered
  case inr => exact ⟨id, .inl⟩
  by_cases reset : ∃ now, c = .reset now
  · obtain ⟨now, rfl⟩ := reset
    exact ⟨nofun, fun _ => .inr (.inr ⟨now, rfl⟩)⟩
  by_cases loss : ∃ now, c = .oscillatorLoss now
  · obtain ⟨now, rfl⟩ := loss
    exact ⟨nofun, fun _ => .inr (.inl ⟨now, rfl⟩)⟩
  have same := Instr.effect_active due drive (not_exists.mp reset) (not_exists.mp loss)
  exact ⟨same.mp, fun active => .inl (same.mpr active)⟩

/-- Settles O5: while ACTIVE only the epoch's advance moves N, and a reset and a loss lose it. -/
theorem countNeverJumpsWhileActive : Obligations.CountNeverJumpsWhileActive := by
  intro c s t n active set answered
  obtain ⟨due, rfl⟩ | rfl := exec_cases answered
  case inr => exact .inl set
  by_cases reset : ∃ now, c = .reset now
  · obtain ⟨now, rfl⟩ := reset
    exact .inr (.inr ⟨rfl, .inr ⟨now, rfl⟩⟩)
  by_cases loss : ∃ now, c = .oscillatorLoss now
  · obtain ⟨now, rfl⟩ := loss
    exact .inr (.inr ⟨rfl, .inl ⟨now, rfl⟩⟩)
  by_cases epoch : ∃ now, c = .epoch now
  · obtain ⟨now, rfl⟩ := epoch
    obtain same | one | two | lost := State.epochEffect_count_of_active (s := s.at now) active set
    · exact .inl same
    · exact .inr (.inl ⟨⟨now, rfl⟩, .inl one⟩)
    · exact .inr (.inl ⟨⟨now, rfl⟩, .inr (.inl two)⟩)
    · exact .inr (.inl ⟨⟨now, rfl⟩, .inr (.inr lost)⟩)
  · exact .inl ((Instr.effect_n_of_active due active (by simp [set]) (not_exists.mp epoch) (not_exists.mp reset)
      (not_exists.mp loss)).trans set)

end Sys2Proof.Proofs
end

section
/-!
PROOFS. The Change Schedule through every command (R60 to R65): what keeps a list of entries, what an offer does to it, and what follows
for the operations that change the list or N.
-/

namespace Sys2Proof.Machine

/-! ## Lists of entries -/

/-- What a list of entries keeps, whatever N is (R60, R61). -/
structure Listed (l : List Entry) : Prop where
  size : l.length ≤ 8
  order : l.Pairwise (fun a b => a.before b = true)
  entries : ∀ e ∈ l, EntrySafe e

theorem Entry.before_iff {a b : Entry} :
    a.before b = true ↔ a.instant < b.instant ∨ (a.instant = b.instant ∧ a.kind.isLeap = true ∧ b.kind.isLeap = false) := by
  simp [Entry.before, and_assoc]

theorem Entry.before_trans {a b c : Entry} (h : a.before b = true) (h' : b.before c = true) : a.before c = true := by
  rw [Entry.before_iff] at *
  obtain earlier | ⟨same, leap, offset⟩ := h <;> obtain earlier' | ⟨same', leap', offset'⟩ := h'
  · exact .inl (by omega)
  · exact .inl (by omega)
  · exact .inl (by omega)
  · simp [offset] at leap'

namespace Listed

variable {l : List Entry}

theorem nil : Listed [] := ⟨by simp, .nil, by simp⟩

theorem sublist {m : List Entry} (h : Listed l) (sub : m.Sublist l) : Listed m :=
  ⟨sub.length_le.trans h.size, h.order.sublist sub, fun e mem => h.entries e (sub.subset mem)⟩

theorem filter (h : Listed l) (p : Entry → Bool) : Listed (l.filter p) := h.sublist List.filter_sublist

/-- Entries that keep their instants and families keep their places. -/
theorem map (h : Listed l) (f : Entry → Entry) (place : ∀ e ∈ l, (f e).instant = e.instant ∧ (f e).kind.isLeap = e.kind.isLeap)
    (entries : ∀ e ∈ l, EntrySafe (f e)) : Listed (l.map f) where
  size := by simpa using h.size
  order := by
    refine List.pairwise_map.mpr (h.order.imp_of_mem fun ma mb before => ?_)
    rw [Entry.before_iff] at *
    rwa [(place _ ma).1, (place _ mb).1, (place _ ma).2, (place _ mb).2]
  entries e mem := by
    obtain ⟨x, mx, rfl⟩ := List.mem_map.mp mem
    exact entries x mx

/-- An entry that stands beside no other of its instant and family joins at its place (R60, R65). -/
theorem insertEntry_order {e : Entry} (h : l.Pairwise (fun a b => a.before b = true))
    (apart : ∀ x ∈ l, x.before e = true ∨ e.before x = true) : (insertEntry e l).Pairwise (fun a b => a.before b = true) := by
  induction l with
  | nil => simp [insertEntry]
  | cons x rest ih =>
    obtain ⟨first, later⟩ := List.pairwise_cons.mp h
    unfold insertEntry
    split
    next before =>
      refine List.pairwise_cons.mpr ⟨fun y mem => ?_, h⟩
      obtain rfl | mem := List.mem_cons.mp mem
      · exact before
      · exact Entry.before_trans before (first y mem)
    next after =>
      refine List.pairwise_cons.mpr ⟨fun y mem => ?_, ih later fun y mem => apart y (List.mem_cons_of_mem x mem)⟩
      obtain rfl | mem := List.mem_cons.mp ((insertEntry_perm e rest).mem_iff.mp mem)
      · exact (apart x List.mem_cons_self).resolve_right after
      · exact first y mem

theorem insert {e : Entry} (h : Listed l) (room : l.length < 8) (safe : EntrySafe e)
    (apart : ∀ x ∈ l, x.instant = e.instant → x.kind.isLeap ≠ e.kind.isLeap) : Listed (insertEntry e l) where
  size := by rw [insertEntry_length]; exact room
  order := by
    refine insertEntry_order h.order fun x mem => ?_
    rw [Entry.before_iff, Entry.before_iff]
    have apart := apart x mem
    rcases lt_trichotomy x.instant e.instant with earlier | same | later
    · exact .inl (.inl earlier)
    · cases leap : x.kind.isLeap <;> cases leap' : e.kind.isLeap <;> simp_all
    · exact .inr (.inl later)
  entries x mem := by
    obtain rfl | mem := List.mem_cons.mp ((insertEntry_perm e l).mem_iff.mp mem)
    · exact safe
    · exact h.entries x mem

end Listed

theorem mem_insertEntry {e x : Entry} {l : List Entry} : x ∈ insertEntry e l ↔ x = e ∨ x ∈ l := by
  rw [(insertEntry_perm e l).mem_iff, List.mem_cons]

/-! ## The invariant, taken apart -/

variable {s t : State}

theorem ScheduleSafe.listed (safe : ScheduleSafe s) : Listed s.schedule := ⟨safe.size, safe.order, safe.entries⟩

theorem Listed.scheduleSafe (h : Listed s.schedule) (future : ∀ n ∈ s.time.n, ∀ e ∈ s.schedule, n < e.instant)
    (unset : s.time.n = none → s.schedule = []) : ScheduleSafe s :=
  ⟨h.size, h.order, h.entries, future, unset⟩

theorem ScheduleSafe.of_empty (h : s.schedule = []) : ScheduleSafe s :=
  Listed.scheduleSafe (h ▸ Listed.nil) (by simp [h]) fun _ => h

namespace ScheduleSafe

theorem quiet (safe : ScheduleSafe s) (same : (t.schedule, t.time.n) = (s.schedule, s.time.n)) : ScheduleSafe t := by
  obtain ⟨schedule, n⟩ := Prod.mk.inj same
  obtain ⟨size, order, entries, future, unset⟩ := safe
  constructor <;> simpa only [schedule, n]

/-- A list that leaves out entries. -/
theorem filtered (safe : ScheduleSafe s) {l : List Entry} (sub : l.Sublist s.schedule) : ScheduleSafe (s.setSchedule l) := by
  refine Listed.scheduleSafe (by simpa using safe.listed.sublist sub) ?_ ?_
  · simpa using fun n known e mem => safe.future n known e (sub.subset mem)
  · intro unset
    have empty := safe.unset (by simpa using unset)
    simpa [empty] using sub

/-- A list whose entries keep their places. -/
theorem mapped (safe : ScheduleSafe s) (f : Entry → Entry)
    (place : ∀ e ∈ s.schedule, (f e).instant = e.instant ∧ (f e).kind.isLeap = e.kind.isLeap)
    (entries : ∀ e ∈ s.schedule, EntrySafe (f e)) : ScheduleSafe (s.setSchedule (s.schedule.map f)) := by
  refine Listed.scheduleSafe (by simpa using safe.listed.map f place entries) ?_ ?_
  · simpa using fun n known e mem => (place e mem).1 ▸ safe.future n known e mem
  · intro unset
    have empty := safe.unset (by simpa using unset)
    simp [empty]

end ScheduleSafe

/-! ## Offers -/

/-- What every offer that the units make has: a whole minute, and no new offset with a leap kind (R62). -/
structure OfferSafe (o : Offer) : Prop where
  minute : o.instant % 60 = 0
  leap : o.kind.isLeap = true → o.newOffset = none

/-- A leap offer whose instant has passed its test makes an entry (R62). -/
theorem OfferSafe.leapEntry {o : Offer} (h : OfferSafe o) (leap : o.kind.isLeap = true) (ok : leapInstantOk o.instant = true) :
    EntrySafe o.entry where
  minute := h.minute
  day _ := (by simpa [leapInstantOk] using ok : secondOfDay o.instant = 0 ∧ _).1
  offset offset := by
    have offset' : o.kind = .offset := offset
    simp [offset', EntryKind.isLeap] at leap
  leap _ := h.leap leap

theorem EntryKind.not_leap {k : EntryKind} : k.isLeap = false ↔ k = .offset := by cases k <;> simp [EntryKind.isLeap]

/-- An offset offer whose offset has passed its test makes an entry (R62). -/
theorem OfferSafe.offsetEntry {o : Offer} {q : Int} (h : OfferSafe o) (offset : o.kind.isLeap = false) (new : o.newOffset = some q)
    (low : -48 ≤ q) (high : q ≤ 56) : EntrySafe o.entry where
  minute := h.minute
  day leap := absurd leap (by simp [Offer.entry, offset])
  offset _ := ⟨q, new, low, high⟩
  leap leap := absurd leap (by simp [Offer.entry, offset])

theorem mergeEntry_place (standard : Int) (o : Offer) (e : Entry) :
    (mergeEntry standard o e).instant = e.instant ∧ (mergeEntry standard o e).kind = e.kind := by
  unfold mergeEntry
  repeat' split
  all_goals exact ⟨rfl, rfl⟩

/-- A merge leaves one of the two offsets (R63). -/
theorem mergeEntry_newOffset (standard : Int) (o : Offer) (e : Entry) :
    (mergeEntry standard o e).newOffset = e.newOffset ∨ (mergeEntry standard o e).newOffset = o.newOffset := by
  unfold mergeEntry
  repeat' split
  case isFalse.isTrue => exact .inr rfl
  all_goals simp_all
  next either => exact either.elim (fun same => .inr same.symm) (fun same => .inl same.symm)

theorem EntrySafe.merge {standard : Int} {o : Offer} {e : Entry} (h : EntrySafe e) (offered : EntrySafe o.entry) (same : e.kind = o.kind) :
    EntrySafe (mergeEntry standard o e) := by
  obtain ⟨instant, kind⟩ := mergeEntry_place standard o e
  constructor
  · rw [instant]; exact h.minute
  · rw [instant, kind]; exact h.day
  · rw [kind]
    obtain new | new := mergeEntry_newOffset standard o e <;> rw [new]
    · exact h.offset
    · exact fun offset => offered.offset (same.symm.trans offset)
  · rw [kind]
    obtain new | new := mergeEntry_newOffset standard o e <;> rw [new]
    · exact h.leap
    · exact fun leap => offered.leap (by rw [same] at leap; exact leap)

namespace ScheduleSafe

theorem schedFull (safe : ScheduleSafe s) : ScheduleSafe s.schedFull := safe.quiet (by simp)

/-- An entry joins a list that is not full, beside none of its instant and family. -/
theorem inserted (safe : ScheduleSafe s) {e : Entry} {l : List Entry} {n : Int} (sub : l.Sublist s.schedule) (room : l.length < 8)
    (set : s.time.n = some n) (later : n < e.instant) (entry : EntrySafe e)
    (apart : ∀ x ∈ s.schedule, x.instant = e.instant → x.kind.isLeap ≠ e.kind.isLeap) : ScheduleSafe (s.setSchedule (insertEntry e l)) := by
  refine Listed.scheduleSafe ?_ ?_ (by simp [set])
  · simpa using (safe.listed.sublist sub).insert room entry fun x mem => apart x (sub.subset mem)
  · simp only [State.setSchedule_schedule, State.setSchedule_frame, set, Option.mem_some_iff]
    rintro _ rfl x mem
    obtain rfl | mem := mem_insertEntry.mp mem
    · exact later
    · exact safe.future n set x (sub.subset mem)

theorem insertOffer (safe : ScheduleSafe s) {o : Offer} {n : Int} (set : s.time.n = some n) (later : n < o.instant)
    (entry : EntrySafe o.entry) (apart : ∀ x ∈ s.schedule, x.instant = o.instant → x.kind.isLeap ≠ o.kind.isLeap) :
    ScheduleSafe (s.insertOffer o) := by
  unfold State.insertOffer
  split
  next room => exact safe.inserted (List.Sublist.refl _) room set later entry apart
  · split
    next last found =>
      split
      · have room : s.schedule.dropLast.length < 8 := by
          have held : s.schedule ≠ [] := by rintro empty; simp [empty] at found
          have positive := List.length_pos_iff.mpr held
          have size := safe.size
          simp only [List.length_dropLast]
          omega
        exact (safe.inserted (List.dropLast_sublist _) room set later entry apart).schedFull
      · exact safe.schedFull
    · exact safe.schedFull

theorem placeOffer (safe : ScheduleSafe s) {o : Offer} {n : Int} (set : s.time.n = some n) (later : n < o.instant)
    (entry : EntrySafe o.entry) : ScheduleSafe (s.placeOffer o) := by
  unfold State.placeOffer
  split
  · refine safe.mapped _ (fun e _ => ?_) (fun e mem => ?_)
    · split
      next => exact ⟨(mergeEntry_place _ o e).1, congrArg _ (mergeEntry_place _ o e).2⟩
      · exact ⟨rfl, rfl⟩
    · split
      next same => exact (safe.entries e mem).merge entry same.2
      · exact safe.entries e mem
  next alone =>
    have apart_kind (x : Entry) (mem : x ∈ s.schedule) (at_instant : x.instant = o.instant) : x.kind ≠ o.kind := fun kind =>
      alone (List.any_eq_true.mpr ⟨x, mem, by simp [at_instant, kind]⟩)
    split
    next leap =>
      split
      next e found =>
        split
        · exact safe.quiet (by simp)
        · refine safe.mapped _ (fun x _ => ?_) (fun x mem => ?_)
          · split
            next same => exact ⟨same.1.symm, leap.trans same.2.symm⟩
            · exact ⟨rfl, rfl⟩
          · split
            · exact entry
            · exact safe.entries x mem
      next none =>
        refine safe.insertOffer set later entry fun x mem at_instant => ?_
        have other := List.find?_eq_none.mp none x mem
        simp only [at_instant, beq_self_eq_true, Bool.true_and] at other
        rw [leap]
        exact other
    next offset =>
      have offset' : o.kind = .offset := EntryKind.not_leap.mp (by simpa using offset)
      refine safe.insertOffer set later entry fun x mem at_instant family => ?_
      rw [offset'] at family
      exact apart_kind x mem at_instant ((EntryKind.not_leap.mp family).trans offset'.symm)

theorem offer (safe : ScheduleSafe s) {o : Offer} (ok : OfferSafe o) : ScheduleSafe (s.offer o) := by
  have refused : ScheduleSafe (s.refuseOffer o) := safe.quiet (by simp)
  unfold State.offer
  split
  · exact safe
  next n set =>
    split
    · exact safe
    · split
      · exact refused
      next within =>
        have later : n < o.instant := by omega
        split
        next leap =>
          split
          next day => exact safe.placeOffer set later (ok.leapEntry leap day)
          · exact refused
        next offset =>
          split
          next q new =>
            split
            next range => exact safe.placeOffer set later (ok.offsetEntry (by simpa using offset) new range.1 range.2)
            · exact safe
          · exact safe

/-! ## The rule expander -/

theorem ruleOffers_safe {zone : Zone} {y : Int} {o : Offer} (mem : o ∈ ruleOffers zone y) : OfferSafe o := by
  have minute (rule : OffsetRule) (y : Int) : ruleInstant rule y % 60 = 0 := by
    unfold ruleInstant
    dsimp only
    omega
  simp only [ruleOffers, List.map_cons, List.map_nil, List.mem_cons, List.not_mem_nil, or_false] at mem
  obtain rfl | rfl | rfl | rfl := mem
  all_goals exact ⟨minute _ _, nofun⟩

theorem mem_insertOfferByInstant {o x : Offer} {l : List Offer} : x ∈ insertOfferByInstant o l ↔ x = o ∨ x ∈ l := by
  induction l with
  | nil => simp [insertOfferByInstant]
  | cons y rest ih =>
    unfold insertOfferByInstant
    split
    · simp
    · simp only [List.mem_cons, ih]
      tauto

theorem mem_foldr_insertOffer {x : Offer} {l : List Offer} : x ∈ l.foldr insertOfferByInstant [] ↔ x ∈ l := by
  induction l with
  | nil => simp
  | cons y rest ih => simp [mem_insertOfferByInstant, ih]

theorem offers (safe : ScheduleSafe s) (l : List Offer) (ok : ∀ o ∈ l, OfferSafe o) : ScheduleSafe (l.foldl (fun acc o => acc.offer o) s) := by
  induction l generalizing s with
  | nil => exact safe
  | cons o rest ih =>
    exact ih (safe.offer (ok o List.mem_cons_self)) fun x mem => ok x (List.mem_cons_of_mem o mem)

theorem expandRules (safe : ScheduleSafe s) : ScheduleSafe s.expandRules := by
  unfold State.expandRules
  split
  · exact safe.offers _ fun o mem => ruleOffers_safe (List.mem_filter.mp (mem_foldr_insertOffer.mp mem)).1
  · exact safe

/-! ## What leaves the list, and commitment -/

theorem removeLineEntries (safe : ScheduleSafe s) : ScheduleSafe s.removeLineEntries := safe.filtered List.filter_sublist

theorem cancelRefLeaps (safe : ScheduleSafe s) : ScheduleSafe s.cancelRefLeaps := safe.filtered List.filter_sublist

theorem commitLeap (safe : ScheduleSafe s) (f : Frame) : ScheduleSafe (s.commitLeap f) := by
  refine safe.mapped _ (fun e _ => ?_) (fun e mem => ?_) <;> split
  · exact ⟨rfl, rfl⟩
  · exact ⟨rfl, rfl⟩
  · obtain ⟨minute, day, offset, leap⟩ := safe.entries e mem
    exact ⟨minute, day, offset, leap⟩
  · exact safe.entries e mem

end ScheduleSafe

end Sys2Proof.Machine
end

section
/-!
PROOFS. The Change Schedule through the commands: the operations that change the list or N keep it, and at an epoch, where N is on its way,
the retirement makes it good again (R72, R74).
-/

namespace Sys2Proof.Machine

variable {s t : State}

namespace ScheduleSafe

/-! ## The time scale -/

theorem classChanged (safe : ScheduleSafe s) (before : TimeClass) : ScheduleSafe (s.classChanged before) := by
  unfold State.classChanged
  dsimp only
  split
  · split
    · exact safe.removeLineEntries.quiet rfl
    · exact safe.removeLineEntries
  · split
    · exact safe.quiet rfl
    · exact safe

theorem setTime (safe : ScheduleSafe s) (unset : s.time.n = none) (n : Int) (origin : Origin) : ScheduleSafe (s.setTime n origin) := by
  have set {u : State} (empty : u.schedule = []) : ScheduleSafe (u.setN n).expandRules.catchUp :=
    (expandRules (s := u.setN n) (of_empty (by simpa using empty))).quiet (by simp)
  unfold State.setTime
  exact classChanged (set (by exact safe.unset unset)) _

theorem resetApplied (safe : ScheduleSafe s) : ScheduleSafe s.resetApplied := safe.quiet (by simp)

end ScheduleSafe

/-! ## A list overtaken by N -/

/-- The schedule while N is on its way at an epoch: no entry stands before N, but one may stand at it until it retires (R72). -/
structure ScheduleReached (s : State) : Prop where
  listed : Listed s.schedule
  reached : ∀ n ∈ s.time.n, ∀ e ∈ s.schedule, n ≤ e.instant
  unset : s.time.n = none → s.schedule = []

theorem ScheduleSafe.toReached (safe : ScheduleSafe s) : ScheduleReached s :=
  ⟨safe.listed, fun n known e mem => (safe.future n known e mem).le, safe.unset⟩

theorem ScheduleReached.quiet (reached : ScheduleReached s) (same : (t.schedule, t.time.n) = (s.schedule, s.time.n)) : ScheduleReached t := by
  obtain ⟨schedule, n⟩ := Prod.mk.inj same
  obtain ⟨listed, reached, unset⟩ := reached
  constructor <;> simpa only [schedule, n]

theorem Listed.pruned {l : List Entry} (h : Listed l) (n : Int) :
    Listed ((l.filter (fun e => decide (n < e.instant))).map (fun e => { e with committed := false })) := by
  refine (h.filter _).map _ (fun _ _ => ⟨rfl, rfl⟩) fun e mem => ?_
  obtain ⟨minute, day, offset, leap⟩ := (h.filter _).entries e mem
  exact ⟨minute, day, offset, leap⟩

/-- A re-set of N leaves the entries later than the new N (R75). -/
theorem State.resetSchedule_later (n : Int) (s : State) {e : Entry} (mem : e ∈ (s.resetSchedule n).schedule) : n < e.instant := by
  have pruned : ∀ e ∈ (s.pruneForReset n).schedule, n < e.instant := by
    simp only [State.pruneForReset, State.setSchedule_schedule, List.mem_map, List.mem_filter, decide_eq_true_eq]
    rintro _ ⟨e, ⟨-, later⟩, rfl⟩
    exact later
  unfold State.resetSchedule at mem
  dsimp only at mem
  split at mem
  · rw [State.removeLineEntries, State.setSchedule_schedule] at mem
    exact pruned e (List.mem_filter.mp mem).1
  · exact pruned e mem

theorem Listed.resetSchedule (h : Listed s.schedule) (n : Int) : Listed (s.resetSchedule n).schedule := by
  have pruned : Listed (s.pruneForReset n).schedule := by
    rw [State.pruneForReset, State.setSchedule_schedule]
    exact h.pruned n
  unfold State.resetSchedule
  dsimp only
  split
  · rw [State.removeLineEntries, State.setSchedule_schedule]
    exact pruned.filter _
  · exact pruned

/-- A count re-set that is taken leaves the schedule behind the new N (R52, R75). -/
theorem ScheduleReached.shiftCount (reached : ScheduleReached s) (difference : Int) (taken : (s.shiftsTo difference).isSome = true) :
    ScheduleSafe (s.shiftCount difference) := by
  unfold State.shiftCount
  split
  next n _ =>
    refine ScheduleSafe.quiet (ScheduleSafe.expandRules (Listed.scheduleSafe ?_ ?_ (by simp))) rfl
    · simpa using Listed.resetSchedule (s := { s with time := { s.time with leap60 := false } }) reached.listed n
    · simp only [State.setN_frame, State.setN_n, Option.mem_some_iff]
      rintro _ rfl e mem
      exact State.resetSchedule_later _ _ mem
  next refused => simp [refused] at taken

namespace ScheduleSafe

theorem shiftCount (safe : ScheduleSafe s) (difference : Int) : ScheduleSafe (s.shiftCount difference) := by
  cases taken : s.shiftsTo difference
  case none =>
    unfold State.shiftCount
    rw [taken]
    exact safe
  case some => exact safe.toReached.shiftCount difference (by simp [taken])

theorem applyCountReset (safe : ScheduleSafe s) (difference : Int) : ScheduleSafe (s.applyCountReset difference) := by
  unfold State.applyCountReset
  split
  · exact safe
  · exact (safe.shiftCount difference).resetApplied

theorem handWhileUnset (safe : ScheduleSafe s) (unset : s.time.n = none) (count : HandedCount) :
    ScheduleSafe (s.handWhileUnset count).1 := by
  unfold State.handWhileUnset
  repeat' split
  · exact safe.quiet rfl
  · exact safe
  · exact safe.setTime unset _ _
  · exact safe

end ScheduleSafe

/-! ## The epoch -/

theorem State.retire_schedule (n : Int) (s : State) : (s.retire n).schedule = s.schedule.filter (fun e => decide (e.instant ≠ n)) := by
  unfold State.retire
  dsimp only
  repeat' split
  all_goals exact State.setSchedule_schedule _ _

/-- Retirement at N leaves a list whose entries are all later than N (R72). -/
theorem ScheduleReached.retire {n : Int} (reached : ScheduleReached s) (set : s.time.n = some n) : ScheduleSafe (s.retire n) := by
  refine Listed.scheduleSafe ?_ ?_ (by simp [set])
  · rw [State.retire_schedule]
    exact reached.listed.filter _
  · rw [State.retire_schedule]
    simp only [State.retire_frame, set, Option.mem_some_iff]
    rintro _ rfl e mem
    obtain ⟨mem, other⟩ := List.mem_filter.mp mem
    exact lt_of_le_of_ne (reached.reached _ set e mem) fun same => of_decide_eq_true other same.symm

theorem ScheduleReached.entriesAtEpoch (reached : ScheduleReached s) : ScheduleSafe s.entriesAtEpoch := by
  unfold State.entriesAtEpoch
  split
  next n set =>
    dsimp only
    split
    · exact (reached.retire set).expandRules
    · exact reached.retire set
  next unset => exact .of_empty (reached.unset unset)

theorem ScheduleReached.takePendingReset (reached : ScheduleReached s) : ScheduleReached s.takePendingReset.1 := by
  have shifted {u : State} (h : ScheduleReached u) (d : Int) : ScheduleReached (u.shiftAtEpoch d) := by
    unfold State.shiftAtEpoch
    split
    next n taken =>
      refine (ScheduleReached.shiftCount ?_ d ?_).toReached
      · exact h.quiet rfl
      · exact Option.isSome_iff_exists.mpr ⟨n, taken⟩
    · exact h
  unfold State.takePendingReset
  split
  next r _ =>
    split
    · exact reached
    · have dropped : ScheduleReached s.dropPendingReset := reached.quiet rfl
      dsimp only
      split <;> split
      · exact (shifted dropped _).quiet rfl
      · exact dropped.quiet rfl
      · exact shifted dropped _
      · exact dropped
  · exact reached

/-- The per-second advance passes no entry: a deletion's two seconds hold no whole minute but the one it comes to (R44, R46). -/
theorem ScheduleSafe.advanceTo (safe : ScheduleSafe s) {n : Int} (set : s.time.n = some n) (inserted : Bool) (step : LeapStep) :
    ScheduleReached (s.advanceTo (advanceOf n inserted s.schedule).1 step) := by
  refine ⟨by simpa using safe.listed, ?_, by simp⟩
  simp only [State.advanceTo_n, State.advanceTo_frame, Option.mem_some_iff]
  rintro _ rfl e mem
  have later := safe.future n set e mem
  split
  · simpa [set] using later.le
  · obtain same | one | ⟨two, x, mx, -, -, instant⟩ := advanceOf_cases n inserted s.schedule
    · omega
    · omega
    · have minute := (safe.entries e mem).minute
      have minute' := (safe.entries x mx).minute
      omega

theorem ScheduleSafe.countAtEpoch (safe : ScheduleSafe s) {u : State} (same : (u.schedule, u.time.n) = (s.schedule, s.time.n)) (e : Int) :
    ScheduleReached (u.countAtEpoch s.comingCount e) := by
  have safe' : ScheduleSafe u := safe.quiet same
  obtain ⟨schedule, n⟩ := Prod.mk.inj same
  unfold State.countAtEpoch
  split
  next n' step coming =>
    split
    · exact (ScheduleSafe.of_empty (by unfold State.endRange; dsimp only; split <;> simp)).toReached
    · obtain ⟨m, set, rfl⟩ : ∃ m, s.time.n = some m ∧ n' = (advanceOf m s.secondInserted u.schedule).1 := by
        obtain ⟨m, set, advanced⟩ := Option.map_eq_some_iff.mp coming
        exact ⟨m, set, by rw [schedule, advanced]⟩
      exact safe'.advanceTo (n.trans set) _ _
  next unset =>
    have unset' : u.time.n = none := n.trans (State.comingCount_none.mp unset)
    split
    · split
      · exact (safe'.setTime unset' _ _).toReached
      · exact safe'.toReached
    · exact safe'.toReached

theorem ScheduleSafe.epochEffect (safe : ScheduleSafe s) : ScheduleSafe s.epochEffect := by
  have counted : ScheduleReached s.epochCounted :=
    (safe.countAtEpoch (u := s.timeSecond.openEpoch s.presentDrive) (by simp) s.tick).quiet (by simp [State.epochCounted])
  have retired : ScheduleSafe s.epochReset.entriesAtEpoch := counted.takePendingReset.entriesAtEpoch
  rw [State.epochEffect_eq]
  exact retired.quiet (by simp)

/-! ## The Reference Input Unit -/

namespace ScheduleSafe

theorem leftLocked (safe : ScheduleSafe s) (before : TimeClass) : ScheduleSafe (s.leftLocked before) := by
  unfold State.leftLocked
  dsimp only
  split
  · exact classChanged (safe.quiet (by simp)) _
  · exact safe.classChanged _

theorem lockedToAcquire (safe : ScheduleSafe s) : ScheduleSafe s.lockedToAcquire := leftLocked (by exact safe.quiet rfl) _

theorem lockedToHoldover (safe : ScheduleSafe s) : ScheduleSafe s.lockedToHoldover := leftLocked (by exact safe.quiet (by simp)) _

theorem leapOffer (safe : ScheduleSafe s) (record : RefRecord) : ScheduleSafe (s.leapOffer record) := by
  unfold State.leapOffer
  dsimp only
  split
  · split
    · refine safe.offer ⟨?_, fun _ => rfl⟩
      dsimp only
      omega
    · exact safe.quiet (by simp)
  · exact safe

theorem countNone (safe : ScheduleSafe s) (record : RefRecord) : ScheduleSafe (s.countNone record) := by
  unfold State.countNone
  split
  · split
    · exact cancelRefLeaps (by exact safe.quiet rfl)
    · exact safe.quiet rfl
  · split
    · exact safe.quiet rfl
    · exact safe

theorem completeAcquire (safe : ScheduleSafe s) (n : Int) (pe : PulseEpoch) (e : Int) : ScheduleSafe (s.completeAcquire n pe e) := by
  have changed : ScheduleSafe ((({ s with ref := s.ref.enterLocked } : State).setOrigin .ref).classChanged s.cls) :=
    classChanged (by exact safe.quiet rfl) _
  unfold State.completeAcquire
  dsimp only
  split
  · split
    · exact changed.quiet rfl
    · exact applyCountReset (by exact changed.quiet rfl) _
  next unset =>
    have unset' : s.time.n = none := by simpa [State.timeSet] using unset
    split
    · exact handWhileUnset (by exact safe.quiet rfl) (by exact unset') _
    · exact handWhileUnset (by exact safe.quiet rfl) (by exact unset') _

theorem acquirePulse (safe : ScheduleSafe s) (record : RefRecord) (pe : PulseEpoch) : ScheduleSafe (s.acquirePulse record pe) := by
  unfold State.acquirePulse
  dsimp only
  split
  · split
    · split
      · exact (safe.completeAcquire _ _ _).leapOffer _
      · exact leapOffer (by exact safe.quiet rfl) _
    · split
      · exact leapOffer (by exact safe.quiet rfl) _
      · exact leapOffer (by exact safe.quiet rfl) _
  · exact leapOffer (by exact safe.quiet rfl) _

theorem outlierPulse (safe : ScheduleSafe s) : ScheduleSafe s.outlierPulse := by
  unfold State.outlierPulse
  dsimp only
  split
  · exact lockedToAcquire (by exact safe.quiet rfl)
  · exact safe.quiet rfl

theorem conflictPulse (safe : ScheduleSafe s) : ScheduleSafe s.conflictPulse := by
  unfold State.conflictPulse
  dsimp only
  split
  · exact lockedToAcquire (by exact safe.quiet rfl)
  · exact safe.quiet rfl

theorem handlePulse (safe : ScheduleSafe s) (label : PulseLabel) (pe : PulseEpoch) : ScheduleSafe (s.handlePulse label pe) := by
  have good (record : RefRecord) : ScheduleSafe (s.lockedGood record pe) := by
    unfold State.lockedGood
    dsimp only
    repeat' split
    · exact conflictPulse (by exact safe.quiet rfl)
    · exact outlierPulse (by exact safe.quiet rfl)
    · exact leapOffer (countNone (by exact safe.quiet rfl) _) _
  have unlabelled : ScheduleSafe (s.lockedUnlabelled pe) := by
    unfold State.lockedUnlabelled
    dsimp only
    repeat' split
    · exact outlierPulse (by exact safe.quiet rfl)
    · exact safe.quiet rfl
    · exact outlierPulse (by exact safe.quiet rfl)
    · exact safe.quiet rfl
    · exact safe.quiet rfl
  unfold State.handlePulse
  split
  case h_7 => exact safe.acquirePulse _ _
  case h_10 => exact good _
  case h_12 => exact unlabelled
  all_goals exact safe.quiet rfl

theorem secInEffect (safe : ScheduleSafe s) : ScheduleSafe s.secInEffect := by
  unfold State.secInEffect
  dsimp only
  repeat' split
  · exact safe.quiet rfl
  · exact handlePulse (safe.quiet (by simp)) _ _
  · exact safe

theorem windowEffect (safe : ScheduleSafe s) : ScheduleSafe s.windowEffect := by
  unfold State.windowEffect
  dsimp only
  repeat' split
  · exact lockedToHoldover (by exact safe.quiet rfl)
  · exact safe.quiet rfl
  · exact safe.quiet rfl

/-! ## The Line Reader -/

theorem adoptFrame (safe : ScheduleSafe s) (f : LineFrame) : ScheduleSafe (s.adoptFrame f) := by
  have taken (p : PastSecond) (since : Nat) : ScheduleSafe (s.takeAdoption f p since).1 := by
    unfold State.takeAdoption
    dsimp only
    split
    · exact safe
    · split
      · exact applyCountReset (by exact safe.quiet rfl) _
      next unset => exact safe.handWhileUnset (by simpa [State.timeSet] using unset) _
  unfold State.adoptFrame
  dsimp only
  repeat' split
  next p since _ _ => exact (taken p since).quiet rfl
  all_goals exact safe.quiet rfl

/-- The offer of a notice word is at a whole minute, and has a new offset for OFFSET only (R157). -/
theorem offerOfWord_safe {cycleStart : Int} {word : BitVec 32} {o : Offer} (h : offerOfWord cycleStart word = some o) : OfferSafe o := by
  unfold offerOfWord at h
  dsimp only at h
  split at h
  · cases h
  · obtain ⟨kind, -, rfl⟩ := Option.map_eq_some_iff.mp h
    refine ⟨?_, fun leap => ?_⟩
    · dsimp only
      omega
    · cases kind
      · rfl
      · rfl
      · cases leap

theorem noticeFrame (safe : ScheduleSafe s) (f : LineFrame) : ScheduleSafe (s.noticeFrame f) := by
  unfold State.noticeFrame
  dsimp only
  repeat' split
  case h_1 offered => exact offer (by exact safe.quiet rfl) (offerOfWord_safe offered)
  all_goals exact safe.quiet rfl

theorem closeFrame (safe : ScheduleSafe s) (a : Assembly) (falls : List Int) : ScheduleSafe (s.closeFrame a falls) := by
  have delivered (f : LineFrame) {u : State} (safe : ScheduleSafe u) : ScheduleSafe (u.deliverFrame f) := by
    unfold State.deliverFrame
    split
    · exact safe.quiet rfl
    · split
      · exact (safe.adoptFrame f).noticeFrame f
      · exact noticeFrame (safe.quiet (by simp)) f
  unfold State.closeFrame
  dsimp only
  repeat' split
  · exact safe.quiet rfl
  · exact safe.quiet rfl
  · exact safe.quiet rfl
  · exact delivered _ (by exact safe.quiet rfl)

theorem settleNow (safe : ScheduleSafe s) : ScheduleSafe s.settleNow := safe.quiet (by simp)

theorem recogniseMark (safe : ScheduleSafe s) : ScheduleSafe s.recogniseMark := by
  unfold State.recogniseMark
  dsimp only
  split
  · split
    · exact closeFrame (by exact safe.settleNow.quiet rfl) _ _
    · exact safe.settleNow.quiet rfl
    · exact safe.settleNow.quiet rfl
  · exact safe.settleNow

theorem markNow (safe : ScheduleSafe s) : ScheduleSafe s.markNow := by
  unfold State.markNow
  repeat' split
  · exact safe
  · exact safe.recogniseMark
  · exact safe

theorem overlongNow (safe : ScheduleSafe s) : ScheduleSafe s.overlongNow := by
  have marked := safe.markNow
  unfold State.overlongNow
  dsimp only
  repeat' split
  all_goals exact marked.quiet (by simp)

theorem decoderRise (safe : ScheduleSafe s) (rise : Int) : ScheduleSafe (s.decoderRise rise) := by
  unfold State.decoderRise
  split
  · split
    · exact safe.quiet (by simp)
    · exact safe.quiet (by simp)
    · exact safe.quiet (by simp)
    · exact safe.markNow.quiet rfl
    · exact safe.overlongNow.quiet rfl
  · exact safe

theorem releaseNow (safe : ScheduleSafe s) : ScheduleSafe s.releaseNow := by
  unfold State.releaseNow State.loopRelease
  split
  · exact decoderRise (by exact safe.quiet rfl) _
  · exact safe.quiet rfl

end ScheduleSafe

/-! ## The swap, stage by stage -/

/-- The state of a swap once the next frame is built (R88, R90). -/
def State.swapReady (s : State) : State :=
  match s.rebuildStale.frames.next, s.rebuildStale.frames.current with
  | none, some f => s.rebuildStale.buildNext (f.n0 + 60)
  | _, _ => s.rebuildStale

/-- The state of a swap once the frames have moved on (R90, R92). -/
def State.swapMade (s : State) : State :=
  { s.swapReady with
    ctl := { s.swapReady.ctl with copy := s.swapReady.frames.current }
    frames := { s.swapReady.frames with current := s.swapReady.frames.next, next := none } }

/-- The state of a swap once the leap of the new frame is committed (R71). -/
def State.swapCommitted (s : State) : State :=
  match s.swapMade.frames.current with
  | some f => s.swapMade.commitLeap f
  | none => s.swapMade

theorem State.frameSwap_eq (s : State) : s.frameSwap = s.swapCommitted.frameBecameCurrent := rfl

@[simp] theorem State.swapReady_schedule (s : State) : s.swapReady.schedule = s.schedule := by
  unfold State.swapReady
  split <;> simp

@[simp] theorem State.swapReady_time (s : State) : s.swapReady.time = s.time := by
  unfold State.swapReady
  split <;> simp

namespace ScheduleSafe

/-! ## The frames and the load -/

theorem frameSwap (safe : ScheduleSafe s) : ScheduleSafe s.frameSwap := by
  have ready : ScheduleSafe s.swapReady := safe.quiet (by simp)
  have committed : ScheduleSafe s.swapCommitted := by
    unfold State.swapCommitted
    split
    · exact commitLeap (by exact ready.quiet rfl) _
    · exact ready.quiet rfl
  exact committed.quiet rfl

theorem driveEffect (safe : ScheduleSafe s) : ScheduleSafe s.driveEffect := by
  have swapped : ScheduleSafe s.driveSwapped := by
    unfold State.driveSwapped State.swapIf
    split
    · exact safe.frameSwap
    · exact safe
  rw [State.driveEffect_eq]
  exact swapped.quiet (by simp [State.driveTurned])

theorem completeEffect (safe : ScheduleSafe s) : ScheduleSafe s.completeEffect := by
  have offered : ScheduleSafe s.takeParams.offsetAtLoad := by
    have taken : ScheduleSafe s.takeParams := safe.quiet (by simp)
    have caughtUp {u : State} (safe : ScheduleSafe u) : ScheduleSafe u.expandRules.catchUpNow := safe.expandRules.quiet (by simp)
    unfold State.offsetAtLoad
    split
    · exact caughtUp (by exact taken.quiet rfl)
    · exact taken.quiet rfl
  exact offered.quiet (by simp [State.completeEffect])

/-! ## Every command -/

theorem effect {c : Instr} (safe : ScheduleSafe s) : ScheduleSafe (Instr.effect c s) := by
  cases c
  case reset => exact .of_empty rfl
  case oscillatorLoss => exact .of_empty rfl
  case loadCompletion => exact safe.completeEffect
  case epoch => exact safe.epochEffect
  case driveInstant => exact safe.driveEffect
  case reductionRelease => exact safe.releaseNow
  case keyRise => exact decoderRise (by exact safe.quiet rfl) _
  case fallSettled => exact safe.settleNow
  case markRecognised => exact safe.recogniseMark
  case overlong => exact safe.overlongNow
  case secInPulse => exact safe.secInEffect
  case refWindowClose => exact safe.windowEffect
  all_goals exact safe.quiet (by simp [Instr.effect, State.ackAlarmsEffect])

end ScheduleSafe

end Sys2Proof.Machine

namespace Sys2Proof.Proofs

open Sys2Proof.Machine

/-- Settles O60: every offer a unit makes keeps the list in order and within its bounds, and at an epoch retirement leaves only what is
later than the N that has been reached. -/
theorem everyStepKeepsTheSchedule : Obligations.EveryStepKeepsTheSchedule := by
  intro s t safe taken
  refine step_keeps (fun s rest safe => safe.quiet rfl) ?_ safe taken
  intro c s t safe answered
  exact exec_preserves answered safe (fun safe => safe.quiet rfl) ScheduleSafe.effect

end Sys2Proof.Proofs
end

section
/-!
PROOFS. The time scale through every command (R19, R44 to R52): N, its origin and age, what is pending, and the leap-60 flag.
-/

namespace Sys2Proof.Machine

variable {s t : State}

/-! ## The invariant, taken apart -/

/-- What the invariant of the time scale speaks of. -/
def State.scale (s : State) : (Option Int × Option Origin × Option Nat × Bool) × (Option PendingSet × Option PendingReset × Bool) ×
    RefState × Monitor × Bool :=
  ((s.time.n, s.time.origin, s.time.age, s.time.leap60), (s.time.pendingSet, s.time.pendingReset, s.time.rangeEnding), s.ref.state,
    s.timer.monitor, s.secondInserted)

theorem countInRange_iff {n : Int} : countInRange n = true ↔ 0 ≤ n ∧ n ≤ Config.lastCount := by simp [countInRange]

namespace TimeSafe

/-- An operation that leaves the time scale alone, and enters LOCKED under no other origin than it was. -/
theorem unlock (safe : TimeSafe s) (state : t.ref.state = s.ref.state ∨ t.ref.state ≠ .locked)
    (same : t.scale = (s.scale.1, s.scale.2.1, t.ref.state, s.scale.2.2.2)) : TimeSafe t := by
  simp only [State.scale, Prod.mk.injEq] at same
  obtain ⟨⟨n, origin, age, leap60⟩, ⟨pendingSet, pendingReset, ending⟩, -, monitor, inserted⟩ := same
  obtain ⟨n_low, n_high, origin_set, age_ref, age_limit, line_unlocked, pending_unset, pending_ref, leap_set, leap_second, down_unset,
    reset_set, ending_set⟩ := safe
  have unlocked : t.time.origin = some .line → t.ref.state ≠ .locked := by
    rw [origin]
    exact fun line => state.elim (fun same => by rw [same]; exact line_unlocked line) id
  refine ⟨?_, ?_, ?_, ?_, ?_, unlocked, ?_, ?_, ?_, ?_, ?_, ?_, ?_⟩ <;>
    simpa only [n, origin, age, leap60, pendingSet, pendingReset, ending, monitor, inserted]

theorem quiet (safe : TimeSafe s) (same : t.scale = s.scale) : TimeSafe t := by
  have state : t.ref.state = s.ref.state := congrArg (·.2.2.1) same
  exact safe.unlock (.inl state) (by rw [same, state]; rfl)

/-- The state of an UNSET time. -/
theorem of_unset (n : t.time.n = none) (origin : t.time.origin = none) (age : t.time.age = none) (leap60 : t.time.leap60 = false)
    (pendingReset : t.time.pendingReset = none) (pendingSet : t.time.pendingSet = none) (ending : t.time.rangeEnding = false) :
    TimeSafe t := by
  constructor <;> simp [n, origin, age, leap60, pendingReset, pendingSet, ending]

theorem leap_unset (safe : TimeSafe s) (unset : s.time.n = none) : s.time.leap60 = false := by
  cases leap : s.time.leap60
  · rfl
  · simpa [unset] using safe.leap_set leap

theorem origin_unset (safe : TimeSafe s) (unset : s.time.n = none) : s.time.origin = none := by
  simpa [unset] using safe.origin_set

theorem age_unset (safe : TimeSafe s) (unset : s.time.n = none) : s.time.age = none := by
  cases held : s.time.age
  · rfl
  · have ref := safe.age_ref.mp (by simp [held])
    simp [safe.origin_unset unset] at ref

theorem reset_unset (safe : TimeSafe s) (unset : s.time.n = none) : s.time.pendingReset = none := by
  cases held : s.time.pendingReset
  · rfl
  · simpa [unset] using safe.reset_set (by simp [held])

theorem ending_unset (safe : TimeSafe s) (unset : s.time.n = none) : s.time.rangeEnding = false := by
  cases held : s.time.rangeEnding
  · rfl
  · simpa [unset] using safe.ending_set held



end TimeSafe

@[simp] theorem secondInserted_withPresentCount (n : Option Int) (past : List PastSecond) :
    (withPresentCount n past).head?.any (fun p => p.leap == .inserted) = past.head?.any (fun p => p.leap == .inserted) := by
  cases past <;> rfl

@[simp] theorem State.setN_secondInserted (n : Int) (s : State) : (s.setN n).secondInserted = s.secondInserted := by
  simp [State.secondInserted, State.setN]

namespace TimeSafe

theorem classChanged (safe : TimeSafe s) (before : TimeClass) : TimeSafe (s.classChanged before) :=
  safe.quiet (by simp [State.scale, State.secondInserted])

end TimeSafe

/-! ## Counts taken -/

/-- What a count for the present second makes of the time scale (R47, R49, R50). -/
theorem State.setTime_time (n : Int) (origin : Origin) (s : State) : (s.setTime n origin).time = { s.time with
    n := some n, origin := some origin, age := if origin = Origin.ref then some 0 else none, leap60 := false
    pendingSet := none, offset := offsetFromRules s.load.params n
    rangeEnding := s.time.rangeEnding || rangeEnds n s.secondInserted s.schedule } := by
  simp [State.setTime, State.setN, State.secondInserted]

@[simp] theorem State.setTime_past (n : Int) (origin : Origin) (s : State) :
    (s.setTime n origin).timer.past = withPresentCount (some n) s.timer.past := by
  simp [State.setTime, State.setN]

theorem State.shiftCount_none {difference : Int} (h : s.shiftsTo difference = none) : s.shiftCount difference = s := by
  unfold State.shiftCount
  rw [h]

/-- What a count re-set that is taken makes of the time scale (R49, R52, R75). -/
theorem State.shiftCount_time {difference n' : Int} (h : s.shiftsTo difference = some n') :
    (s.shiftCount difference).time = { s.time with
      n := some n', leap60 := false, offset := offsetFromRules s.load.params n'
      rangeEnding := s.time.rangeEnding ||
        rangeEnds n' s.secondInserted (({ s with time := { s.time with leap60 := false } } : State).resetSchedule n').schedule } := by
  unfold State.shiftCount
  rw [h]
  simp [State.setN, State.secondInserted]

theorem State.shiftCount_past {difference n' : Int} (h : s.shiftsTo difference = some n') :
    (s.shiftCount difference).timer.past = withPresentCount (some n') s.timer.past := by
  unfold State.shiftCount
  rw [h]
  simp [State.setN]

namespace TimeSafe

/-- A count taken while UNSET makes the time SET (R47, R50). -/
theorem setTime {n : Int} (range : countInRange n = true) {origin : Origin} (unlocked : origin = .line → s.ref.state ≠ .locked)
    (up : s.timer.monitor = .up) : TimeSafe (s.setTime n origin) := by
  obtain ⟨low, high⟩ := countInRange_iff.mp range
  constructor
  all_goals simp only [State.setTime_time]
  case line_unlocked => simpa using unlocked
  case age_ref => cases origin <;> simp
  case age_limit => cases origin <;> simp
  case reset_set => simp
  all_goals simp_all

/-- A count re-set keeps the range, where one is taken (R52). -/
theorem shiftCount (safe : TimeSafe s) (difference : Int) : TimeSafe (s.shiftCount difference) := by
  cases taken : s.shiftsTo difference
  case none =>
    rw [State.shiftCount_none taken]
    exact safe
  case some n' =>
    obtain ⟨n, set, -, low, high⟩ := State.shiftsTo_eq_some.mp taken
    have up : s.timer.monitor ≠ .down := fun down => by simp [safe.down_unset down] at set
    have unheld : s.time.pendingSet = none := by
      cases held : s.time.pendingSet
      · rfl
      · have unset := safe.pending_unset (by simp [held])
        simp [unset] at set
    obtain ⟨-, -, origin_set, age_ref, age_limit, line_unlocked, -⟩ := safe
    constructor
    all_goals simp only [State.shiftCount_time taken, State.shiftCount_frame]
    case origin_set => simpa [set] using origin_set
    case age_ref => exact age_ref
    case age_limit => exact age_limit
    case line_unlocked => exact line_unlocked
    all_goals simp_all

theorem resetApplied (safe : TimeSafe s) : TimeSafe s.resetApplied := by
  obtain ⟨n_low, n_high, origin_set, age_ref, age_limit, line_unlocked, pending_unset, pending_ref, leap_set, leap_second, down_unset,
    reset_set, ending_set⟩ := safe
  constructor <;> simp only [State.resetApplied_frame]
  all_goals first | assumption | simp

theorem applyCountReset (safe : TimeSafe s) (difference : Int) : TimeSafe (s.applyCountReset difference) := by
  unfold State.applyCountReset
  split
  · exact safe
  · exact (safe.shiftCount difference).resetApplied

theorem dropPendingReset (safe : TimeSafe s) : TimeSafe s.dropPendingReset := by
  obtain ⟨n_low, n_high, origin_set, age_ref, age_limit, line_unlocked, pending_unset, pending_ref, leap_set, leap_second, down_unset,
    -, ending_set⟩ := safe
  exact ⟨n_low, n_high, origin_set, age_ref, age_limit, line_unlocked, pending_unset, pending_ref, leap_set, leap_second, down_unset,
    nofun, ending_set⟩

theorem setOrigin (safe : TimeSafe s) (set : s.time.n.isSome = true) {origin : Origin} (unlocked : origin = .line → s.ref.state ≠ .locked) :
    TimeSafe (s.setOrigin origin) := by
  obtain ⟨n_low, n_high, -, -, -, -, pending_unset, pending_ref, leap_set, leap_second, down_unset, reset_set, ending_set⟩ := safe
  refine ⟨n_low, n_high, ?_, ?_, ?_, ?_, pending_unset, pending_ref, leap_set, leap_second, down_unset, reset_set, ending_set⟩
  · simp [set]
  · cases origin <;> simp
  · cases origin <;> simp
  · simpa using unlocked

/-- A count handed over while UNSET is taken, or held when it comes from the reference (R47). -/
theorem handWhileUnset (safe : TimeSafe s) (unset : s.time.n = none) (up : s.timer.monitor = .up) {count : HandedCount}
    (unlocked : count.origin = .line → s.ref.state ≠ .locked) (coming : count.since = none → count.origin = .ref) :
    TimeSafe (s.handWhileUnset count).1 := by
  unfold State.handWhileUnset
  split
  next ahead =>
    split
    next range =>
      obtain ⟨n_low, n_high, origin_set, age_ref, age_limit, line_unlocked, -, -, leap_set, leap_second, down_unset, reset_set,
        ending_set⟩ := safe
      refine ⟨n_low, n_high, origin_set, age_ref, age_limit, line_unlocked, fun _ => unset, ?_, leap_set, leap_second, down_unset,
        reset_set, ending_set⟩
      simp only [Option.mem_some_iff]
      rintro _ rfl
      exact ⟨coming ahead, countInRange_iff.mp range⟩
    · exact safe
  · split
    next range => exact setTime range.2 unlocked up
    · exact safe

/-! ## The epoch -/

theorem ageLater_le (t : TimeScale) : ∀ age ∈ ageLater t, age ≤ Config.ageLimit := by
  intro age mem
  obtain ⟨before, -, rfl⟩ := Option.map_eq_some_iff.mp mem
  split <;> omega

theorem ageLater_isSome (t : TimeScale) : (ageLater t).isSome = t.age.isSome := by simp [ageLater]

end TimeSafe

/-- What the per-second advance makes of the time scale (R44, R45, R49, R50). -/
theorem State.advanceTo_time (n' : Int) (step : LeapStep) (s : State) :
    (s.advanceTo n' step).time = { s.time with
      n := some (if Config.lastCount < n' then s.time.n.getD n' else n'), age := ageLater s.time, leap60 := step == .inserted
      rangeEnding := s.time.rangeEnding || rangeEnds (if Config.lastCount < n' then s.time.n.getD n' else n')
        (({ s with timer := { s.timer with past := withPresentLeap step s.timer.past } } : State).secondInserted) s.schedule } := rfl

theorem State.advanceTo_past (n' : Int) (step : LeapStep) (s : State) : (s.advanceTo n' step).timer.past =
    withPresentCount (some (if Config.lastCount < n' then s.time.n.getD n' else n')) (withPresentLeap step s.timer.past) := rfl

/-- The present second is an inserted one just when its epoch takes an insertion (R45). -/
theorem State.advanceTo_secondInserted {step : LeapStep} (open_second : s.timer.past ≠ []) (n' : Int) :
    (s.advanceTo n' step).secondInserted = (step == .inserted) := by
  obtain ⟨p, rest, past⟩ := List.exists_cons_of_ne_nil open_second
  simp [State.secondInserted, State.advanceTo_past, past, withPresentLeap, withPresentCount]

theorem State.openEpoch_past_ne (t0 : Int) (s : State) : (s.openEpoch t0).timer.past ≠ [] := by
  simp [State.openEpoch, Config.pastSize]

namespace TimeSafe

/-- The advance at an epoch, from a time scale whose leap-60 flag is about to be judged (R44, R45, R50). -/
theorem advanceTo {u : State} (safe : TimeSafe s) (same : u.time = s.time ∧ u.ref = s.ref ∧ u.timer.monitor = s.timer.monitor)
    (open_second : u.timer.past ≠ []) {n : Int} (set : s.time.n = some n) {n' : Int} (later : n ≤ n') (step : LeapStep) :
    TimeSafe (u.advanceTo n' step) := by
  obtain ⟨time, ref, monitor⟩ := same
  have up : s.timer.monitor ≠ .down := fun down => by simp [safe.down_unset down] at set
  have low := safe.n_low n set
  have high := safe.n_high n set
  have inserted := State.advanceTo_secondInserted (step := step) open_second n'
  have unheld : s.time.pendingSet = none := by
    cases held : s.time.pendingSet
    · rfl
    · have unset := safe.pending_unset (by simp [held])
      simp [unset] at set
  obtain ⟨-, -, origin_set, age_ref, -, line_unlocked, -⟩ := safe
  constructor
  case leap_second => rw [inserted]; exact id
  all_goals simp only [State.advanceTo_time, State.advanceTo_frame, time, ref, monitor]
  case n_low => simp only [set, Option.getD_some, Option.mem_some_iff]; rintro _ rfl; split <;> omega
  case n_high => simp only [set, Option.getD_some, Option.mem_some_iff]; rintro _ rfl; split <;> omega
  case origin_set => simpa [set] using origin_set
  case age_ref => rw [ageLater_isSome]; exact age_ref
  case age_limit => exact ageLater_le _
  case line_unlocked => exact line_unlocked
  all_goals simp_all

theorem endRange (s : State) : TimeSafe s.endRange := by
  have unset : s.endRange.time = s.time.unset := by
    unfold State.endRange
    dsimp only
    split <;> simp
  apply of_unset <;> rw [unset] <;> rfl

theorem le_advanceOf (n : Int) (inserted : Bool) (entries : List Entry) : n ≤ (advanceOf n inserted entries).1 := by
  obtain same | one | ⟨two, -⟩ := advanceOf_cases n inserted entries <;> omega

/-- The count of an epoch keeps the time scale (R44 to R49). -/
theorem countAtEpoch {u : State} (safe : TimeSafe s) (same : u.time = s.time ∧ u.ref = s.ref ∧ u.timer.monitor = s.timer.monitor)
    (open_second : u.timer.past ≠ []) (up : s.timer.monitor = .up) (e : Int) : TimeSafe (u.countAtEpoch s.comingCount e) := by
  obtain ⟨time, ref, monitor⟩ := id same
  unfold State.countAtEpoch
  split
  next n' step coming =>
    split
    · exact endRange u
    · obtain ⟨n, set, advanced⟩ := Option.map_eq_some_iff.mp coming
      have later := le_advanceOf n s.secondInserted s.schedule
      rw [advanced] at later
      exact safe.advanceTo same open_second set later step
  next unset =>
    have unset' := State.comingCount_none.mp unset
    have kept : TimeSafe u := by
      have plain := safe.leap_unset unset'
      obtain ⟨n_low, n_high, origin_set, age_ref, age_limit, line_unlocked, pending_unset, pending_ref, leap_set, -, down_unset,
        reset_set, ending_set⟩ := safe
      have plain' : u.time.leap60 = true → u.secondInserted = true := fun leap => by simp [time, plain] at leap
      refine ⟨?_, ?_, ?_, ?_, ?_, ?_, ?_, ?_, ?_, plain', ?_, ?_, ?_⟩ <;> simpa only [time, ref, monitor]
    split
    next p held =>
      split
      · obtain ⟨origin, range⟩ := kept.pending_ref p held
        exact setTime (countInRange_iff.mpr range) (by simp [origin]) (monitor.trans up)
      · exact kept
    · exact kept

theorem takePendingReset (safe : TimeSafe s) : TimeSafe s.takePendingReset.1 := by
  have shifted {u : State} (safe : TimeSafe u) (d : Int) : TimeSafe (u.shiftAtEpoch d) := by
    unfold State.shiftAtEpoch
    split
    · obtain ⟨n_low, n_high, origin_set, age_ref, age_limit, line_unlocked, pending_unset, pending_ref, leap_set, leap_second, down_unset,
        reset_set, -⟩ := safe
      exact shiftCount (by exact ⟨n_low, n_high, origin_set, age_ref, age_limit, line_unlocked, pending_unset, pending_ref, leap_set,
        leap_second, down_unset, reset_set, nofun⟩) d
    · exact safe
  unfold State.takePendingReset
  split
  next r _ =>
    split
    · exact safe
    · have dropped := safe.dropPendingReset
      dsimp only
      split <;> split
      · exact (shifted dropped _).quiet rfl
      · exact dropped.quiet rfl
      · exact shifted dropped _
      · exact dropped
  · exact safe

theorem epochEffect (safe : TimeSafe s) (up : s.timer.monitor = .up) : TimeSafe s.epochEffect := by
  have counted : TimeSafe s.epochCounted :=
    (safe.countAtEpoch (u := s.timeSecond.openEpoch s.presentDrive) (by simp) (State.openEpoch_past_ne _ _) up s.tick).quiet
      (by simp [State.epochCounted, State.scale, State.secondInserted])
  have reset : TimeSafe s.epochReset := counted.takePendingReset
  have retired : TimeSafe s.epochReset.entriesAtEpoch := reset.quiet (by simp [State.scale, State.secondInserted])
  have built (b : Bool) {u : State} (safe : TimeSafe u) : TimeSafe (u.buildAtEpoch b) := by
    unfold State.buildAtEpoch
    split
    · exact safe.resetApplied.quiet (by simp [State.scale, State.secondInserted])
    · exact safe.quiet (by simp [State.scale, State.secondInserted])
  rw [State.epochEffect_eq]
  exact built _ retired

/-! ## The Reference Input Unit -/

theorem leftLocked (safe : TimeSafe s) (before : TimeClass) : TimeSafe (s.leftLocked before) :=
  safe.quiet (by simp [State.scale, State.secondInserted])

theorem lockedToAcquire (safe : TimeSafe s) : TimeSafe s.lockedToAcquire := leftLocked (by exact safe.unlock (.inr nofun) rfl) _

theorem lockedToHoldover (safe : TimeSafe s) : TimeSafe s.lockedToHoldover :=
  leftLocked (by exact safe.unlock (.inr nofun) rfl) _

/-- LOCKED is entered together with the origin REF (R35, R50). -/
theorem completeAcquire (safe : TimeSafe s) (up : s.timer.monitor = .up) (n : Int) (pe : PulseEpoch) (e : Int) :
    TimeSafe (s.completeAcquire n pe e) := by
  have changed (set : s.time.n.isSome = true) :
      TimeSafe ((({ s with ref := s.ref.enterLocked } : State).setOrigin .ref).classChanged s.cls) := by
    have origin : TimeSafe (s.setOrigin .ref) := safe.setOrigin set nofun
    refine classChanged ?_ _
    obtain ⟨n_low, n_high, origin_set, age_ref, age_limit, -, pending_unset, pending_ref, leap_set, leap_second, down_unset, reset_set,
      ending_set⟩ := origin
    exact ⟨n_low, n_high, origin_set, age_ref, age_limit, nofun, pending_unset, pending_ref, leap_set, leap_second, down_unset, reset_set,
      ending_set⟩
  unfold State.completeAcquire
  dsimp only
  split
  next set =>
    have set' : s.time.n.isSome = true := set
    have changed := changed set'
    split
    · obtain ⟨n_low, n_high, origin_set, age_ref, age_limit, line_unlocked, pending_unset, pending_ref, leap_set, leap_second, down_unset,
        -, ending_set⟩ := changed
      exact ⟨n_low, n_high, origin_set, age_ref, age_limit, line_unlocked, pending_unset, pending_ref, leap_set, leap_second, down_unset,
        fun _ => by simpa using set', ending_set⟩
    · exact applyCountReset (by exact changed.dropPendingReset.quiet rfl) _
  next unset =>
    have unset' : s.time.n = none := by simpa [State.timeSet] using unset
    have none : s.time.origin = none := safe.origin_unset unset'
    have locked : TimeSafe ({ s with ref := s.ref.enterLocked } : State) := by
      obtain ⟨n_low, n_high, origin_set, age_ref, age_limit, -, pending_unset, pending_ref, leap_set, leap_second, down_unset, reset_set,
        ending_set⟩ := safe
      exact ⟨n_low, n_high, origin_set, age_ref, age_limit, fun line => by simp [none] at line, pending_unset, pending_ref, leap_set,
        leap_second, down_unset, reset_set, ending_set⟩
    split
    · exact handWhileUnset (by exact locked.quiet rfl) (by exact unset') (by exact up) nofun (fun _ => rfl)
    · exact handWhileUnset (by exact locked.quiet rfl) (by exact unset') (by exact up) nofun (fun _ => rfl)

theorem leapOffer (safe : TimeSafe s) (record : RefRecord) : TimeSafe (s.leapOffer record) :=
  safe.quiet (by simp [State.scale, State.secondInserted])

theorem acquirePulse (safe : TimeSafe s) (up : s.timer.monitor = .up) (record : RefRecord) (pe : PulseEpoch) :
    TimeSafe (s.acquirePulse record pe) := by
  have began {u : State} (safe : TimeSafe u) : TimeSafe (u.beginStreak record pe) := safe.unlock (.inr nofun) rfl
  unfold State.acquirePulse
  dsimp only
  split
  · split
    · split
      · exact (safe.completeAcquire up _ _ _).leapOffer _
      · exact leapOffer (by exact safe.quiet rfl) _
    · split
      · exact (began safe).leapOffer _
      · exact (began (by exact safe.quiet rfl)).leapOffer _
  · exact (began safe).leapOffer _

theorem outlierPulse (safe : TimeSafe s) : TimeSafe s.outlierPulse := by
  unfold State.outlierPulse
  dsimp only
  split
  · exact lockedToAcquire (by exact safe.quiet rfl)
  · exact safe.quiet rfl

theorem conflictPulse (safe : TimeSafe s) : TimeSafe s.conflictPulse := by
  unfold State.conflictPulse
  dsimp only
  split
  · exact lockedToAcquire (by exact safe.quiet rfl)
  · exact safe.quiet rfl

/-- A used pulse sets a held age back to 0 (R50). -/
theorem refreshed (safe : TimeSafe s) : TimeSafe ({ s with time := { s.time with age := s.time.age.map (fun _ => 0) } } : State) := by
  obtain ⟨n_low, n_high, origin_set, age_ref, -, line_unlocked, pending_unset, pending_ref, leap_set, leap_second, down_unset, reset_set,
    ending_set⟩ := safe
  refine ⟨n_low, n_high, origin_set, ?_, ?_, line_unlocked, pending_unset, pending_ref, leap_set, leap_second, down_unset, reset_set,
    ending_set⟩
  · simpa using age_ref
  · simp

theorem lockedGood (safe : TimeSafe s) (record : RefRecord) (pe : PulseEpoch) : TimeSafe (s.lockedGood record pe) := by
  have counted {u : State} (safe : TimeSafe u) : TimeSafe (u.countNone record) := by
    unfold State.countNone
    repeat' split
    · exact safe.quiet (by simp [State.scale, State.secondInserted])
    all_goals exact safe.quiet rfl
  unfold State.lockedGood
  dsimp only
  repeat' split
  · exact conflictPulse (by exact safe.quiet rfl)
  · exact outlierPulse (by exact safe.quiet rfl)
  · exact leapOffer (counted (refreshed (s := State.samplePulse _ _) (by exact safe.quiet rfl))) _

theorem handlePulse (safe : TimeSafe s) (up : s.timer.monitor = .up) (label : PulseLabel) (pe : PulseEpoch) :
    TimeSafe (s.handlePulse label pe) := by
  have unlabelled : TimeSafe (s.lockedUnlabelled pe) := by
    unfold State.lockedUnlabelled
    dsimp only
    repeat' split
    · exact outlierPulse (by exact safe.quiet rfl)
    · exact safe.quiet rfl
    · exact outlierPulse (by exact safe.quiet rfl)
    · exact safe.quiet rfl
    · exact safe.quiet rfl
  have began (record : RefRecord) : TimeSafe (s.beginStreak record pe) := safe.unlock (.inr nofun) rfl
  unfold State.handlePulse
  split
  case h_1 => exact began _
  case h_4 => exact began _
  case h_7 => exact safe.acquirePulse up _ _
  case h_10 => exact safe.lockedGood _ _
  case h_12 => exact unlabelled
  all_goals exact safe.quiet rfl

theorem secInEffect (safe : TimeSafe s) (up : s.timer.monitor = .up) : TimeSafe s.secInEffect := by
  unfold State.secInEffect
  dsimp only
  repeat' split
  · exact safe.quiet rfl
  · exact handlePulse (safe.quiet (by simp [State.scale, State.secondInserted])) (by simpa using up) _ _
  · exact safe

theorem windowEffect (safe : TimeSafe s) : TimeSafe s.windowEffect := by
  have judged : TimeSafe ({ s with timer := { s.timer with
      past := s.timer.past.map (fun p => if windowDue s.tick p then { p with refJudged := true } else p) } } : State) := by
    refine safe.quiet ?_
    simp only [State.scale, State.secondInserted]
    cases s.timer.past
    · rfl
    · simp only [List.map_cons, List.head?_cons, Option.any_some]
      split <;> rfl
  unfold State.windowEffect
  dsimp only
  repeat' split
  · exact lockedToHoldover judged
  · exact judged.quiet rfl
  · exact judged

theorem acquireTimeoutEffect (safe : TimeSafe s) : TimeSafe s.acquireTimeoutEffect := by
  refine safe.unlock (.inr ?_) rfl
  unfold State.acquireTimeoutEffect
  dsimp only
  split <;> nofun

/-! ## The Line Reader -/

theorem adoptFrame (safe : TimeSafe s) (up : s.timer.monitor = .up) (f : LineFrame) : TimeSafe (s.adoptFrame f) := by
  have taken (p : PastSecond) (since : Nat) : TimeSafe (s.takeAdoption f p since).1 := by
    unfold State.takeAdoption
    dsimp only
    split
    · exact safe
    next free =>
      have unlocked : s.ref.state ≠ .locked := fun locked => free (.inl locked)
      split
      next set => exact applyCountReset ((safe.setOrigin set fun _ => unlocked).dropPendingReset) _
      next unset =>
        exact safe.handWhileUnset (by simpa [State.timeSet] using unset) up (fun _ => unlocked) nofun
  unfold State.adoptFrame
  dsimp only
  repeat' split
  next p since _ _ => exact (taken p since).quiet rfl
  all_goals exact safe.quiet rfl

theorem closeFrame (safe : TimeSafe s) (up : s.timer.monitor = .up) (a : Assembly) (falls : List Int) :
    TimeSafe (s.closeFrame a falls) := by
  have delivered (f : LineFrame) {u : State} (safe : TimeSafe u) (up : u.timer.monitor = .up) : TimeSafe (u.deliverFrame f) := by
    unfold State.deliverFrame
    split
    · exact safe.quiet rfl
    · split
      · exact (safe.adoptFrame up f).quiet (by simp [State.scale, State.secondInserted])
      · exact safe.quiet (by simp [State.scale, State.secondInserted])
  unfold State.closeFrame
  dsimp only
  repeat' split
  · exact safe.quiet rfl
  · exact safe.quiet rfl
  · exact safe.quiet rfl
  · exact delivered _ (by exact safe.quiet rfl) up

theorem settleNow (safe : TimeSafe s) : TimeSafe s.settleNow := safe.quiet (by simp [State.scale, State.secondInserted])

theorem recogniseMark (safe : TimeSafe s) (up : s.timer.monitor = .up) : TimeSafe s.recogniseMark := by
  unfold State.recogniseMark
  dsimp only
  split
  · split
    · exact closeFrame (by exact safe.settleNow.quiet rfl) (by simpa using up) _ _
    · exact safe.settleNow.quiet rfl
    · exact safe.settleNow.quiet rfl
  · exact safe.settleNow

theorem markNow (safe : TimeSafe s) (up : s.timer.monitor = .up) : TimeSafe s.markNow := by
  unfold State.markNow
  repeat' split
  · exact safe
  · exact safe.recogniseMark up
  · exact safe

theorem overlongNow (safe : TimeSafe s) (up : s.timer.monitor = .up) : TimeSafe s.overlongNow := by
  have marked := safe.markNow up
  unfold State.overlongNow
  dsimp only
  repeat' split
  all_goals exact marked.quiet (by simp [State.scale, State.secondInserted])

theorem decoderRise (safe : TimeSafe s) (up : s.timer.monitor = .up) (rise : Int) : TimeSafe (s.decoderRise rise) := by
  unfold State.decoderRise
  split
  · split
    · exact safe.quiet (by simp [State.scale, State.secondInserted])
    · exact safe.quiet (by simp [State.scale, State.secondInserted])
    · exact safe.quiet (by simp [State.scale, State.secondInserted])
    · exact (safe.markNow up).quiet rfl
    · exact (safe.overlongNow up).quiet rfl
  · exact safe

theorem releaseNow (safe : TimeSafe s) (up : s.timer.monitor = .up) : TimeSafe s.releaseNow := by
  unfold State.releaseNow State.loopRelease
  split
  · exact decoderRise (by exact safe.quiet rfl) (by exact up) _
  · exact safe.quiet rfl

/-! ## The oscillator -/

theorem monitorUpEffect (safe : TimeSafe s) (down : s.timer.monitor = .down) : TimeSafe s.monitorUpEffect := by
  have unset := safe.down_unset down
  have plain := safe.leap_unset unset
  have up : s.monitorUpEffect.timer.monitor ≠ .down := by simp [State.monitorUpEffect]
  obtain ⟨n_low, n_high, origin_set, age_ref, age_limit, line_unlocked, pending_unset, pending_ref, leap_set, -, -, reset_set,
    ending_set⟩ := safe
  refine ⟨?_, ?_, ?_, ?_, ?_, ?_, ?_, ?_, ?_, fun leap => by simp [plain] at leap, fun down => absurd down up, ?_, ?_⟩
  all_goals simpa

/-! ## Every command -/

theorem effect {c : Instr} (safe : TimeSafe s) (due : Instr.due c s = true) : TimeSafe (Instr.effect c (s.at c.now)) := by
  have clocks : TimeSafe (s.at c.now) := safe.quiet rfl
  cases c
  case reset => exact of_unset rfl rfl rfl rfl rfl rfl rfl
  case oscillatorLoss => exact of_unset rfl rfl rfl rfl rfl rfl rfl
  case oscMonitorUp => exact clocks.monitorUpEffect (by simp_all [Instr.due])
  case epoch => exact clocks.epochEffect (by simp_all [Instr.due])
  case reductionRelease => exact clocks.releaseNow (by simp_all [Instr.due])
  case keyRise => exact decoderRise (by exact clocks.quiet rfl) (by simp_all [Instr.due]) _
  case fallSettled => exact clocks.settleNow
  case markRecognised => exact clocks.recogniseMark (by simp_all [Instr.due])
  case overlong => exact clocks.overlongNow (by simp_all [Instr.due])
  case secInPulse => exact clocks.secInEffect (by simp_all [Instr.due])
  case refWindowClose => exact clocks.windowEffect
  case acquireTimeout => exact clocks.acquireTimeoutEffect
  all_goals exact clocks.quiet (by simp [Instr.effect, State.scale, State.secondInserted, State.ackAlarmsEffect])

end TimeSafe

end Sys2Proof.Machine

namespace Sys2Proof.Proofs

open Sys2Proof.Machine

/-- Settles O59: each way a count is taken keeps the time scale, and so does the epoch, whose advance judges the leap-60 flag again. -/
theorem everyStepKeepsTheTimeScale : Obligations.EveryStepKeepsTheTimeScale := by
  intro s t safe taken
  refine step_keeps (fun s rest safe => safe.quiet rfl) ?_ safe taken
  intro c s t safe answered
  obtain ⟨due, rfl⟩ | rfl := exec_cases answered
  · exact safe.effect due
  · exact safe

end Sys2Proof.Proofs
end

section
/-!
PROOFS. The reset state, the timers that run out, a raising, and the port's commands by standing.
-/

namespace Sys2Proof.Machine

variable {s : State}

/-! ## Reset -/

theorem exec_reset (now : Instant) (s : State) : exec (.reset now) s = .next (s.at now).afterReset := rfl

theorem State.reset_timerSafe : TimerSafe State.reset := by
  constructor <;> simp [State.reset, Timer.reset, Loader.reset, Staging.empty, Params.defaults, trimInRange, Config.fLimit, Config.fUnit]

theorem State.reset_boundsSafe : BoundsSafe State.reset := by
  constructor
  · exact Counters.zero_safe
  all_goals decide

theorem State.reset_alarmsSafe : AlarmsSafe State.reset := by
  constructor <;> simp [State.reset, Maintenance.reset, Loader.reset, Staging.empty, Params.defaults, Alert.defaults]

theorem State.reset_keyingSafe : KeyingSafe State.reset := .afterReset State.reset

theorem State.reset_timeSafe : TimeSafe State.reset := .of_unset rfl rfl rfl rfl rfl rfl rfl

theorem State.reset_scheduleSafe : ScheduleSafe State.reset := .of_empty rfl

theorem Params.defaults_inRange : ParamsInRange Params.defaults where
  site := by constructor <;> decide
  zone := by simp [Params.defaults]
  trim := by simp [Params.defaults, trimInRange]
  alert := by decide

/-! ## A raising -/

/-- One more raising of a kind that is held, up to 255. -/
theorem raiseIn_held {k : AlarmKind} {n : Option Int} {pre post : List AlarmEntry} {e : AlarmEntry} (kind : e.kind = k)
    (first : ∀ x ∈ pre, x.kind ≠ k) : raiseIn k n (pre ++ e :: post) = pre ++ { e with count := bumpSat e.count } :: post := by
  induction pre with
  | nil => simp [raiseIn, kind]
  | cons x rest ih =>
    obtain ⟨other, rest_other⟩ := List.forall_mem_cons.mp first
    simp [raiseIn, other, ih rest_other]

theorem raiseIn_new {k : AlarmKind} {n : Option Int} {alarms : List AlarmEntry} (other : ∀ e ∈ alarms, e.kind ≠ k) :
    raiseIn k n alarms = alarms ++ [{ kind := k, firstN := n, count := 1 }] := by
  induction alarms with
  | nil => rfl
  | cons x rest ih =>
    obtain ⟨first, rest_other⟩ := List.forall_mem_cons.mp other
    simp [raiseIn, first, ih rest_other]

theorem State.loaded_iff : s.loaded = true ↔ s.load.phase = .done := by simp [State.loaded]

/-! ## The port's commands -/

theorem exec_withdraw {now : Instant} (loaded : s.load.phase = .done) : exec (.withdraw now) s = .next (s.at now).withdrawEffect :=
  exec_due (c := .withdraw now) (State.loaded_iff.mpr loaded)

theorem exec_rejoin {now : Instant} (loaded : s.load.phase = .done) : exec (.rejoin now) s = .next (s.at now).rejoinEffect :=
  exec_due (c := .rejoin now) (State.loaded_iff.mpr loaded)

theorem exec_selftest {now : Instant} (loaded : s.load.phase = .done) : exec (.selftest now) s = .next (s.at now).selftestEffect :=
  exec_due (c := .selftest now) (State.loaded_iff.mpr loaded)

end Sys2Proof.Machine

namespace Sys2Proof.Proofs

open Sys2Proof.Machine

/-- Settles O6: the reset state, field by field. -/
theorem resetLeavesTheStatedValues : Obligations.ResetLeavesTheStatedValues := by
  intro now s
  refine ⟨_, exec_reset now s, rfl, ?timer, ?ref, ?time, ?frames, ?key, ?line, ?ctl, ?load, ?maint⟩
  case timer => exact ⟨rfl, rfl, rfl, rfl, rfl, rfl, rfl, rfl, rfl, rfl, rfl, rfl⟩
  case ref => exact ⟨rfl, rfl, rfl, rfl, rfl, rfl, rfl, rfl, rfl, rfl, rfl, rfl, rfl, rfl, rfl⟩
  case time => exact ⟨rfl, rfl, rfl, rfl, rfl, rfl, rfl, rfl, rfl⟩
  case frames => exact ⟨rfl, rfl, rfl, rfl, rfl⟩
  case key => exact ⟨rfl, rfl, rfl, rfl, rfl, rfl, rfl, rfl, rfl, rfl, rfl, rfl⟩
  case line => exact ⟨rfl, rfl, rfl, rfl, rfl, rfl⟩
  case ctl => exact ⟨rfl, rfl, rfl, rfl, rfl, rfl, rfl, rfl, rfl, rfl, rfl⟩
  case load => exact ⟨rfl, rfl, rfl, rfl, rfl, fun _ => rfl⟩
  case maint =>
    exact ⟨rfl, rfl, rfl, rfl, rfl, rfl, rfl, rfl, rfl, rfl, rfl, fun _ => rfl, rfl, rfl, fun _ => rfl⟩

/-- Settles O7: each invariant of the reset state is immediate from its values. -/
theorem resetStateMeetsTheInvariants : Obligations.ResetStateMeetsTheInvariants :=
  ⟨State.reset_timerSafe, State.reset_boundsSafe, State.reset_alarmsSafe, State.reset_keyingSafe, State.reset_timeSafe,
    State.reset_scheduleSafe, Params.defaults_inRange⟩

/-- Settles O42: each timer's command is due at the tick its time has passed. -/
theorem timersRunOut : Obligations.TimersRunOut := by
  refine ⟨fun now s f up watches from_f due => ?_, fun now s f up acquire from_f due => ?_, fun now s c loaded from_c due => ?_⟩
  · have surveys : s.ctl.standing.surveys = true := by
      obtain ⟨p, survey⟩ | deferred := watches
      · rw [survey]; rfl
      · rw [deferred]; rfl
    refine exec_due (c := .silence now) ?_
    simp only [Instr.due, up, surveys, from_f, Config.silenceRun, beq_self_eq_true, Bool.true_and, beq_iff_eq, Option.some.injEq]
    omega
  · refine exec_due (c := .acquireTimeout now) ?_
    simp only [Instr.due, up, acquire, from_f, Config.acquireTimeout, beq_self_eq_true, Bool.true_and, beq_iff_eq, Option.some.injEq]
    omega
  · have delay : c + s.load.params.alert.delay * Config.clockSecond = now.clk := by rw [← due, Config.clockSecond]
    refine exec_due (c := .alertDelayExpiry now) ?_
    rw [Instr.due, State.loaded_iff.mpr loaded, from_c, Option.any_some, delay, beq_self_eq_true, Bool.true_and]

/-- Settles O49: the entry by whether the kind is held, and the rest as it is written. -/
theorem raisingsMakeAlarmsAndAlert : Obligations.RaisingsMakeAlarmsAndAlert := by
  intro k s t
  refine ⟨raiseIn_new, fun pre e post held kind first => ?_, rfl, fun idle => ?_, fun c runs => ?_, ?_, rfl⟩
  · change raiseIn k s.time.n s.maint.alarms = _
    rw [held]
    exact raiseIn_held kind first
  · change some (s.maint.alertFrom.getD s.clk) = _
    rw [idle]
    rfl
  · change some (s.maint.alertFrom.getD s.clk) = _
    rw [runs]
    rfl
  · change (s.maint.alertN || (s.loaded && decide (s.load.params.alert.count ≤ t.maint.raisings))) = true ↔ _
    simp [State.loaded_iff]

/-- Settles O54: each command by its standing, as its effect answers it. -/
theorem commandsAnswerByStanding : Obligations.CommandsAnswerByStanding := by
  intro now s loaded answered
  refine ⟨?leaves, ?held, ?kept, ?rejoins, ?aborts, ?stays, ?armed, ?busy⟩
  case leaves =>
    rintro (⟨p, survey⟩ | deferred)
    · rw [exec_withdraw loaded]
      simp [State.withdrawEffect, survey, answered, State.at, State.enterQuiet, State.recordCommand]
    · rw [exec_withdraw loaded]
      simp [State.withdrawEffect, deferred, answered, State.at, State.enterQuiet, State.recordCommand]
  case held =>
    intro active
    rw [exec_withdraw loaded]
    simp [State.withdrawEffect, active, answered, State.at, State.recordCommand]
  case kept =>
    rintro (standing | standing | standing) <;> rw [exec_withdraw loaded] <;>
      simp [State.withdrawEffect, standing, answered, State.at, State.recordCommand]
  case rejoins =>
    rintro (⟨standby, idle⟩ | faulted)
    · rw [exec_rejoin loaded]
      simp [State.rejoinEffect, standby, idle, answered, State.at, State.recordCommand, State.abortTest, State.enterSurvey, State.enterWatch]
    · rw [exec_rejoin loaded]
      simp [State.rejoinEffect, faulted, answered, State.at, State.recordCommand, State.enterSurvey, State.enterWatch]
  case aborts =>
    intro standby busy
    refine ⟨_, exec_rejoin loaded, ?_⟩
    have effect : (s.at now).rejoinEffect = (s.at now).abortTest.enterSurvey.recordCommand 0x83#8 .accepted := by
      simp [State.rejoinEffect, standby]
    rw [effect]
    cases test : s.ctl.test.state
    · exact absurd test busy
    all_goals
      simp [State.abortTest, State.endTest, State.testRunning, test, State.enterSurvey, State.enterWatch, State.recordCommand,
        State.startFilter, State.at]
  case stays =>
    rintro (⟨p, standing⟩ | standing | standing | standing) <;> rw [exec_rejoin loaded] <;>
      simp [State.rejoinEffect, standing, answered, State.at, State.recordCommand]
  case armed =>
    intro standby idle
    refine ⟨_, exec_selftest loaded, ?_⟩
    have effect : (s.at now).selftestEffect = (s.at now).armTest.recordCommand 0x84#8 .accepted := by
      simp [State.selftestEffect, standby, idle]
    rw [effect]
    cases set : s.time.n <;> simp [State.armTest, State.timeSet, set, answered, State.recordCommand, State.at, SelfTest.reset]
  case busy =>
    intro other
    rw [exec_selftest loaded]
    have off : ¬ (s.ctl.standing = .standby ∧ s.ctl.test.state = .idle) := by tauto
    simp [State.selftestEffect, off, answered, State.recordCommand, State.at]

end Sys2Proof.Proofs
end

section
/-!
PROOFS. The second length at an epoch (R22 to R26): what is done with the samples and steps held, and what the rest of the epoch leaves of
the Second Timer.
-/

namespace Sys2Proof.Machine

variable {s : State}

/-! ## What is done at an epoch -/

/-- Whether a sample of error `e` is used for steering, and not taken as a step (R26). -/
def Timer.MayUse (t : Timer) (active : Bool) (e : Int) : Prop := active = true ∨ (t.heldStep = none ∧ -1000 ≤ e ∧ e ≤ 1000)

theorem disciplineOf_steer {active : Bool} {source : PhaseSource} {t : Timer} {e : Int} {n : Nat}
    (sample : heldSample source t = some (e, n)) (may : t.MayUse active e) : disciplineOf active source t = .steer e n := by
  obtain rfl | ⟨unheld, low, high⟩ := may
  · simp [disciplineOf, sample]
  · have small : ¬ Config.stepLimit < (e.natAbs : Int) := by
      simp only [Config.stepLimit]
      omega
    simp [disciplineOf, sample, unheld, small, -Nat.cast_natAbs]

theorem disciplineOf_flywheel {active : Bool} {source : PhaseSource} {t : Timer} (sample : heldSample source t = none)
    (noStep : t.heldStep = none ∨ active = true) : disciplineOf active source t = .flywheel := by
  obtain unheld | rfl := noStep
  · simp [disciplineOf, sample, unheld]
  · simp [disciplineOf, sample]

theorem disciplineOf_heldStep {source : PhaseSource} {t : Timer} {e : Int} (held : t.heldStep = some e) :
    disciplineOf false source t = .heldStep e := by
  simp [disciplineOf, held]

theorem disciplineOf_sampleStep {source : PhaseSource} {t : Timer} {e : Int} {n : Nat} (unheld : t.heldStep = none)
    (sample : heldSample source t = some (e, n)) (large : e < -1000 ∨ 1000 < e) : disciplineOf false source t = .sampleStep e := by
  have large' : Config.stepLimit < (e.natAbs : Int) := by
    simp only [Config.stepLimit]
    omega
  simp [disciplineOf, sample, unheld, large', -Nat.cast_natAbs]

/-- The second that a discipline fixes, with the phase source set and everything held spent (R25, R26). -/
def Timer.disciplined (t : Timer) (source : PhaseSource) (d : Discipline) : Timer :=
  let t := { t with source := source }
  let spent : Timer :=
    match d with
    | .flywheel => t.spend t.f 0
    | .steer e n => (t.spend (steeredF t.f e n) (phaseCorrection e)).sampleUsed source e
    | .sampleStep e => ({ t with length := Config.nominalSecond + e } : Timer).sampleUsed source e
    | .heldStep e => { t with length := Config.nominalSecond + e }
  { spent with heldRef := none, heldLine := none, heldStep := none }

/-- The phase source that an epoch sets (R23). -/
def State.epochSource (s : State) : PhaseSource :=
  phaseSource s.ref.state s.load.params.site.lineDiscipline s.timer.ageMarkers.receivedMarker

/-- What an epoch does with what is held (R25, R26). -/
def State.epochDiscipline (s : State) : Discipline := disciplineOf (s.ctl.standing == .active) s.epochSource s.timer.ageMarkers

theorem State.timeSecond_timer (s : State) : s.timeSecond.timer =
    (s.timer.ageMarkers.disciplined s.epochSource s.epochDiscipline).beginSecond s.keyAdvance s.tick := rfl

theorem State.epochSteps_iff (s : State) :
    s.epochSteps = true ↔ ∃ e, s.epochDiscipline = .sampleStep e ∨ s.epochDiscipline = .heldStep e := by
  change (match s.epochDiscipline with | .sampleStep _ => true | .heldStep _ => true | _ => false) = true ↔ _
  cases s.epochDiscipline <;> simp

/-! ## The phase source -/

theorem State.epochSource_locked (locked : s.ref.state = .locked) : s.epochSource = .ref := by
  simp [State.epochSource, phaseSource, locked]

theorem State.epochSource_line {m : Nat} (unlocked : s.ref.state ≠ .locked) (disciplined : s.load.params.site.lineDiscipline = true)
    (received : s.timer.receivedMarker = some m) (recent : m + 1 ≤ 120) : s.epochSource = .line := by
  have recent' : m + 1 ≤ Config.lineEpochs := recent
  simp [State.epochSource, phaseSource, unlocked, disciplined, Timer.ageMarkers, received, recent']

theorem State.epochSource_none (unlocked : s.ref.state ≠ .locked)
    (silent : s.load.params.site.lineDiscipline = false ∨ ∀ m ∈ s.timer.receivedMarker, 120 < m + 1) : s.epochSource = .noSource := by
  simp only [State.epochSource, phaseSource, unlocked, if_false]
  obtain off | old := silent
  · simp [off]
  · cases received : s.timer.receivedMarker
    · simp [Timer.ageMarkers, received]
    · have old' := old _ received
      simp [Timer.ageMarkers, received, Config.lineEpochs]
      omega

theorem heldSample_none {source : PhaseSource} {t : Timer} (ref : t.heldRef = none) (line : t.heldLine = none) :
    heldSample source t = none := by
  cases source <;> simp [heldSample, ref, line]

/-! ## What the rest of the epoch leaves -/

/-- The Second Timer but for the past seconds and the step held. -/
def Timer.rhythm (t : Timer) : Timer := { t with past := [], heldStep := none }

@[simp] theorem State.openEpoch_rhythm (t0 : Int) (s : State) : (s.openEpoch t0).timer.rhythm = s.timer.rhythm := rfl

@[simp] theorem State.setN_rhythm (n : Int) (s : State) : (s.setN n).timer.rhythm = s.timer.rhythm := rfl

@[simp] theorem State.advanceTo_rhythm (n : Int) (step : LeapStep) (s : State) : (s.advanceTo n step).timer.rhythm = s.timer.rhythm := rfl

@[simp] theorem State.setTime_rhythm (n : Int) (origin : Origin) (s : State) : (s.setTime n origin).timer.rhythm = s.timer.rhythm := by
  simp [State.setTime, Timer.rhythm, State.setN]

@[simp] theorem State.endRange_rhythm (s : State) : s.endRange.timer.rhythm = s.timer.rhythm := by
  unfold State.endRange
  dsimp only
  split <;> simp [Timer.rhythm]

@[simp] theorem State.shiftCount_rhythm (difference : Int) (s : State) : (s.shiftCount difference).timer.rhythm = s.timer.rhythm := by
  unfold State.shiftCount
  split <;> simp [Timer.rhythm, State.setN]

@[simp] theorem State.shiftAtEpoch_rhythm (difference : Int) (s : State) : (s.shiftAtEpoch difference).timer.rhythm = s.timer.rhythm := by
  unfold State.shiftAtEpoch
  split <;> simp

@[simp] theorem State.countAtEpoch_rhythm (coming : Option (Int × LeapStep)) (e : Int) (s : State) :
    (s.countAtEpoch coming e).timer.rhythm = s.timer.rhythm := by
  unfold State.countAtEpoch
  repeat' split
  all_goals simp

/-- A pending re-set's count part taken at an epoch (R53). -/
def State.resetCounted (r : PendingReset) (s : State) : State :=
  match r.difference with
  | some d => s.dropPendingReset.shiftAtEpoch d
  | none => s.dropPendingReset

/-- A pending re-set taken at an epoch, its phase part held as a step (R53). -/
def State.resetTaken (r : PendingReset) (s : State) : State :=
  match r.phase with
  | some e => (s.resetCounted r).holdStep e
  | none => s.resetCounted r

theorem State.takePendingReset_none (h : s.time.pendingReset = none) : s.takePendingReset = (s, false) := by
  simp [State.takePendingReset, h]

theorem State.takePendingReset_taken {r : PendingReset} (held : s.time.pendingReset = some r) (off : s.ctl.standing ≠ .active) :
    s.takePendingReset = (s.resetTaken r,
      r.difference.any (fun d => (s.dropPendingReset.shiftsTo d).isSome) || r.phase.isSome) := by
  simp only [State.takePendingReset, held, off, if_false]
  rfl

/-- What an epoch makes of a pending re-set: it is taken, or it stands (R53). -/
theorem State.takePendingReset_cases (s : State) :
    s.takePendingReset = (s, false) ∨ ∃ r, s.time.pendingReset = some r ∧ s.takePendingReset.1 = s.resetTaken r := by
  cases held : s.time.pendingReset with
  | none => exact .inl (State.takePendingReset_none held)
  | some r =>
    by_cases active : s.ctl.standing = .active
    · exact .inl (State.takePendingReset_active active)
    · exact .inr ⟨r, rfl, by rw [State.takePendingReset_taken held active]⟩

@[simp] theorem State.resetTaken_rhythm (r : PendingReset) (s : State) : (s.resetTaken r).timer.rhythm = s.timer.rhythm := by
  have counted : (s.resetCounted r).timer.rhythm = s.timer.rhythm := by
    unfold State.resetCounted
    split <;> simp
  unfold State.resetTaken
  split
  · exact counted
  · exact counted

@[simp] theorem State.takePendingReset_rhythm (s : State) : s.takePendingReset.1.timer.rhythm = s.timer.rhythm := by
  obtain same | ⟨r, -, taken⟩ := s.takePendingReset_cases
  · rw [same]
  · rw [taken, State.resetTaken_rhythm]

/-- An epoch's second is timed once: nothing that follows in it moves the timer, but for a step held for the next epoch. -/
theorem State.epochEffect_rhythm (s : State) : s.epochEffect.timer.rhythm = s.timeSecond.timer.rhythm := by
  simp [State.epochEffect_eq, State.epochReset, State.epochCounted]

/-! ## Phase errors -/

theorem wrapError_range (d : Int) : -5000000 ≤ wrapError d ∧ wrapError d ≤ 4999999 ∧ (d - wrapError d) % 10000000 = 0 := by
  simp only [wrapError, Config.halfWindow, Config.nominalSecond]
  omega

theorem correctionTicks_nearest (ns : Int) (positive : 0 ≤ ns) :
    100 * correctionTicks ns - 50 ≤ ns ∧ ns < 100 * correctionTicks ns + 50 := by
  simp only [correctionTicks, positive, if_true]
  omega

theorem correctionTicks_neg (ns : Int) : correctionTicks (-ns) = -correctionTicks ns := by
  unfold correctionTicks
  split <;> split <;> omega

/-! ## The second that an epoch fixes -/

/-- What the epoch leaves of the Second Timer is what the discipline fixed (R17, R25). -/
theorem State.epochEffect_timed (s : State) : s.epochEffect.timer.rhythm =
    ((s.timer.ageMarkers.disciplined s.epochSource s.epochDiscipline).beginSecond s.keyAdvance s.tick).rhythm := by
  rw [State.epochEffect_rhythm, State.timeSecond_timer]

/-- The fields of the Second Timer that an epoch fixes. -/
structure Timer.SameRhythm (t u : Timer) : Prop where
  monitor : t.monitor = u.monitor
  epoch : t.epoch = u.epoch
  length : t.length = u.length
  nextEpoch : t.nextEpoch = u.nextEpoch
  nextDrive : t.nextDrive = u.nextDrive
  driveTaken : t.driveTaken = u.driveTaken
  f : t.f = u.f
  a : t.a = u.a
  source : t.source = u.source
  lastError : t.lastError = u.lastError
  heldRef : t.heldRef = u.heldRef
  heldLine : t.heldLine = u.heldLine
  receivedMarker : t.receivedMarker = u.receivedMarker
  usedMarker : t.usedMarker = u.usedMarker

theorem Timer.sameRhythm {t u : Timer} (h : t.rhythm = u.rhythm) : t.SameRhythm u := by
  simp only [Timer.rhythm, Timer.mk.injEq] at h
  obtain ⟨monitor, -, epoch, length, nextEpoch, nextDrive, driveTaken, f, a, source, lastError, heldRef, heldLine, -, receivedMarker,
    usedMarker, -⟩ := h
  exact ⟨monitor, epoch, length, nextEpoch, nextDrive, driveTaken, f, a, source, lastError, heldRef, heldLine, receivedMarker, usedMarker⟩

theorem State.epochEffect_sameRhythm (s : State) : s.epochEffect.timer.SameRhythm
    ((s.timer.ageMarkers.disciplined s.epochSource s.epochDiscipline).beginSecond s.keyAdvance s.tick) :=
  Timer.sameRhythm s.epochEffect_timed

/-- F, the length and A after steps 3 to 5 of R25 with `f` and `p`. -/
def Timer.Corrects (t : Timer) (f p : Int) (u : Timer) : Prop :=
  u.f = f ∧ u.length = 10000000 + p + (t.a + f) / 65536 ∧ u.a = t.a + f - 65536 * ((t.a + f) / 65536)

theorem Timer.disciplined_source (t : Timer) (source : PhaseSource) (d : Discipline) : (t.disciplined source d).source = source := by
  cases d <;> rfl

theorem State.epochEffect_source (s : State) : s.epochEffect.timer.source = s.epochSource :=
  s.epochEffect_sameRhythm.source.trans (Timer.disciplined_source _ _ _)

theorem State.epochEffect_flywheels (flywheels : s.epochDiscipline = .flywheel) :
    s.timer.Corrects s.timer.f 0 s.epochEffect.timer ∧ s.epochEffect.timer.lastError = s.timer.lastError := by
  have timed := s.epochEffect_sameRhythm
  rw [flywheels] at timed
  exact ⟨⟨timed.f, timed.length, timed.a⟩, timed.lastError⟩

theorem State.epochEffect_steers {e : Int} {n : Nat} (steers : s.epochDiscipline = .steer e n) :
    s.timer.Corrects (steeredF s.timer.f e n) (phaseCorrection e) s.epochEffect.timer ∧ s.epochEffect.timer.lastError = some e ∧
      (s.epochSource = .line → s.epochEffect.timer.usedMarker = some 0) := by
  have timed := s.epochEffect_sameRhythm
  rw [steers] at timed
  refine ⟨⟨timed.f, timed.length, timed.a⟩, timed.lastError, fun line => ?_⟩
  rw [timed.usedMarker, line]
  rfl

theorem clampInt_eq (x lo hi : Int) (h : lo ≤ hi) : clampInt x lo hi = max lo (min hi x) := by
  unfold clampInt
  split
  · omega
  · split <;> omega

theorem steeredF_recent {f e : Int} {n : Nat} (recent : n ≤ 120) :
    steeredF f e n = max (-3276800) (min 3276800 (f + (e * 256).tdiv n)) := by
  have recent' : n ≤ Config.lineEpochs := recent
  rw [steeredF, if_pos recent', clampInt_eq _ _ _ (by decide)]
  rfl

theorem steeredF_old {f e : Int} {n : Nat} (old : 120 < n) : steeredF f e n = f := if_neg (by simp only [Config.lineEpochs]; omega)

theorem phaseCorrection_eq (e : Int) : phaseCorrection e = max (-20) (min 20 (e.tdiv 8)) := clampInt_eq _ _ _ (by decide)

end Sys2Proof.Machine

namespace Sys2Proof.Proofs

open Sys2Proof.Machine

/-- Settles O13: the discipline of the epoch by the source and the sample held, and what the rest of the epoch leaves of the timer. -/
theorem secondLengthFollowsTheSample : Obligations.SecondLengthFollowsTheSample := by
  refine ⟨fun now s due => ?_, wrapError_range, correctionTicks_nearest, correctionTicks_neg, fun _ _ _ => rfl⟩
  have timed := (s.at now).epochEffect_sameRhythm
  refine ⟨_, exec_epoch due, timed.epoch, ?_, ?_, timed.driveTaken, timed.heldRef, timed.heldLine, ?_⟩
  · rw [timed.nextEpoch, timed.length]
    rfl
  · rw [timed.nextDrive, timed.length]
    rfl
  intro corrects mayUse limited phase
  have may {e : Int} (h : mayUse e) : (s.at now).timer.ageMarkers.MayUse (s.ctl.standing == .active) e := by
    obtain active | small := h
    · exact .inl (by simp [active])
    · exact .inr small
  refine ⟨?ref, ?line, ?_⟩
  case ref =>
    intro e locked held use
    have source : (s.at now).epochSource = .ref := State.epochSource_locked locked
    have steers : (s.at now).epochDiscipline = .steer e 1 :=
      disciplineOf_steer (by rw [source]; simp [heldSample, held]) (may use)
    obtain ⟨corrected, error, -⟩ := State.epochEffect_steers steers
    rw [steeredF_recent (by decide), phaseCorrection_eq, Nat.cast_one, Int.tdiv_one] at corrected
    exact ⟨corrected, (State.epochEffect_source _).trans source, error⟩
  case line =>
    intro e m unlocked disciplined received recent held use
    have source : (s.at now).epochSource = .line := State.epochSource_line unlocked disciplined received recent
    have steers : (s.at now).epochDiscipline = .steer e ((s.timer.usedMarker.map (· + 1)).getD 121) :=
      disciplineOf_steer (by rw [source]; simp [heldSample, held, Timer.ageMarkers, Config.lineEpochs]) (may use)
    obtain ⟨corrected, error, marker⟩ := State.epochEffect_steers steers
    rw [phaseCorrection_eq] at corrected
    refine ⟨(State.epochEffect_source _).trans source, error, marker source, fun u used recent => ?_, fun old => ?_⟩
    · rw [used, Option.map_some, Option.getD_some, steeredF_recent recent] at corrected
      exact corrected
    · rw [steeredF_old ?_] at corrected
      · exact corrected
      · cases used : s.timer.usedMarker
        · decide
        · exact old _ used
  intro noStep flywheels
  have quiet (unheld : heldSample (s.at now).epochSource (s.at now).timer.ageMarkers = none) (free : noStep) : flywheels := by
    refine State.epochEffect_flywheels (s := s.at now) (disciplineOf_flywheel unheld ?_)
    exact free.imp id fun active => by simp [active]
  refine ⟨fun ref line => quiet (heldSample_none ref line), fun locked ref free => ?_, fun unlocked silent => ?_⟩
  · have source : (s.at now).epochSource = .ref := State.epochSource_locked locked
    exact ⟨quiet (by rw [source]; simp [heldSample, ref]) free, (State.epochEffect_source _).trans source⟩
  · have source : (s.at now).epochSource = .noSource := State.epochSource_none unlocked silent
    exact ⟨(State.epochEffect_source _).trans source, quiet (by rw [source]; rfl)⟩

end Sys2Proof.Proofs
end

section
/-!
PROOFS. The stages of an epoch (R17): the count, the pending re-set, the retirements and the builds, each said once, and with them the
steps taken off the line (R26, R52) and the first epoch (R18).
-/

namespace Sys2Proof.Machine

variable {s : State}

/-! ## The step held for the next epoch -/

@[simp] theorem State.timeSecond_heldStep (s : State) : s.timeSecond.timer.heldStep = none := by
  rw [State.timeSecond_timer]
  rfl

@[simp] theorem State.setN_heldStep (n : Int) (s : State) : (s.setN n).timer.heldStep = s.timer.heldStep := rfl

@[simp] theorem State.setTime_heldStep (n : Int) (origin : Origin) (s : State) :
    (s.setTime n origin).timer.heldStep = s.timer.heldStep := by simp [State.setTime]

@[simp] theorem State.endRange_heldStep (s : State) : s.endRange.timer.heldStep = s.timer.heldStep := by
  unfold State.endRange
  dsimp only
  split <;> simp

@[simp] theorem State.countAtEpoch_heldStep (coming : Option (Int × LeapStep)) (e : Int) (s : State) :
    (s.countAtEpoch coming e).timer.heldStep = s.timer.heldStep := by
  unfold State.countAtEpoch
  repeat' split
  · simp
  · rfl
  all_goals simp

@[simp] theorem State.epochCounted_heldStep (s : State) : s.epochCounted.timer.heldStep = none := by
  simp [State.epochCounted, State.openEpoch]

/-! ## The count -/

theorem State.endRange_time (s : State) : s.endRange.time = s.time.unset := by
  unfold State.endRange
  dsimp only
  split <;> simp

/-- The count of an epoch drops a pending re-set at most (R49). -/
theorem State.epochCounted_pendingReset (s : State) :
    s.epochCounted.time.pendingReset = s.time.pendingReset ∨ s.epochCounted.time.pendingReset = none := by
  have counted : ((s.timeSecond.openEpoch s.presentDrive).countAtEpoch s.comingCount s.tick).time.pendingReset = s.time.pendingReset ∨
      ((s.timeSecond.openEpoch s.presentDrive).countAtEpoch s.comingCount s.tick).time.pendingReset = none := by
    unfold State.countAtEpoch
    split
    · split
      · exact .inr (by rw [State.endRange_time]; rfl)
      · exact .inl (by simp)
    · split
      · split
        · exact .inl (by simp)
        · exact .inl (by simp)
      · exact .inl (by simp)
  simpa [State.epochCounted] using counted

/-- Unless the range ends, the count of an epoch leaves the self-test alone. -/
theorem State.epochCounted_test (running : s.time.rangeEnding = false ∨ s.time.n = none) :
    s.epochCounted.ctl.test = s.ctl.test := by
  simp only [State.epochCounted, State.ageAlarm_frame]
  unfold State.countAtEpoch
  split
  next n step coming =>
    obtain running | unset := running
    · simp [running]
    · simp [State.comingCount, unset] at coming
  · split
    · split <;> simp
    · simp

/-- The count of an epoch leaves the standing, or moves it among those that watch the line. -/
theorem State.epochCounted_standing (s : State) :
    s.epochCounted.ctl.standing = s.ctl.standing ∨ s.epochCounted.ctl.standing.surveys = true := by
  simp only [State.epochCounted, State.ageAlarm_frame]
  unfold State.countAtEpoch
  split
  · split
    · rw [State.endRange_standing]
      split
      · exact .inr rfl
      · exact .inl (by simp)
    · exact .inl (by simp)
  next unset =>
    split
    · split
      · have unset' : (s.timeSecond.openEpoch s.presentDrive).time.n = none := by simpa using State.comingCount_none.mp unset
        obtain same | ⟨-, surveys⟩ := ((State.Moves.refl _).setTime unset' _ _).standing
        · exact .inl (same.trans (by simp))
        · exact .inr surveys
      · exact .inl (by simp)
    · exact .inl (by simp)

/-! ## The pending re-set -/

theorem State.epochReset_of_none (h : s.epochCounted.time.pendingReset = none) : s.epochReset = s.epochCounted :=
  congrArg Prod.fst (State.takePendingReset_none h)

/-- No step is left for the next epoch without a pending re-set off the line (R26, R53). -/
theorem State.epochEffect_heldStep (h : s.ctl.standing = .active ∨ s.time.pendingReset = none) : s.epochEffect.timer.heldStep = none := by
  have same : s.epochReset = s.epochCounted := by
    obtain active | none := h
    · exact congrArg Prod.fst (State.takePendingReset_active (State.epochCounted_active.mpr active))
    · exact State.epochReset_of_none (s.epochCounted_pendingReset.elim (fun h => h.trans none) id)
  rw [State.epochEffect_eq, same]
  simp

/-! ## The builds -/

/-- A frame that a catch-up build makes of the count `n`, with the comparison floor at it (R82, R125). -/
def State.CaughtUp (n : Int) (s : State) : Prop :=
  ∃ f, s.frames.current = some f ∧ f.n0 = n - n % 60 ∧ f.kind = .catchUp

theorem State.catchUpNow_caughtUp {n : Int} (set : s.time.n = some n) : s.catchUpNow.CaughtUp n := by
  unfold State.catchUpNow
  simp only [State.discardFrames_frame, set]
  split
  · exact ⟨_, rfl, rfl, rfl⟩
  · exact ⟨_, rfl, rfl, rfl⟩

theorem State.catchUp_caughtUp {n : Int} (set : s.time.n = some n) (loaded : s.ctl.standing ≠ .loading) : s.catchUp.CaughtUp n := by
  rw [State.catchUp, if_neg loaded]
  exact State.catchUpNow_caughtUp set

/-- The self-test at an applied re-set: a keyed test frame is aborted, anything else stands (R141). -/
theorem State.resetApplied_ctlTest (s : State) :
    s.resetApplied.ctl.test = if s.testFrameKeyed then (s.endTest .aborted).ctl.test else s.ctl.test := by
  unfold State.resetApplied
  dsimp only
  have keyed : ({ s with time := { s.time with leap60 := false } } : State).testFrameKeyed = s.testFrameKeyed := rfl
  rw [keyed]
  split
  · simp only [State.catchUp_frame]
    unfold State.endTest
    split <;> split <;> rfl
  · simp

@[simp] theorem State.resetApplied_pendingJoin (s : State) : s.resetApplied.ctl.pendingJoin = false := rfl

/-- An applied re-set makes a catch-up build, with the comparison floor at its frame (R52, R82, R125). -/
theorem State.resetApplied_caughtUp {n : Int} (set : s.time.n = some n) (loaded : s.ctl.standing ≠ .loading) :
    s.resetApplied.CaughtUp n ∧ ∃ f, s.resetApplied.frames.current = some f ∧ s.resetApplied.ctl.floor = some f.n0 := by
  have built (u : State) (set : u.time.n = some n) (loaded : u.ctl.standing ≠ .loading) (floor : Option Int)
      (same : floor = match u.catchUp.frames.current with | some f => some f.n0 | none => u.catchUp.ctl.floor) :
      u.catchUp.CaughtUp n ∧ ∃ f, u.catchUp.frames.current = some f ∧ floor = some f.n0 := by
    obtain ⟨f, current, start, kind⟩ := State.catchUp_caughtUp set loaded
    exact ⟨⟨f, current, start, kind⟩, f, current, by rw [same, current]⟩
  unfold State.resetApplied
  refine built _ ?_ ?_ _ rfl
  · split <;> simpa using set
  · split <;> simpa using loaded

@[simp] theorem State.buildPoint_current (s : State) : s.buildPoint.frames.current = s.frames.current := by
  unfold State.buildPoint
  split
  · split <;> rfl
  · rfl

theorem State.buildAtEpoch_true (s : State) : s.buildAtEpoch true = s.resetApplied.buildPoint := rfl

theorem State.buildAtEpoch_false (s : State) : s.buildAtEpoch false = s.rebuildStale.buildPoint := rfl

/-- An epoch that applies a re-set clears the leap-60 flag and the pending join and catches up (R45, R52). -/
theorem State.epochEffect_resets (resets : s.epochResets = true) :
    s.epochEffect.time.leap60 = false ∧ s.epochEffect.ctl.pendingJoin = false ∧
      (∀ n, s.epochEffect.time.n = some n → s.epochReset.ctl.standing ≠ .loading →
        s.epochEffect.CaughtUp n ∧ ∃ f, s.epochEffect.frames.current = some f ∧ s.epochEffect.ctl.floor = some f.n0) ∧
      s.epochEffect.ctl.test =
        if s.epochReset.testFrameKeyed then (s.epochReset.endTest .aborted).ctl.test else s.epochReset.ctl.test := by
  rw [State.epochEffect_eq, resets, State.buildAtEpoch_true]
  refine ⟨by simp, by simp, fun n set loaded => ?_, ?_⟩
  · have set' : s.epochReset.entriesAtEpoch.time.n = some n := by simpa using set
    obtain ⟨caught, floor⟩ := State.resetApplied_caughtUp set' (by simpa using loaded)
    simpa [State.CaughtUp] using And.intro caught floor
  · simp only [State.buildPoint_frame, State.resetApplied_ctlTest]
    have keyed : s.epochReset.entriesAtEpoch.testFrameKeyed = s.epochReset.testFrameKeyed := by
      simp [State.testFrameKeyed, State.testRunning]
    rw [keyed]
    unfold State.endTest
    split
    · split <;> split <;> simp [State.startFilter]
    · simp

/-! ## A step -/

/-- Only the range's end or a count taken for the present second moves the standing at an epoch, and neither to LOADING. -/
theorem State.epochReset_loaded (loaded : s.ctl.standing ≠ .loading) : s.epochReset.ctl.standing ≠ .loading := by
  simp only [State.epochReset, State.takePendingReset_frame]
  obtain same | surveys := s.epochCounted_standing
  · rwa [same]
  · intro loading
    rw [loading] at surveys
    cases surveys

/-- The second that a step fixes (R26): of the step's length, with F and A as they were. -/
theorem State.epochEffect_stepped {e : Int} (steps : s.epochDiscipline = .heldStep e ∨ s.epochDiscipline = .sampleStep e) :
    s.epochEffect.timer.length = 10000000 + e ∧ s.epochEffect.timer.f = s.timer.f ∧ s.epochEffect.timer.a = s.timer.a := by
  have timed := s.epochEffect_sameRhythm
  obtain steps | steps := steps <;> rw [steps] at timed <;> exact ⟨timed.length, timed.f, timed.a⟩

theorem State.epochResets_of_steps {e : Int} (steps : s.epochDiscipline = .heldStep e ∨ s.epochDiscipline = .sampleStep e) :
    s.epochResets = true := by
  have stepped : s.epochSteps = true := s.epochSteps_iff.mpr ⟨e, steps.symm⟩
  simp [State.epochResets, stepped]

/-- The self-test after an epoch that applies a re-set (R141), by the test as the epoch's count left it. -/
theorem State.epochEffect_test (resets : s.epochResets = true) :
    (s.epochReset.testFrameKeyed = true → s.epochEffect.ctl.test.state = .idle ∧ s.epochEffect.ctl.test.result = .aborted) ∧
      (s.epochReset.testFrameKeyed = false → s.epochEffect.ctl.test = s.epochReset.ctl.test) := by
  obtain ⟨-, -, -, test⟩ := State.epochEffect_resets resets
  rw [test]
  refine ⟨fun keyed => ?_, fun idle => by simp [idle]⟩
  rw [if_pos keyed]
  unfold State.endTest
  split <;> exact ⟨rfl, rfl⟩

theorem State.testFrameKeyed_iff (s : State) :
    s.testFrameKeyed = true ↔ s.ctl.test.state = .running ∧ s.ctl.test.closeDrive = none := by
  simp [State.testFrameKeyed, State.testRunning]

theorem State.epochReset_test (running : s.time.rangeEnding = false ∨ s.time.n = none) : s.epochReset.ctl.test = s.ctl.test := by
  simp only [State.epochReset, State.takePendingReset_frame, State.epochCounted_test running]

/-- A running self-test is over after an epoch at which the range ends (R138). -/
theorem State.epochReset_test_of_ending (ending : s.time.rangeEnding = true) (set : s.time.n.isSome = true) :
    s.epochReset.ctl.test.state = .idle := by
  obtain ⟨n, known⟩ := Option.isSome_iff_exists.mp set
  simp only [State.epochReset, State.takePendingReset_frame, State.epochCounted, State.ageAlarm_frame]
  have coming : s.comingCount = some (advanceOf n s.secondInserted s.schedule) := by simp [State.comingCount, known]
  rw [coming]
  simp only [State.countAtEpoch, State.openEpoch_frame, State.timeSecond_frame, ending, if_true]
  exact State.endRange_test _

/-! ## The first epoch -/

/-- The first epoch's second flywheels (R20, R25). -/
theorem State.firstEpoch_timer (flywheels : Flywheels s) :
    s.timer.Corrects s.timer.f 0 s.firstEpoch.timer ∧ s.firstEpoch.timer.epoch = some s.tick ∧
      s.firstEpoch.timer.nextEpoch = some (s.tick + s.firstEpoch.timer.length) ∧
      s.firstEpoch.timer.nextDrive = some (s.tick + s.firstEpoch.timer.length - s.keyAdvance) ∧
      s.firstEpoch.timer.driveTaken = false := by
  have quiet : ({ s with timer := { s.timer with monitor := .up } } : State).epochDiscipline = .flywheel :=
    disciplineOf_flywheel (heldSample_none flywheels.ref flywheels.line) (.inl flywheels.step)
  have timed := State.timeSecond_timer { s with timer := { s.timer with monitor := .up } }
  rw [quiet] at timed
  simp only [State.firstEpoch, State.openEpoch, timed]
  exact ⟨⟨rfl, rfl, rfl⟩, rfl, rfl, rfl, rfl⟩

theorem State.monitorUpEffect_timer (s : State) : s.monitorUpEffect.timer = s.firstEpoch.timer := by
  simp [State.monitorUpEffect, State.startFilter]

theorem State.monitorUpEffect_ctl (s : State) : s.monitorUpEffect.ctl = s.firstEpoch.standingAtUp.ctl := by
  simp [State.monitorUpEffect, State.startFilter]

end Sys2Proof.Machine

namespace Sys2Proof.Proofs

open Sys2Proof.Machine

/-- Settles O14: a held step or a large sample is the epoch's discipline, which fixes the second and applies a re-set. -/
theorem stepsAreTakenOffTheLine : Obligations.StepsAreTakenOffTheLine := by
  intro now s due
  refine ⟨_, exec_epoch due, fun active => State.epochEffect_heldStep (.inl active), ?_⟩
  intro e off large refStep lineStep cause
  have active : (s.ctl.standing == Standing.active) = false := by simpa using off
  have sampled {source : PhaseSource} {n : Nat} (is_large : large) (set : (s.at now).epochSource = source)
      (sample : heldSample source s.timer.ageMarkers = some (e, n)) : (s.at now).epochDiscipline = .sampleStep e := by
    change disciplineOf (s.ctl.standing == .active) (s.at now).epochSource s.timer.ageMarkers = _
    rw [active, set]
    exact disciplineOf_sampleStep is_large.1 sample is_large.2
  have held (step : s.timer.heldStep = some e) : (s.at now).epochDiscipline = .heldStep e := by
    change disciplineOf (s.ctl.standing == .active) (s.at now).epochSource s.timer.ageMarkers = _
    rw [active]
    exact disciplineOf_heldStep step
  have ref (h : refStep) : (s.at now).epochDiscipline = .sampleStep e ∧ (s.at now).epochSource = .ref := by
    obtain ⟨is_large, locked, sample⟩ := h
    have source : (s.at now).epochSource = .ref := State.epochSource_locked locked
    exact ⟨sampled is_large source (n := 1) (by simp [heldSample, sample]), source⟩
  have line (h : lineStep) : (s.at now).epochDiscipline = .sampleStep e ∧ (s.at now).epochSource = .line := by
    obtain ⟨is_large, unlocked, disciplined, ⟨m, received, recent⟩, sample⟩ := h
    have source : (s.at now).epochSource = .line := State.epochSource_line unlocked disciplined received recent
    exact ⟨sampled is_large source (n := (s.timer.usedMarker.map (· + 1)).getD 121) (by
      simp [heldSample, sample, Timer.ageMarkers, Config.lineEpochs]), source⟩
  have steps : (s.at now).epochDiscipline = .heldStep e ∨ (s.at now).epochDiscipline = .sampleStep e := by
    obtain step | h | h := cause
    · exact .inl (held step)
    · exact .inr (ref h).1
    · exact .inr (line h).1
  have resets := State.epochResets_of_steps steps
  obtain ⟨leap60, join, caught, -⟩ := State.epochEffect_resets resets
  obtain ⟨length, f, a⟩ := State.epochEffect_stepped steps
  have timed := (s.at now).epochEffect_sameRhythm
  obtain ⟨aborts, stands⟩ := State.epochEffect_test resets
  refine ⟨length, f, a, join, leap60, fun none => State.epochEffect_heldStep (.inr none), fun h => ?_, fun h => ?_, fun h => ?_,
    fun running key => ?_, fun running closing range => ?_, fun n set loaded => ?_⟩
  · obtain ⟨discipline, source⟩ := ref h
    rw [discipline] at timed
    exact ⟨(State.epochEffect_source _).trans source, timed.lastError⟩
  · obtain ⟨discipline, source⟩ := line h
    rw [discipline, source] at timed
    exact ⟨timed.source, timed.lastError, timed.usedMarker⟩
  · rw [held h] at timed
    exact timed.lastError
  · by_cases ends : s.time.rangeEnding = true ∧ s.time.n.isSome = true
    · have idle := State.epochReset_test_of_ending (s := s.at now) ends.1 ends.2
      refine ⟨?_, fun range => by simp [range] at ends⟩
      rw [stands (by rw [← Bool.not_eq_true, State.testFrameKeyed_iff, idle]; exact fun keyed => nomatch keyed.1)]
      exact idle
    · have test := State.epochReset_test (s := s.at now) (by
        rcases not_and_or.mp ends with running | unset
        · exact .inl (by simpa using running)
        · exact .inr (by simpa using unset))
      obtain ⟨idle, result⟩ := aborts ((State.testFrameKeyed_iff _).mpr (by rw [test]; exact ⟨running, key⟩))
      exact ⟨idle, fun _ => result⟩
  · have test := State.epochReset_test (s := s.at now) (.inl range)
    rw [stands ?_, test]
    · rfl
    · rw [← Bool.not_eq_true, State.testFrameKeyed_iff, test]
      exact fun keyed => closing keyed.2
  · obtain ⟨⟨g, current, start, kind⟩, g', current', floor⟩ := caught n set (State.epochReset_loaded (by exact loaded))
    obtain rfl := Option.some.inj (current.symm.trans current')
    exact ⟨g, current, start, kind, floor⟩

/-- Settles O11: the first epoch flywheels, and the standing turns by its cases. -/
theorem stableRunMakesTheFirstEpoch : Obligations.StableRunMakesTheFirstEpoch := by
  refine ⟨fun now s out down run flywheels => ?_, fun now s out down => ?_⟩
  · have due : Instr.due (.oscMonitorUp now) s = true := by simp [Instr.due, out, down, Config.stableRun, run]
    have answered : exec (.oscMonitorUp now) s = .next (s.at now).monitorUpEffect := exec_due due
    have up := State.firstEpoch_monitor (s.at now)
    obtain ⟨⟨f, length, a⟩, epoch, nextEpoch, nextDrive, fresh⟩ := State.firstEpoch_timer (s := s.at now) ⟨flywheels.ref, flywheels.line,
      flywheels.step⟩
    have timer := State.monitorUpEffect_timer (s.at now)
    have ctl := State.monitorUpEffect_ctl (s.at now)
    refine ⟨_, answered, timer ▸ up, timer ▸ epoch, timer ▸ f, ?_, ?_, timer ▸ nextEpoch, timer ▸ nextDrive, timer ▸ fresh,
      fun osc done => ?_, fun osc loading => ?_, fun other => ?_, ?_⟩
    · rw [timer, a]
      simp only [State.at_frame]
      omega
    · rw [timer, length]
      simp
    · rw [ctl]
      simp [State.standingAtUp, osc, State.loaded, done, State.enterSurvey, State.enterWatch, State.at]
    · rw [ctl]
      simp [State.standingAtUp, osc, State.loaded, loading, State.enterQuiet]
    · rw [ctl]
      simp only [State.standingAtUp, State.firstEpoch_frame, State.at_frame, other, if_false]
      split <;> simp
    · simp [State.at]
  · exact exec_due (c := .oscGapWhileDown now) (by simp [Instr.due, out, down])

end Sys2Proof.Proofs
end

section
/-!
PROOFS. The epoch of a second that takes no re-set (R17, R44 to R46, R51, R72): the count it gives, the entries that retire, and what it
leaves alone.
-/

namespace Sys2Proof.Machine

variable {s : State}

/-! ## The advance -/

theorem committedLeap_none {entries : List Entry} : committedLeap entries = none ↔ ∀ e ∈ entries, e.kind.isLeap = true → e.committed = false := by
  simp only [committedLeap, List.find?_eq_none, Bool.and_eq_true, not_and, Bool.not_eq_true]
  exact ⟨fun h e mem leap => by by_contra held; simp [h e mem (by simpa using held)] at leap,
    fun h e mem committed => by by_contra held; simp [h e mem (by simpa using held)] at committed⟩

theorem advanceOf_plain {entries : List Entry} (none : committedLeap entries = none) (n : Int) (inserted : Bool) :
    advanceOf n inserted entries = (n + 1, .plain) := by
  simp [advanceOf, none]

theorem advanceOf_insert {entries : List Entry} {e : Entry} {n : Int} (held : committedLeap entries = some e) (kind : e.kind = .leapInsert)
    (due : e.instant = n + 1) : advanceOf n false entries = (n, .inserted) := by
  simp [advanceOf, held, kind, due]

theorem advanceOf_inserted {entries : List Entry} {e : Entry} {n : Int} (held : committedLeap entries = some e) (kind : e.kind = .leapInsert) :
    advanceOf n true entries = (n + 1, .plain) := by
  simp [advanceOf, held, kind]

theorem advanceOf_delete {entries : List Entry} {e : Entry} {n : Int} (held : committedLeap entries = some e) (kind : e.kind = .leapDelete)
    (due : e.instant = n + 2) (inserted : Bool) : advanceOf n inserted entries = (n + 2, .deleted) := by
  simp [advanceOf, held, kind, due]

/-- A committed leap that is not due yet leaves the advance plain (R45, R46). -/
theorem advanceOf_early {entries : List Entry} {e : Entry} {n : Int} (held : committedLeap entries = some e)
    (early : (e.kind = .leapInsert ∧ e.instant ≠ n + 1) ∨ (e.kind = .leapDelete ∧ e.instant ≠ n + 2)) (inserted : Bool) :
    advanceOf n inserted entries = (n + 1, .plain) := by
  obtain ⟨kind, other⟩ | ⟨kind, other⟩ := early
  · simp [advanceOf, held, kind, Ne.symm other]
  · simp [advanceOf, held, kind, Ne.symm other]

theorem State.comingCount_set {n : Int} (set : s.time.n = some n) : s.comingCount = some (advanceOf n s.secondInserted s.schedule) := by
  simp [State.comingCount, set]

/-- The state whose count an epoch takes: its second length fixed, and its second opened (R17). -/
def State.epochOpened (s : State) : State := s.timeSecond.openEpoch s.presentDrive

@[simp] theorem State.epochOpened_frame (s : State) : s.epochOpened.tick = s.tick ∧ s.epochOpened.clk = s.clk ∧ s.epochOpened.ref = s.ref ∧
    s.epochOpened.time = s.time ∧ s.epochOpened.schedule = s.schedule ∧ s.epochOpened.frames = s.frames ∧ s.epochOpened.key = s.key ∧
    s.epochOpened.line = s.line ∧ s.epochOpened.ctl = s.ctl ∧ s.epochOpened.load = s.load ∧ s.epochOpened.maint = s.maint ∧
    s.epochOpened.pending = s.pending := by
  simp [State.epochOpened]

/-- The advance of an epoch, with what the epoch makes of the count (R44). -/
theorem State.epochCounted_advances {n n' : Int} {step : LeapStep} (set : s.time.n = some n) (running : s.time.rangeEnding = false)
    (advance : advanceOf n s.secondInserted s.schedule = (n', step)) :
    s.epochCounted = (s.epochOpened.advanceTo n' step).ageAlarm s.cls := by
  have coming : s.comingCount = some (n', step) := by rw [State.comingCount_set set, advance]
  change (s.epochOpened.countAtEpoch s.comingCount s.tick).ageAlarm s.cls = _
  rw [coming]
  simp [State.countAtEpoch, running]

/-- The epoch at which the range ends (R49). -/
theorem State.epochCounted_ends {n : Int} (set : s.time.n = some n) (ending : s.time.rangeEnding = true) :
    s.epochCounted = s.epochOpened.endRange.ageAlarm s.cls := by
  change (s.epochOpened.countAtEpoch s.comingCount s.tick).ageAlarm s.cls = _
  rw [State.comingCount_set set]
  simp [State.countAtEpoch, ending]

/-- The range's mark by the count that begins (R49): the last count, or a deletion that would pass it. -/
theorem rangeEnds_plain {entries : List Entry} (none : committedLeap entries = none) {n : Int} (range : n ≤ 3155759999) (inserted : Bool) :
    rangeEnds n inserted entries = decide (n = 3155759999) := by
  have passes : 3155759999 ≤ n ↔ n = 3155759999 := by omega
  have last : decide (n = Config.lastCount) = decide (n = 3155759999) := rfl
  rw [rangeEnds, advanceOf_plain none, last, Bool.eq_iff_iff]
  simp [passes, Config.lastCount]

theorem AdvancesPlainly.leap_none {n : Int} (plain : AdvancesPlainly n s) : committedLeap s.schedule = none :=
  committedLeap_none.mpr plain.leap

/-- What the advance of a plain second makes of the time scale and the pending join (R44, R49). -/
theorem State.advanceTo_plain {n : Int} (plain : AdvancesPlainly n s) (within : n + 1 ≤ 3155759999) :
    (s.epochOpened.advanceTo (n + 1) .plain).time = { s.time with
        n := some (n + 1), leap60 := false, age := ageLater s.time, rangeEnding := decide (n + 1 = 3155759999) } ∧
      (s.epochOpened.advanceTo (n + 1) .plain).ctl = { s.ctl with
        pendingJoin := s.ctl.pendingJoin && !decide (n + 1 = 3155759999) } := by
  have stays : ¬ Config.lastCount < n + 1 := by
    simp only [Config.lastCount]
    omega
  have ends (inserted : Bool) : rangeEnds (n + 1) inserted s.schedule = decide (n + 1 = 3155759999) :=
    rangeEnds_plain plain.leap_none within inserted
  constructor
  · rw [State.advanceTo_time]
    simp [stays, plain.running, State.epochOpened, ends]
  · simp [State.advanceTo, State.setN, stays, plain.running, ends]

/-! ## What an epoch leaves alone -/

theorem State.ageAlarm_stays {before : TimeClass} (stays : ¬ (before = .b ∧ s.cls = .c)) : s.ageAlarm before = s := if_neg stays

theorem State.setSchedule_same : s.setSchedule s.schedule = s := if_pos rfl

theorem State.retire_none {n : Int} (none : ∀ e ∈ s.schedule, e.instant ≠ n) : s.retire n = s := by
  have kept : s.schedule.filter (fun e => decide (e.instant ≠ n)) = s.schedule :=
    List.filter_eq_self.mpr fun e mem => by simpa using none e mem
  have missing : s.schedule.find? (fun e => decide (e.instant = n) && e.kind == .offset) = Option.none :=
    List.find?_eq_none.mpr fun e mem => by simp [none e mem]
  simp only [State.retire, kept, missing, State.setSchedule_same]

theorem yearStart_within {n : Int} (within : n % 86400 ≠ 0) : yearStart n = false := by
  simp [yearStart, secondOfDay, within]

/-- At an epoch with no entry due and no year begun, the schedule and the offset stand (R66, R72). -/
theorem State.entriesAtEpoch_none {n : Int} (set : s.time.n = some n) (none : ∀ e ∈ s.schedule, e.instant ≠ n) (within : n % 86400 ≠ 0) :
    s.entriesAtEpoch = s := by
  simp [State.entriesAtEpoch, set, State.retire_none none, yearStart_within within]

theorem State.rebuildStale_fresh (fresh : ∀ f ∈ s.frames.next, f.stale = false) : s.rebuildStale = s := by
  unfold State.rebuildStale
  split
  next f held => simp [fresh f held]
  · rfl

theorem indexIn_eq {f : Frame} {n : Int} {i : Nat} (positive : 0 < i) : indexIn f n false = i ↔ n = f.n0 + i := by
  simp only [indexIn, Bool.false_eq_true, if_false]
  omega

theorem State.buildPoint_none {n : Int} (set : s.time.n = some n) (plain : s.time.leap60 = false)
    (other : s.frames.next = none → ∀ f ∈ s.frames.current, n ≠ f.n0 + 45) : s.buildPoint = s := by
  unfold State.buildPoint
  split
  next m f known current next =>
    obtain rfl := Option.some.inj (set.symm.trans known)
    rw [if_neg]
    rintro ⟨-, index⟩
    rw [plain, indexIn_eq (by decide)] at index
    exact other next f current index
  · rfl

/-! ## No step and no re-set -/

theorem State.epochSteps_flywheel (flywheels : Flywheels s) : s.epochSteps = false := by
  rw [← Bool.not_eq_true, State.epochSteps_iff]
  have quiet : s.epochDiscipline = .flywheel :=
    disciplineOf_flywheel (heldSample_none flywheels.ref flywheels.line) (.inl flywheels.step)
  simp [quiet]

theorem State.epochSteps_active (active : s.ctl.standing = .active) : s.epochSteps = false := by
  rw [← Bool.not_eq_true, State.epochSteps_iff]
  have steers := disciplineOf_active s.epochSource s.timer.ageMarkers
  rw [State.epochDiscipline, active]
  obtain flywheel | ⟨e, n, steer⟩ := steers
  · simp [flywheel]
  · simp [steer]

theorem State.epochReset_plain (unheld : s.time.pendingReset = none) : s.epochReset = s.epochCounted :=
  State.epochReset_of_none (s.epochCounted_pendingReset.elim (fun h => h.trans unheld) id)

theorem State.epochResets_plain (unheld : s.time.pendingReset = none) : s.epochResets = s.epochSteps := by
  have none : s.epochCounted.time.pendingReset = none := s.epochCounted_pendingReset.elim (fun h => h.trans unheld) id
  simp [State.epochResets, State.takePendingReset_none none]

theorem State.epochCounted_plain {n : Int} (plain : AdvancesPlainly n s) :
    s.epochCounted = (s.epochOpened.advanceTo (n + 1) .plain).ageAlarm s.cls :=
  State.epochCounted_advances plain.set plain.running (advanceOf_plain plain.leap_none n _)

/-! ## The class by age -/

theorem ageLater_below {t : TimeScale} (below : ∀ age ∈ t.age, age < 4294967295) : ageLater t = t.age.map (· + 1) := by
  unfold ageLater
  cases held : t.age
  · rfl
  · have limit := below _ held
    simp [Config.ageLimit, limit]

theorem State.cls_b_iff (s : State) : s.cls = .b ↔ s.time.n.isSome = true ∧ s.ref.state ≠ .locked ∧ s.time.origin = some .ref ∧
    ∃ age, s.time.age = some age ∧ age ≤ s.load.params.site.holdLimit := by
  unfold State.cls timeClass
  cases set : s.time.n
  · simp
  · by_cases locked : s.ref.state = .locked
    · simp [locked]
    · cases held : s.time.age <;> simp [locked]

theorem State.cls_c_of_old {age : Nat} (set : s.time.n.isSome = true) (unlocked : s.ref.state ≠ .locked) (held : s.time.age = some age)
    (old : s.load.params.site.holdLimit < age) : s.cls = .c := by
  obtain ⟨n, known⟩ := Option.isSome_iff_exists.mp set
  have young : ¬ age ≤ s.load.params.site.holdLimit := by omega
  simp [State.cls, timeClass, known, unlocked, held, young]

/-- A second at which the age does not pass HOLD_LIMIT lets no class fall (R51). -/
theorem State.ageAlarm_plain {n : Int} (plain : AdvancesPlainly n s) (within : n + 1 ≤ 3155759999)
    (aging : ∀ age ∈ s.time.age, age ≠ s.load.params.site.holdLimit ∧ age < 4294967295) :
    (s.epochOpened.advanceTo (n + 1) .plain).ageAlarm s.cls = s.epochOpened.advanceTo (n + 1) .plain := by
  refine State.ageAlarm_stays fun falls => ?_
  obtain ⟨-, unlocked, origin, age, held, young⟩ := s.cls_b_iff.mp falls.1
  obtain ⟨other, below⟩ := aging age held
  have stays : (s.epochOpened.advanceTo (n + 1) .plain).cls = .b := by
    obtain ⟨time, -⟩ := State.advanceTo_plain plain within
    rw [State.cls_b_iff, time]
    refine ⟨rfl, by simpa using unlocked, origin, age + 1, ?_, ?_⟩
    · rw [ageLater_below fun a held => (aging a held).2, held]
      rfl
    · simp only [State.advanceTo_frame, State.epochOpened_frame]
      omega
  rw [stays] at falls
  cases falls.2

/-! ## Past the range's end -/

theorem TimeClass.unset_cls (h : s.time.n = none) : s.cls = .u := by simp [State.cls, timeClass, h]

theorem State.catchUpNow_unset (unset : s.time.n = none) :
    s.catchUpNow.frames = { s.frames with current := none, next := none, latch := none } := by
  simp only [State.catchUpNow, State.discardFrames_frame, unset]
  rfl

theorem State.resetApplied_unset (unset : s.time.n = none) :
    s.resetApplied.frames = { s.frames with current := none, next := none, latch := none } := by
  have caught (u : State) (unset : u.time.n = none) (frames : u.frames = s.frames) :
      u.catchUp.frames = { s.frames with current := none, next := none, latch := none } := by
    unfold State.catchUp
    split
    · rw [← frames]; rfl
    · rw [State.catchUpNow_unset unset, frames]
  unfold State.resetApplied
  refine caught _ ?_ ?_
  · split <;> simpa using unset
  · split <;> simp

/-- Without a count there is nothing to build (R80). -/
theorem State.buildAtEpoch_unset (unset : s.time.n = none) (current : s.frames.current = none) (next : s.frames.next = none)
    (latch : s.frames.latch = none) (reset : Bool) : (s.buildAtEpoch reset).frames = s.frames := by
  have point (u : State) (unset : u.time.n = none) : u.buildPoint = u := by simp [State.buildPoint, unset]
  have same : s.frames = { s.frames with current := none, next := none, latch := none } := by
    cases frames : s.frames
    simp_all
  unfold State.buildAtEpoch
  split
  · rw [point _ (by simpa using unset), State.resetApplied_unset unset, ← same]
  · rw [State.rebuildStale_fresh (by simp [next]), point _ unset]

theorem State.endRange_fields (s : State) : s.endRange.schedule = [] ∧ s.endRange.frames.current = none ∧
    s.endRange.frames.next = none ∧ s.endRange.frames.latch = none ∧ s.endRange.ref = RefUnit.reset ∧
    s.endRange.ctl.pendingJoin = false := by
  unfold State.endRange
  dsimp only
  split <;> simp [State.enterSurvey, State.frameBecameCurrent]

theorem State.entriesAtEpoch_unset (unset : s.time.n = none) : s.entriesAtEpoch = s := by simp [State.entriesAtEpoch, unset]

/-- After the epoch at which the range ends nothing is pending, due or built (R49). -/
theorem State.epochEffect_ends {n : Int} (set : s.time.n = some n) (ending : s.time.rangeEnding = true) :
    s.epochEffect = s.epochOpened.endRange.buildAtEpoch s.epochResets := by
  have aged : s.epochCounted = s.epochOpened.endRange := by
    rw [State.epochCounted_ends set ending]
    exact State.ageAlarm_stays fun falls => by simp [TimeClass.unset_cls (State.endRange_n _)] at falls
  have unheld : s.epochCounted.time.pendingReset = none := by rw [aged, State.endRange_time]; rfl
  rw [State.epochEffect_eq, State.epochReset_of_none unheld, aged, State.entriesAtEpoch_unset (State.endRange_n _)]

/-! ## The mark of the range's end -/

section

variable (marked : s.time.rangeEnding = true)
include marked

theorem State.setTime_marked (n : Int) (origin : Origin) : (s.setTime n origin).time.rangeEnding = true := by
  simp [State.setTime_time, marked]

theorem State.shiftCount_marked (difference : Int) : (s.shiftCount difference).time.rangeEnding = true := by
  cases taken : s.shiftsTo difference
  · rwa [State.shiftCount_none taken]
  · simp [State.shiftCount_time taken, marked]

theorem State.applyCountReset_marked (difference : Int) : (s.applyCountReset difference).time.rangeEnding = true := by
  unfold State.applyCountReset
  split
  · exact marked
  · simpa using State.shiftCount_marked marked difference

theorem State.handWhileUnset_marked (count : HandedCount) : (s.handWhileUnset count).1.time.rangeEnding = true := by
  unfold State.handWhileUnset
  repeat' split
  · exact marked
  · exact marked
  · exact State.setTime_marked marked _ _
  · exact marked

theorem State.completeAcquire_marked (n : Int) (pe : PulseEpoch) (e : Int) : (s.completeAcquire n pe e).time.rangeEnding = true := by
  have changed : ((({ s with ref := s.ref.enterLocked } : State).setOrigin .ref).classChanged s.cls).time.rangeEnding = true := by
    simpa using marked
  unfold State.completeAcquire
  dsimp only
  split
  · split
    · exact changed
    · exact State.applyCountReset_marked (by exact changed) _
  · refine State.handWhileUnset_marked ?_ _
    split <;> exact marked

theorem State.acquirePulse_marked (record : RefRecord) (pe : PulseEpoch) : (s.acquirePulse record pe).time.rangeEnding = true := by
  unfold State.acquirePulse
  dsimp only
  repeat' split
  case isTrue.isTrue => simpa using State.completeAcquire_marked marked _ _ _
  all_goals simpa using marked

theorem State.secInEffect_marked : s.secInEffect.time.rangeEnding = true := by
  have handled {u : State} (label : PulseLabel) (pe : PulseEpoch) (marked : u.time.rangeEnding = true) :
      (u.handlePulse label pe).time.rangeEnding = true := by
    unfold State.handlePulse
    split
    case h_7 => exact State.acquirePulse_marked marked _ _
    all_goals simpa using marked
  unfold State.secInEffect
  dsimp only
  repeat' split
  · simpa using marked
  · exact handled _ _ (by simpa using marked)
  · exact marked

theorem State.adoptFrame_marked (f : LineFrame) : (s.adoptFrame f).time.rangeEnding = true := by
  have taken (p : PastSecond) (since : Nat) : (s.takeAdoption f p since).1.time.rangeEnding = true := by
    unfold State.takeAdoption
    dsimp only
    repeat' split
    · exact marked
    · exact State.applyCountReset_marked (s := (s.setOrigin .line).dropPendingReset) (by exact marked) _
    · exact State.applyCountReset_marked (s := (s.setOrigin .line).dropPendingReset) (by exact marked) _
    · exact State.handWhileUnset_marked marked _
  unfold State.adoptFrame
  dsimp only
  repeat' split
  next p since _ _ => exact taken p since
  all_goals exact marked

theorem State.closeFrame_marked (a : Assembly) (falls : List Int) : (s.closeFrame a falls).time.rangeEnding = true := by
  have delivered {u : State} (f : LineFrame) (marked : u.time.rangeEnding = true) : (u.deliverFrame f).time.rangeEnding = true := by
    unfold State.deliverFrame
    repeat' split
    · exact marked
    · simpa using State.adoptFrame_marked marked f
    · simpa using marked
  unfold State.closeFrame
  dsimp only
  repeat' split
  · exact marked
  · exact marked
  · simpa using marked
  · exact delivered _ (by simpa using marked)

theorem State.recogniseMark_marked : s.recogniseMark.time.rangeEnding = true := by
  unfold State.recogniseMark
  dsimp only
  repeat' split
  · exact State.closeFrame_marked (by simpa using marked) _ _
  all_goals simpa using marked

theorem State.markNow_marked : s.markNow.time.rangeEnding = true := by
  unfold State.markNow
  repeat' split
  · exact marked
  · exact State.recogniseMark_marked marked
  · exact marked

theorem State.overlongNow_marked : s.overlongNow.time.rangeEnding = true := by
  have marked := State.markNow_marked marked
  unfold State.overlongNow
  dsimp only
  repeat' split
  all_goals simpa using marked

theorem State.decoderRise_marked (rise : Int) : (s.decoderRise rise).time.rangeEnding = true := by
  unfold State.decoderRise
  repeat' split
  · simpa using marked
  · simpa using marked
  · simpa using marked
  · exact State.markNow_marked marked
  · exact State.overlongNow_marked marked
  · exact marked

theorem State.releaseNow_marked : s.releaseNow.time.rangeEnding = true := by
  unfold State.releaseNow State.loopRelease
  split
  · exact State.decoderRise_marked (by exact marked) _
  · exact marked

/-- No command but an epoch, a reset and a loss clears the mark of the range's end (R49). -/
theorem Instr.effect_marked {c : Instr} (epoch : ∀ now, c ≠ .epoch now) (reset : ∀ now, c ≠ .reset now)
    (loss : ∀ now, c ≠ .oscillatorLoss now) : (Instr.effect c s).time.rangeEnding = true := by
  cases c
  case reset now => exact absurd rfl (reset now)
  case epoch now => exact absurd rfl (epoch now)
  case oscillatorLoss now => exact absurd rfl (loss now)
  case reductionRelease => exact State.releaseNow_marked marked
  case keyRise => exact State.decoderRise_marked (by exact marked) _
  case markRecognised => exact State.recogniseMark_marked marked
  case overlong => exact State.overlongNow_marked marked
  case secInPulse => exact State.secInEffect_marked marked
  all_goals simpa [Instr.effect, State.ackAlarmsEffect] using marked

end

end Sys2Proof.Machine
end

section
/-!
PROOFS. The epochs of the count (R44 to R51): a plain second, the age at HOLD_LIMIT, and the range's end.
-/

namespace Sys2Proof.Machine

variable {s : State}

/-- A plain epoch with nothing due is the count alone, and then the builds (R17, R44). -/
theorem State.epochEffect_plain {n : Int} (plain : AdvancesPlainly n s) (flywheels : Flywheels s) (within : n + 1 ≤ 3155759999)
    (due : ∀ e ∈ s.schedule, e.instant ≠ n + 1) (day : (n + 1) % 86400 ≠ 0) :
    s.epochEffect = s.epochCounted.rebuildStale.buildPoint := by
  have time : s.epochCounted.time.n = some (n + 1) := by
    rw [State.epochCounted_plain plain]
    simp only [State.ageAlarm_frame, (State.advanceTo_plain plain within).1]
  have list : s.epochCounted.schedule = s.schedule := by
    rw [State.epochCounted_plain plain]
    simp
  have resets : s.epochResets = false := (State.epochResets_plain plain.reset).trans (State.epochSteps_flywheel flywheels)
  rw [State.epochEffect_eq, State.epochReset_plain plain.reset, State.entriesAtEpoch_none time (by rwa [list]) day, resets,
    State.buildAtEpoch_false]

theorem AdvancesPlainly.at {n : Int} (plain : AdvancesPlainly n s) (now : Instant) : AdvancesPlainly n (s.at now) :=
  ⟨plain.set, plain.running, plain.leap, plain.reset⟩

theorem State.holds_iff {k : AlarmKind} : s.holds k = true ↔ ∃ e ∈ s.maint.alarms, e.kind = k := by
  simp [State.holds]

/-- What signals only, lets no alarm go (R177). -/
theorem State.Signals.holds {t : State} (signals : s.Signals t) {k : AlarmKind} (held : s.holds k = true) : t.holds k = true := by
  obtain ⟨e, mem, rfl⟩ := State.holds_iff.mp held
  obtain ⟨e', mem', kind, -⟩ := signals.maint.alarms_stand mem
  exact State.holds_iff.mpr ⟨e', mem', kind⟩

theorem State.raise_holds (k : AlarmKind) (s : State) : (s.raise k).holds k = true := by
  rw [State.holds_iff, State.raise_alarms]
  induction s.maint.alarms with
  | nil => exact ⟨_, List.mem_singleton_self _, rfl⟩
  | cons e rest ih =>
    by_cases same : e.kind = k
    · rw [raiseIn, if_pos same]
      exact ⟨_, List.mem_cons_self, same⟩
    · obtain ⟨x, mem, kind⟩ := ih
      exact ⟨x, by simp [raiseIn, same, mem], kind⟩

/-- The alarms of an epoch's count outlast the rest of the epoch. -/
theorem State.epochEffect_holds {k : AlarmKind} (unheld : s.time.pendingReset = none) (held : s.epochCounted.holds k = true) :
    s.epochEffect.holds k = true := by
  rw [State.epochEffect_eq, State.epochReset_plain unheld]
  exact (((State.Signals.refl _).entriesAtEpoch).buildAtEpoch _).holds held

theorem State.buildAtEpoch_pendingJoin (reset : Bool) (s : State) :
    (s.buildAtEpoch reset).ctl.pendingJoin = (s.ctl.pendingJoin && !reset) := by
  cases reset
  · simp [State.buildAtEpoch_false]
  · simp [State.buildAtEpoch_true]

/-- The plain epoch that begins the last count (R49). -/
theorem State.epochEffect_last {n : Int} (plain : AdvancesPlainly n s) (last : n + 1 = 3155759999) :
    s.epochEffect.time.n = some 3155759999 ∧ s.epochEffect.time.rangeEnding = true ∧ s.epochEffect.ctl.pendingJoin = false ∧
      s.epochEffect.ctl.standing = s.ctl.standing := by
  obtain ⟨time, ctl⟩ := State.advanceTo_plain plain (by omega)
  rw [State.epochEffect_eq, State.epochReset_plain plain.reset, State.epochCounted_plain plain]
  simp only [State.buildAtEpoch_frame, State.entriesAtEpoch_frame, State.ageAlarm_frame, State.buildAtEpoch_pendingJoin, time, ctl]
  simp [last]

end Sys2Proof.Machine

namespace Sys2Proof.Proofs

open Sys2Proof.Machine

/-- Settles O16: a plain epoch is its advance alone, and at HOLD_LIMIT the age that the advance leaves is too old for class B. -/
theorem plainEpochAdvancesCountAndAge : Obligations.PlainEpochAdvancesCountAndAge := by
  refine ⟨fun now s n due plain flywheels within entries day fresh point aging => ?_, fun now s n due plain within unlocked origin age limit => ?_⟩
  · have plain := plain.at now
    have flywheels : Flywheels (s.at now) := ⟨flywheels.ref, flywheels.line, flywheels.step⟩
    have last : n + 1 ≠ 3155759999 := by omega
    obtain ⟨time, ctl⟩ := State.advanceTo_plain plain (by omega)
    have aged := State.ageAlarm_plain plain (by omega) aging
    have effect : (s.at now).epochEffect = (s.at now).epochOpened.advanceTo (n + 1) .plain := by
      rw [State.epochEffect_plain plain flywheels (by omega) entries day, State.epochCounted_plain plain, aged,
        State.rebuildStale_fresh (by simpa using fresh),
        State.buildPoint_none (n := n + 1) (by rw [time]) (by rw [time]) (by simpa using point)]
    have timed := (s.at now).epochEffect_sameRhythm
    have quiet : (s.at now).epochDiscipline = .flywheel :=
      disciplineOf_flywheel (heldSample_none flywheels.ref flywheels.line) (.inl flywheels.step)
    obtain ⟨⟨f, length, -⟩, -⟩ := State.epochEffect_flywheels quiet
    refine ⟨_, exec_epoch due, ?_, f, by simpa using length, timed.nextEpoch.trans (by rw [timed.length]; rfl), ?_⟩
    · have later : ageLater s.time = s.time.age.map (· + 1) := ageLater_below fun a held => (aging a held).2
      rw [effect, time]
      simpa [last, later] using plain.running
    · rw [effect, ctl]
      simp [last]
  · have plain := plain.at now
    have before : (s.at now).cls = .b := (State.cls_b_iff _).mpr ⟨by rw [plain.set]; rfl, by simpa using unlocked, origin, _, age, le_rfl⟩
    have time := (State.advanceTo_plain plain (by omega)).1
    have later : ageLater s.time = some (s.load.params.site.holdLimit + 1) := by
      rw [ageLater_below (by simpa [age] using limit), age]
      rfl
    have after : ((s.at now).epochOpened.advanceTo (n + 1) .plain).cls = .c :=
      State.cls_c_of_old (age := s.load.params.site.holdLimit + 1) (by rw [time]; rfl) (by simpa using unlocked)
        (by rw [time]; exact later) (by simp)
    have counted : (s.at now).epochCounted = ((s.at now).epochOpened.advanceTo (n + 1) .plain).raise .timeAged := by
      rw [State.epochCounted_plain plain, State.ageAlarm, if_pos ⟨before, after⟩]
    have held := State.epochEffect_holds (s := s.at now) plain.reset (by rw [counted]; exact State.raise_holds _ _)
    have scale : (s.at now).epochEffect.time.n = some (n + 1) ∧ (s.at now).epochEffect.time.origin = some .ref ∧
        (s.at now).epochEffect.time.age = some (s.load.params.site.holdLimit + 1) ∧ (s.at now).epochEffect.ref = s.ref := by
      rw [State.epochEffect_eq, State.epochReset_plain plain.reset, counted]
      simp [time, later, origin]
    obtain ⟨set, origin, age, ref⟩ := scale
    exact ⟨before, _, exec_epoch due, State.cls_c_of_old (by rw [set]; rfl) (by rwa [ref]) age (by simp), origin, age, held⟩

/-- Settles O18: the advance to the last count sets the mark, the epoch after it ends the range, and no other command touches the mark. -/
theorem countRangeEndsUnset : Obligations.CountRangeEndsUnset := by
  refine ⟨fun now s due plain => ?_, fun now s n due set ending => ?_, fun d s marked => State.applyCountReset_marked marked d,
    fun c s t marked answered epoch reset loss => ?_⟩
  · exact ⟨_, exec_epoch due, State.epochEffect_last (plain.at now) (by decide)⟩
  · refine ⟨_, exec_epoch due, ?_⟩
    rw [State.epochEffect_ends (s := s.at now) set ending]
    obtain ⟨schedule, current, next, latch, ref, join⟩ := (s.at now).epochOpened.endRange_fields
    have frames := State.buildAtEpoch_unset (State.endRange_n (s.at now).epochOpened) current next latch (s.at now).epochResets
    have standing := (s.at now).epochOpened.endRange_standing
    simp only [State.buildAtEpoch_frame, State.buildAtEpoch_pendingJoin, frames, State.endRange_time, schedule, current, next, latch,
      ref, join, standing, TimeClass.unset_cls (s := (s.at now).epochOpened.endRange.buildAtEpoch (s.at now).epochResets)
        (by simp)]
    simpa [TimeScale.unset] using ⟨fun deferred other => absurd deferred other, fun other deferred => absurd deferred other⟩
  · exact exec_preserves (P := fun u => u.time.rangeEnding = true) answered marked (fun _ => by simpa using marked)
      (fun held => Instr.effect_marked held epoch reset loss)

end Sys2Proof.Proofs
end

section
/-!
PROOFS. What a run of the rule expander leaves in the list (R63 to R67), and the epochs of leaps and offset changes (R45, R46, R72, R74).
-/

namespace Sys2Proof.Machine

variable {s : State}

/-! ## What offers leave in the list -/

theorem State.mem_insertOffer {o : Offer} {x : Entry} (mem : x ∈ (s.insertOffer o).schedule) : x ∈ s.schedule ∨ x = o.entry := by
  unfold State.insertOffer at mem
  split at mem
  · rw [State.setSchedule_schedule] at mem
    exact (mem_insertEntry.mp mem).symm
  · split at mem
    · split at mem
      · simp only [State.schedFull, State.raise_frame, State.count_frame, State.setSchedule_schedule] at mem
        exact (mem_insertEntry.mp mem).symm.imp_left List.mem_of_mem_dropLast
      · exact .inl (by simpa using mem)
    · exact .inl (by simpa using mem)

/-- An entry of the list after an offer was there, or is the offer's, or what the offer made of one of its place (R63 to R65). -/
theorem State.mem_offer {o : Offer} {x : Entry} (mem : x ∈ (s.offer o).schedule) : x ∈ s.schedule ∨ x = o.entry ∨
    ∃ y ∈ s.schedule, x = mergeEntry s.load.params.standardOffset o y ∧ y.instant = o.instant := by
  have placed (mem : x ∈ (s.placeOffer o).schedule) : x ∈ s.schedule ∨ x = o.entry ∨
      ∃ y ∈ s.schedule, x = mergeEntry s.load.params.standardOffset o y ∧ y.instant = o.instant := by
    unfold State.placeOffer at mem
    split at mem
    · obtain ⟨y, held, rfl⟩ := List.mem_map.mp (by simpa using mem)
      split
      next place => exact .inr (.inr ⟨y, held, rfl, place.1⟩)
      · exact .inl held
    · split at mem
      · split at mem
        · split at mem
          · exact .inl (by simpa using mem)
          · obtain ⟨y, held, rfl⟩ := List.mem_map.mp (by simpa using mem)
            split
            · exact .inr (.inl rfl)
            · exact .inl held
        · exact (State.mem_insertOffer mem).imp_right .inl
      · exact (State.mem_insertOffer mem).imp_right .inl
  unfold State.offer at mem
  repeat' split at mem
  · exact .inl mem
  · exact .inl mem
  · exact .inl (by simpa using mem)
  · exact placed mem
  · exact .inl (by simpa using mem)
  · exact placed mem
  · exact .inl mem
  · exact .inl mem

/-- What the entries of the list have, and what the offers bring and leave, they have after the offers. -/
theorem State.offers_forall {P : Entry → Prop} {l : List Offer} (entry : ∀ o ∈ l, P o.entry)
    (merge : ∀ o ∈ l, ∀ standard e, P e → P (mergeEntry standard o e)) (held : ∀ x ∈ s.schedule, P x) :
    ∀ x ∈ (l.foldl (fun acc o => acc.offer o) s).schedule, P x := by
  induction l generalizing s with
  | nil => exact held
  | cons o rest ih =>
    refine ih (fun o' mem => entry o' (List.mem_cons_of_mem o mem)) (fun o' mem => merge o' (List.mem_cons_of_mem o mem)) fun x mem => ?_
    obtain old | rfl | ⟨y, old, rfl, -⟩ := State.mem_offer mem
    · exact held x old
    · exact entry o List.mem_cons_self
    · exact merge o List.mem_cons_self _ _ (held y old)

/-- What the rule expander may offer at the count `n` (R66, R67). -/
structure RuleOffer (n : Int) (o : Offer) : Prop where
  later : n < o.instant
  source : o.source = .rule
  kind : o.kind = .offset

theorem ruleOffer_of_mem {zone : Zone} {y n : Int} {o : Offer} (mem : o ∈ (ruleOffers zone y).filter (fun o => decide (n < o.instant))) :
    RuleOffer n o := by
  obtain ⟨made, later⟩ := List.mem_filter.mp mem
  obtain ⟨⟨t, q⟩, -, rfl⟩ := List.mem_map.mp made
  exact ⟨by simpa using later, rfl, rfl⟩

theorem State.expandRules_forall {P : Entry → Prop} {n : Int} (set : s.time.n = some n) (entry : ∀ o, RuleOffer n o → P o.entry)
    (merge : ∀ o, RuleOffer n o → ∀ standard e, P e → P (mergeEntry standard o e)) (held : ∀ x ∈ s.schedule, P x) :
    ∀ x ∈ s.expandRules.schedule, P x := by
  unfold State.expandRules
  split
  next m zone known _ =>
    obtain rfl := Option.some.inj (set.symm.trans known)
    exact State.offers_forall (fun o mem => entry o (ruleOffer_of_mem (ScheduleSafe.mem_foldr_insertOffer.mp mem)))
      (fun o mem => merge o (ruleOffer_of_mem (ScheduleSafe.mem_foldr_insertOffer.mp mem))) held
  · exact held

/-! ## The entries of an epoch -/

/-- After the retirements of the count `n` no entry stands at it (R72). -/
theorem State.entriesAtEpoch_retired {n : Int} (set : s.time.n = some n) : ∀ x ∈ s.entriesAtEpoch.schedule, x.instant ≠ n := by
  have retired : ∀ x ∈ (s.retire n).schedule, x.instant ≠ n := fun x mem => by
    rw [State.retire_schedule] at mem
    simpa using (List.mem_filter.mp mem).2
  rw [State.entriesAtEpoch, set]
  dsimp only
  split
  · exact State.expandRules_forall (n := n) (by simpa using set) (fun o rule => rule.later.ne') (fun o _ standard e held => by
      rwa [(mergeEntry_place standard o e).1]) retired
  · exact retired

/-- The offset that the retirements of the count `n` leave (R74). -/
theorem State.entriesAtEpoch_offset {n : Int} (set : s.time.n = some n) : s.entriesAtEpoch.time.offset =
    (((s.schedule.find? (fun x => decide (x.instant = n ∧ x.kind = .offset))).bind (fun e => e.newOffset)).getD s.time.offset) := by
  have same : (fun x : Entry => decide (x.instant = n ∧ x.kind = .offset)) = fun x => decide (x.instant = n) && x.kind == .offset := by
    funext x
    rw [Bool.decide_and]
    rfl
  have retired : (s.retire n).time.offset =
      (((s.schedule.find? (fun x => decide (x.instant = n ∧ x.kind = .offset))).bind (fun e => e.newOffset)).getD s.time.offset) := by
    rw [same]
    unfold State.retire
    dsimp only
    split
    next e found =>
      rw [found]
      split
      next q new =>
        split
        next no_op => simp [new, no_op]
        · simp [new]
      next none => simp [none]
    next missing => simp [missing]
  rw [State.entriesAtEpoch, set]
  dsimp only
  split
  · simpa using retired
  · exact retired

/-! ## The second that an epoch opens -/

theorem State.secondInserted_iff : s.secondInserted = true ↔ ∃ p rest, s.timer.past = p :: rest ∧ p.leap = .inserted := by
  unfold State.secondInserted
  cases s.timer.past <;> simp

/-- The state at an epoch whose advance is `n'`, taken as `step` says, with no re-set pending (R44 to R46). -/
theorem State.epochReset_advances {n n' : Int} {step : LeapStep} (set : s.time.n = some n) (running : s.time.rangeEnding = false)
    (unheld : s.time.pendingReset = none) (advance : advanceOf n s.secondInserted s.schedule = (n', step)) :
    s.epochReset = (s.epochOpened.advanceTo n' step).ageAlarm s.cls := by
  rw [State.epochReset_plain unheld, State.epochCounted_advances set running advance]

/-- The count and the leap-60 flag that an epoch leaves, and the second it opens (R44, R45). -/
theorem State.epochEffect_advances {n n' : Int} {step : LeapStep} (set : s.time.n = some n) (running : s.time.rangeEnding = false)
    (unheld : s.time.pendingReset = none) (advance : advanceOf n s.secondInserted s.schedule = (n', step))
    (within : n' ≤ 3155759999 ∨ n' = n) :
    s.epochEffect.time.n = some n' ∧ s.epochEffect.time.leap60 = (step == .inserted && !s.epochSteps) ∧
      s.epochEffect.secondInserted = (step == .inserted) := by
  have reached : (if Config.lastCount < n' then s.time.n.getD n' else n') = n' := by
    obtain within | rfl := within
    · exact if_neg (by simp only [Config.lastCount]; omega)
    · simp [set]
  have opened : s.epochOpened.timer.past ≠ [] := State.openEpoch_past_ne _ _
  have inserted := State.advanceTo_secondInserted (step := step) opened n'
  unfold State.secondInserted at inserted ⊢
  rw [State.epochEffect_eq, State.epochReset_advances set running unheld advance, State.epochResets_plain unheld]
  refine ⟨?_, ?_, ?_⟩
  · simpa using reached
  · simp [State.advanceTo_time]
  · simpa using inserted

/-- What an epoch retires and what offset it leaves, at the count `m` it reaches (R72, R74). -/
theorem State.epochEffect_reaches {n m : Int} {step : LeapStep} (set : s.time.n = some n) (running : s.time.rangeEnding = false)
    (unheld : s.time.pendingReset = none) (advance : advanceOf n s.secondInserted s.schedule = (m, step)) (plain : step ≠ .inserted)
    (within : m ≤ 3155759999) :
    s.epochEffect.time.n = some m ∧ s.epochEffect.time.leap60 = false ∧ (∀ x ∈ s.epochEffect.schedule, x.instant ≠ m) ∧
      s.epochEffect.time.offset =
        (((s.schedule.find? (fun x => decide (x.instant = m ∧ x.kind = .offset))).bind (fun e => e.newOffset)).getD s.time.offset) := by
  obtain ⟨count, leap60, -⟩ := State.epochEffect_advances set running unheld advance (.inl within)
  have other : (step == LeapStep.inserted) = false := by simpa using plain
  have reset := State.epochReset_advances set running unheld advance
  have reached : s.epochReset.time.n = some m := by
    rw [State.epochEffect_eq] at count
    simpa using count
  refine ⟨count, by rw [leap60, other]; rfl, ?_, ?_⟩
  · rw [State.epochEffect_eq]
    simpa using State.entriesAtEpoch_retired reached
  · rw [State.epochEffect_eq]
    have offset := State.entriesAtEpoch_offset reached
    rw [reset] at offset ⊢
    simpa using offset

end Sys2Proof.Machine

namespace Sys2Proof.Proofs

open Sys2Proof.Machine

/-- Settles O17: the advance by the committed leap, and what retires at the count it reaches. -/
theorem leapsAndOffsetsTakeEffectAtEpochs : Obligations.LeapsAndOffsetsTakeEffectAtEpochs := by
  intro now s n due set running unheld
  refine ⟨_, exec_epoch due, ?_⟩
  intro inserted reaches
  have reached {m : Int} {step : LeapStep} (advance : advanceOf n s.secondInserted s.schedule = (m, step)) (plain : step ≠ .inserted)
      (within : m ≤ 3155759999) : reaches m := by
    obtain ⟨count, leap60, retired, offset⟩ := State.epochEffect_reaches (s := s.at now) set running unheld advance plain within
    refine ⟨count, leap60, retired, fun e q found new => ?_, fun none => ?_⟩
    · rw [offset]
      change ((s.schedule.find? _).bind _).getD _ = q
      rw [found]
      simp [new]
    · rw [offset]
      change ((s.schedule.find? _).bind _).getD _ = s.time.offset
      rw [none]
      rfl
  refine ⟨fun e held kind instant not_inserted => ?_, fun e held kind instant inserted within => ?_, fun e held kind instant within => ?_,
    fun e held early within => ?_, fun none within => ?_⟩
  · have fresh : s.secondInserted = false := by
      rw [← Bool.not_eq_true, State.secondInserted_iff]
      exact not_inserted
    have advance : advanceOf n (s.at now).secondInserted (s.at now).schedule = (n, .inserted) := by
      change advanceOf n s.secondInserted s.schedule = _
      rw [fresh]
      exact advanceOf_insert held kind instant
    obtain ⟨count, leap60, second⟩ := State.epochEffect_advances (s := s.at now) set running unheld advance (.inr rfl)
    refine ⟨count, State.secondInserted_iff.mp second, fun quiet => ?_, fun off step => ?_, fun later day => ?_⟩
    · have unstepped : (s.at now).epochSteps = false := by
        obtain active | flywheels := quiet
        · exact State.epochSteps_active active
        · exact State.epochSteps_flywheel ⟨flywheels.ref, flywheels.line, flywheels.step⟩
      rw [leap60, unstepped]
      rfl
    · obtain ⟨error, step⟩ := Option.isSome_iff_exists.mp step
      have stepped : (s.at now).epochSteps = true := by
        refine (State.epochSteps_iff _).mpr ⟨error, .inr ?_⟩
        have active : ((s.at now).ctl.standing == Standing.active) = false := by simpa using off
        rw [State.epochDiscipline, active]
        exact disciplineOf_heldStep step
      rw [leap60, stepped]
      rfl
    · have reset := State.epochReset_advances (s := s.at now) set running unheld advance
      have kept : (s.at now).epochReset.entriesAtEpoch = (s.at now).epochReset := by
        refine State.entriesAtEpoch_none (n := n) ?_ ?_ (by omega)
        · rw [reset]
          simp [set]
        · rw [reset]
          simpa using fun x mem => (later x mem).ne'
      rw [State.epochEffect_eq, kept, reset]
      simpa using fun x mem _ => mem
  · exact reached (step := .plain) (by rw [State.secondInserted_iff.mpr inserted]; exact advanceOf_inserted held kind) nofun (by omega)
  · exact reached (step := .deleted) (advanceOf_delete held kind instant _) nofun within
  · exact reached (step := .plain) (advanceOf_early held early _) nofun (by omega)
  · exact reached (step := .plain) (advanceOf_plain none n _) nofun (by omega)

end Sys2Proof.Proofs
end

section
/-!
PROOFS. Counts held for an epoch (R47, R52, R53, R75): a pending SET and a pending re-set, taken or standing.
-/

namespace Sys2Proof.Machine

variable {s t : State}

/-! ## The class -/

/-- The class rests on these (R51). -/
theorem State.cls_congr (set : t.time.n.isSome = s.time.n.isSome) (origin : t.time.origin = s.time.origin) (age : t.time.age = s.time.age)
    (ref : t.ref.state = s.ref.state) (load : t.load = s.load) : t.cls = s.cls := by
  unfold State.cls timeClass
  rw [origin, age, ref, load]
  cases known : t.time.n <;> cases known' : s.time.n <;> simp_all

theorem mergeEntry_committed (standard : Int) (o : Offer) (e : Entry) : (mergeEntry standard o e).committed = e.committed := by
  unfold mergeEntry
  repeat' split
  all_goals rfl

theorem mergeEntry_source (standard : Int) (o : Offer) (e : Entry) :
    (mergeEntry standard o e).source = e.source ∨ (mergeEntry standard o e).source = o.source := by
  unfold mergeEntry
  split
  · exact .inl rfl
  · split
    · exact .inr rfl
    · repeat' split
      all_goals exact .inl rfl

/-- A merge with a rule's offer makes no LINE entry. -/
theorem mergeEntry_noLine {n : Int} {o : Offer} (rule : RuleOffer n o) (standard : Int) {e : Entry} (other : e.source ≠ .line) :
    (mergeEntry standard o e).source ≠ .line := by
  obtain source | source := mergeEntry_source standard o e
  · rwa [source]
  · rw [source, rule.source]
    nofun

/-! ## The entries of an epoch -/

theorem State.entriesAtEpoch_forall {P : Entry → Prop} {n : Int} (set : s.time.n = some n) (entry : ∀ o, RuleOffer n o → P o.entry)
    (merge : ∀ o, RuleOffer n o → ∀ standard e, P e → P (mergeEntry standard o e)) (held : ∀ x ∈ s.schedule, P x) :
    ∀ x ∈ s.entriesAtEpoch.schedule, P x := by
  have retired : ∀ x ∈ (s.retire n).schedule, P x := fun x mem => by
    rw [State.retire_schedule] at mem
    exact held x (List.mem_filter.mp mem).1
  rw [State.entriesAtEpoch, set]
  dsimp only
  split
  · exact State.expandRules_forall (n := n) (by simpa using set) entry merge retired
  · exact retired

/-- With every entry later than N the offset stands (R74). -/
theorem State.entriesAtEpoch_offset_later {n : Int} (set : s.time.n = some n) (other : ∀ x ∈ s.schedule, x.instant ≠ n) :
    s.entriesAtEpoch.time.offset = s.time.offset := by
  have missing : s.schedule.find? (fun x => decide (x.instant = n ∧ x.kind = .offset)) = none :=
    List.find?_eq_none.mpr fun x mem => by simp [other x mem]
  rw [State.entriesAtEpoch_offset set, missing]
  rfl

/-- At an epoch that begins no day, the entries that are due leave and no others come (R66, R72). -/
theorem State.entriesAtEpoch_within {n : Int} (set : s.time.n = some n) (day : n % 86400 ≠ 0) :
    s.entriesAtEpoch.schedule = s.schedule.filter (fun x => decide (x.instant ≠ n)) := by
  rw [State.entriesAtEpoch, set]
  dsimp only
  rw [yearStart_within day, ← State.retire_schedule]
  rfl

/-! ## The frame of a catch-up build -/

theorem State.rebuildStale_caughtUp {n : Int} (caught : s.CaughtUp n) : s.rebuildStale.CaughtUp n := by
  simpa [State.CaughtUp] using caught

theorem State.buildAtEpoch_caughtUp {n : Int} (set : s.time.n = some n) (loaded : s.ctl.standing ≠ .loading) (caught : s.CaughtUp n)
    (reset : Bool) : (s.buildAtEpoch reset).CaughtUp n := by
  have point {u : State} (caught : u.CaughtUp n) : u.buildPoint.CaughtUp n := by simpa [State.CaughtUp] using caught
  cases reset
  · exact point (State.rebuildStale_caughtUp caught)
  · exact point (State.resetApplied_caughtUp set loaded).1

/-! ## A pending SET -/

theorem State.classChanged_schedule {before : TimeClass} (own : ∀ x ∈ s.schedule, x.source ≠ .line) :
    (s.classChanged before).schedule = s.schedule := by
  have kept : s.schedule.filter (fun e => !(e.source == .line && !e.committed)) = s.schedule :=
    List.filter_eq_self.mpr fun e mem => by simp [own e mem]
  have removed : s.removeLineEntries.schedule = s.schedule := by rw [State.removeLineEntries, State.setSchedule_schedule, kept]
  unfold State.classChanged
  dsimp only
  split
  · split
    · exact removed
    · exact removed
  · split <;> rfl

/-- What a count for the present second makes of an empty schedule: what the rule expander offers (R47, R66). -/
theorem State.setTime_schedule (empty : s.schedule = []) (n : Int) (origin : Origin) :
    (∃ u : State, u.time.n = some n ∧ u.load = s.load ∧ u.schedule = [] ∧ (s.setTime n origin).schedule = u.expandRules.schedule) ∧
      ∀ x ∈ (s.setTime n origin).schedule, n < x.instant := by
  have expanded {u : State} (set : u.time.n = some n) (empty : u.schedule = []) :
      ∀ x ∈ u.expandRules.schedule, n < x.instant ∧ x.source ≠ .line :=
    State.expandRules_forall (n := n) set (fun o rule => ⟨rule.later, by rw [Offer.entry, rule.source]; nofun⟩)
      (fun o rule standard e held => ⟨by rw [(mergeEntry_place standard o e).1]; exact held.1, mergeEntry_noLine rule standard held.2⟩)
      (by simp [empty])
  have same : (s.setTime n origin).schedule = (({ s with time := { s.time with
      origin := some origin, age := if origin = Origin.ref then some 0 else none, leap60 := false, pendingSet := none
      offset := offsetFromRules s.load.params n } } : State).setN n).expandRules.schedule := by
    unfold State.setTime
    dsimp only
    rw [State.classChanged_schedule] <;> simp only [State.catchUp_frame]
    exact fun x mem => (expanded (by simp) (by simpa using empty) x mem).2
  refine ⟨⟨_, ?_, ?_, ?_, same⟩, ?_⟩
  · simp
  · simp
  · simpa using empty
  · rw [same]
    exact fun x mem => (expanded (by simp) (by simpa using empty) x mem).1

theorem State.setTime_caughtUp (loaded : s.ctl.standing ≠ .loading) (n : Int) (origin : Origin) : (s.setTime n origin).CaughtUp n := by
  unfold State.setTime
  simp only [State.CaughtUp, State.classChanged_frame]
  exact State.catchUp_caughtUp (by simp) (by simpa using loaded)

/-- A pending SET at its epoch (R47). -/
theorem State.epochReset_sets {p : PendingSet} (unset : s.time.n = none) (held : s.time.pendingSet = some p) (now : p.epoch = s.tick)
    (unheld : s.time.pendingReset = none) : s.epochReset = s.epochOpened.setTime p.count p.origin := by
  have coming : s.comingCount = none := State.comingCount_none.mpr unset
  rw [State.epochReset_plain unheld]
  change (s.epochOpened.countAtEpoch s.comingCount s.tick).ageAlarm s.cls = _
  have counted : s.epochOpened.countAtEpoch s.comingCount s.tick = s.epochOpened.setTime p.count p.origin := by
    rw [coming]
    simp [State.countAtEpoch, held, now]
  rw [counted]
  exact State.ageAlarm_stays fun falls => by simp [TimeClass.unset_cls unset] at falls

/-! ## A pending re-set -/

/-- The list after a count re-set to `n` (R75). -/
theorem State.resetSchedule_eq (n : Int) (s : State) : (s.resetSchedule n).schedule =
    (s.schedule.filter (fun x => decide (n < x.instant ∧ (x.source = .line → s.cls ≠ .a)))).map
      (fun x => { x with committed := false }) := by
  have same : (s.pruneForReset n).cls = s.cls := by
    apply State.cls_congr <;> simp
  have pruned : (s.pruneForReset n).schedule =
      (s.schedule.filter (fun e => decide (n < e.instant))).map (fun e => { e with committed := false }) :=
    State.setSchedule_schedule _ _
  unfold State.resetSchedule
  dsimp only
  rw [same]
  split
  next locked =>
    rw [State.removeLineEntries, State.setSchedule_schedule, pruned, List.filter_map, List.filter_filter, locked]
    congr 2
    funext x
    cases source : x.source <;> simp [source]
  next other =>
    rw [pruned]
    congr 2
    funext x
    simp [other]

/-- The state whose count a pending re-set changes at an epoch: the epoch's count taken, the re-set dropped, and the range's mark to be
judged again (R49, R53). -/
def State.resetReady (s : State) : State :=
  { s.epochCounted.dropPendingReset with time := { s.epochCounted.dropPendingReset.time with rangeEnding := false } }

/-- The epoch whose advance is plain, off a committed leap (R44). -/
theorem State.epochCounted_leapless {n : Int} (set : s.time.n = some n) (running : s.time.rangeEnding = false)
    (leapless : committedLeap s.schedule = none) :
    s.epochCounted = (s.epochOpened.advanceTo (n + 1) .plain).ageAlarm s.cls :=
  State.epochCounted_advances set running (advanceOf_plain leapless n _)

/-- What the epoch's count leaves before a pending re-set is taken. -/
structure State.Counted (n : Int) (s u : State) : Prop where
  count : u.time.n = some (n + 1)
  origin : u.time.origin = s.time.origin
  offset : u.time.offset = s.time.offset
  pendingReset : u.time.pendingReset = s.time.pendingReset
  ending : u.time.rangeEnding = decide (n + 1 = 3155759999)
  schedule : u.schedule = s.schedule
  ref : u.ref = s.ref
  load : u.load = s.load
  standing : u.ctl.standing = s.ctl.standing
  heldStep : u.timer.heldStep = none

theorem State.epochCounted_counted {n : Int} (set : s.time.n = some n) (running : s.time.rangeEnding = false)
    (leapless : committedLeap s.schedule = none) (within : n < 3155759999) : s.Counted n s.epochCounted := by
  have stays : ¬ Config.lastCount < n + 1 := by
    simp only [Config.lastCount]
    omega
  have heldStep := s.epochCounted_heldStep
  rw [State.epochCounted_leapless set running leapless] at heldStep ⊢
  refine ⟨by simp [stays], by simp, by simp, by simp, ?_, by simp, by simp, by simp, by simp, heldStep⟩
  simp only [State.ageAlarm_frame, State.advanceTo_time, stays, if_false, State.epochOpened_frame, running, Bool.false_or]
  exact rangeEnds_plain leapless (by omega) _

/-- A pending re-set stands while ACTIVE (R53). -/
theorem State.epochReset_stands (active : s.ctl.standing = .active) : s.epochReset = s.epochCounted :=
  congrArg Prod.fst (State.takePendingReset_active (State.epochCounted_active.mpr active))

theorem State.epochReset_taken {n : Int} {r : PendingReset} (counted : s.Counted n s.epochCounted)
    (held : s.time.pendingReset = some r) (off : s.ctl.standing ≠ .active) :
    s.epochReset = s.epochCounted.resetTaken r ∧
      s.epochResets = (s.epochSteps || (r.difference.any (fun d => (s.epochCounted.dropPendingReset.shiftsTo d).isSome) || r.phase.isSome)) := by
  have taken := State.takePendingReset_taken (s := s.epochCounted) (counted.pendingReset.trans held) (by rwa [counted.standing])
  exact ⟨congrArg Prod.fst taken, by rw [State.epochResets, taken]⟩

/-- A pending re-set with a phase part alone, taken (R53). -/
theorem State.epochReset_phase {n e : Int} (counted : s.Counted n s.epochCounted)
    (held : s.time.pendingReset = some { difference := none, phase := some e }) (off : s.ctl.standing ≠ .active) :
    s.epochReset = s.epochCounted.dropPendingReset.holdStep e ∧ s.epochResets = true := by
  obtain ⟨reset, resets⟩ := State.epochReset_taken counted held off
  exact ⟨reset, by rw [resets]; simp⟩

/-- A pending re-set with a count part, taken (R53). -/
theorem State.epochReset_count {n d : Int} {phase : Option Int} (counted : s.Counted n s.epochCounted)
    (held : s.time.pendingReset = some { difference := some d, phase := phase }) (off : s.ctl.standing ≠ .active)
    (low : 0 ≤ n + 1 + d) (high : n + 1 + d ≤ 3155759999) :
    s.resetReady.shiftsTo d = some (n + 1 + d) ∧ s.epochResets = true ∧
      s.epochReset = { s.resetReady.shiftCount d with timer := { (s.resetReady.shiftCount d).timer with heldStep := phase } } := by
  have ready : s.resetReady.shiftsTo d = some (n + 1 + d) :=
    State.shiftsTo_eq_some.mpr ⟨n + 1, counted.count, rfl, low, high⟩
  have dropped : s.epochCounted.dropPendingReset.shiftsTo d = some (n + 1 + d) := ready
  obtain ⟨reset, resets⟩ := State.epochReset_taken counted held off
  refine ⟨ready, by rw [resets]; simp [dropped], ?_⟩
  have shifted : s.epochCounted.resetCounted { difference := some d, phase := phase } = s.resetReady.shiftCount d := by
    simp only [State.resetCounted, State.shiftAtEpoch, dropped]
    rfl
  have unheld : (s.resetReady.shiftCount d).timer.heldStep = none := by
    unfold State.shiftCount
    rw [ready]
    have ready_step : s.resetReady.timer.heldStep = none := counted.heldStep
    simp [ready_step]
  rw [reset, State.resetTaken, shifted]
  cases phase
  · dsimp only
    rw [← unheld]
  · rfl

/-- What a count difference makes of the list and the offset, before the entries of the epoch (R52, R75). -/
theorem State.shiftCount_schedule {difference n' : Int} (h : s.shiftsTo difference = some n') :
    ∃ u : State, u.time.n = some n' ∧ u.load = s.load ∧
      u.schedule = ((s.schedule.filter (fun x => decide (n' < x.instant ∧ (x.source = .line → s.cls ≠ .a)))).map
        (fun x => { x with committed := false })) ∧
      (s.shiftCount difference).schedule = u.expandRules.schedule := by
  have same : ({ s with time := { s.time with leap60 := false } } : State).cls = s.cls := State.cls_congr rfl rfl rfl rfl rfl
  refine ⟨((({ s with time := { s.time with leap60 := false } } : State).resetSchedule n').setN n'), ?_, ?_, ?_, ?_⟩
  · simp
  · simp
  · rw [← same]
    simpa using State.resetSchedule_eq n' { s with time := { s.time with leap60 := false } }
  · unfold State.shiftCount
    rw [h]

/-- No commitment outlives a count re-set (R75). -/
theorem State.resetSchedule_leapless (n : Int) (s : State) : committedLeap (s.resetSchedule n).schedule = none := by
  rw [committedLeap_none, State.resetSchedule_eq]
  simp only [List.mem_map]
  rintro _ ⟨x, -, rfl⟩ -
  rfl

/-- What every entry is after a count re-set (R75). -/
def ResetEntry (n : Int) (cls : TimeClass) (x : Entry) : Prop :=
  n < x.instant ∧ x.committed = false ∧ (cls = .a → x.source ≠ .line)

theorem ResetEntry.ofOffer {n : Int} {cls : TimeClass} {o : Offer} (rule : RuleOffer n o) : ResetEntry n cls o.entry :=
  ⟨rule.later, rfl, fun _ => by rw [Offer.entry, rule.source]; nofun⟩

theorem ResetEntry.merge {n : Int} {cls : TimeClass} {o : Offer} (rule : RuleOffer n o) (standard : Int) {e : Entry}
    (held : ResetEntry n cls e) : ResetEntry n cls (mergeEntry standard o e) := by
  obtain ⟨later, uncommitted, own⟩ := held
  exact ⟨by rwa [(mergeEntry_place standard o e).1], (mergeEntry_committed standard o e).trans uncommitted,
    fun locked => mergeEntry_noLine rule standard (own locked)⟩

theorem State.shiftCount_entries {difference n' : Int} (h : s.shiftsTo difference = some n') :
    ∀ x ∈ (s.shiftCount difference).schedule, ResetEntry n' s.cls x := by
  obtain ⟨u, set, -, list, expanded⟩ := State.shiftCount_schedule h
  rw [expanded]
  refine State.expandRules_forall set (fun o rule => .ofOffer rule) (fun o rule standard e held => held.merge rule standard) ?_
  rw [list]
  simp only [List.mem_map, List.mem_filter, decide_eq_true_eq]
  rintro _ ⟨x, ⟨-, later, own⟩, rfl⟩
  exact ⟨later, rfl, fun locked line => own line locked⟩

theorem State.resetReady_fields {n : Int} (counted : s.Counted n s.epochCounted) : s.resetReady.time.n = some (n + 1) ∧
    s.resetReady.time.rangeEnding = false ∧ s.resetReady.time.pendingReset = none ∧ s.resetReady.schedule = s.schedule ∧
    s.resetReady.load = s.load ∧ s.resetReady.ctl.standing = s.ctl.standing :=
  ⟨counted.count, rfl, rfl, counted.schedule, counted.load, counted.standing⟩

end Sys2Proof.Machine

namespace Sys2Proof.Proofs

open Sys2Proof.Machine

/-- The first part of O19: a pending SET at its epoch. -/
theorem pendingSet_taken {now : Instant} {s : State} {p : PendingSet} (unset : s.time.n = none)
    (held : s.time.pendingSet = some p) (epoch : p.epoch = now.tick) (origin : p.origin = .ref) (unheld : s.time.pendingReset = none)
    (empty : s.schedule = []) : ∃ t, (s.at now).epochEffect = t ∧ t.time.n = some p.count ∧ t.time.origin = some .ref ∧ t.time.age = some 0 ∧
      t.time.pendingSet = none ∧ t.time.leap60 = false ∧ t.time.offset = offsetFromRules s.load.params p.count ∧
      (p.count % 86400 ≠ 0 → ∃ u : State, u.time.n = some p.count ∧ u.load = s.load ∧ u.schedule = [] ∧
        t.schedule = u.expandRules.schedule) ∧
      (s.ctl.standing ≠ .loading →
        ∃ f, t.frames.current = some f ∧ f.n0 = p.count - p.count % 60 ∧ f.kind = .catchUp) := by
  refine ⟨_, rfl, ?_⟩
  have reset := State.epochReset_sets (s := s.at now) unset held epoch unheld
  rw [origin] at reset
  have time := State.setTime_time p.count .ref (s.at now).epochOpened
  obtain ⟨⟨u, set, load, none, list⟩, later⟩ :=
    State.setTime_schedule (s := (s.at now).epochOpened) (by simpa using empty) p.count .ref
  rw [← reset] at time list later
  have reached : (s.at now).epochReset.time.n = some p.count := by rw [time]
  have offset := State.entriesAtEpoch_offset_later reached fun x mem => (later x mem).ne'
  rw [State.epochEffect_eq]
  refine ⟨?_, ?_, ?_, ?_, ?_, ?_, fun day => ⟨u, set, load.trans (by simp), none, ?_⟩, fun loaded => ?_⟩
  · simp [time]
  · simp [time]
  · simp [time]
  · simp [time]
  · simp [time]
  · simp [offset, time]
  · rw [← list]
    simpa [State.entriesAtEpoch_within reached day] using fun x mem => (later x mem).ne'
  · have caught := State.setTime_caughtUp (s := (s.at now).epochOpened) (by simpa using loaded) p.count .ref
    rw [← reset] at caught
    refine State.buildAtEpoch_caughtUp (by simpa using reached) ?_ (by simpa [State.CaughtUp] using caught) _
    simpa using State.epochReset_loaded (s := s.at now) loaded

/-- Settles O19: a pending SET is the epoch's count; a pending re-set stands while ACTIVE, and off the line is taken before the entries of
the epoch retire and the frames are built. -/
theorem heldCountsAreTakenAtAnEpoch : Obligations.HeldCountsAreTakenAtAnEpoch := by
  refine ⟨fun now s p due unset held epoch origin unheld empty => ?_, fun now s n due set running leapless within => ?_,
    fun now s n d phase due off set running leapless within held other low high => ?_⟩
  · obtain ⟨t, rfl, taken⟩ := pendingSet_taken unset held epoch origin unheld empty
    exact ⟨_, exec_epoch due, taken⟩
  · have counted := State.epochCounted_counted (s := s.at now) set running leapless within
    refine ⟨_, exec_epoch due, fun active => ?_, fun e off held => ?_⟩
    · have stands := State.epochReset_stands (s := s.at now) active
      rw [State.epochEffect_eq, stands]
      simpa using ⟨counted.count, counted.pendingReset⟩
    · obtain ⟨reset, resets⟩ := State.epochReset_phase counted held off
      obtain ⟨leap60, join, caught, -⟩ := State.epochEffect_resets resets
      have list : (s.at now).epochReset.schedule = s.schedule := by
        rw [reset]
        simpa using counted.schedule
      have reached : (s.at now).epochReset.time.n = some (n + 1) := by
        rw [reset]
        simpa using counted.count
      have count : (s.at now).epochEffect.time.n = some (n + 1) := by
        rw [State.epochEffect_eq]
        simpa using reached
      refine ⟨count, ?_, leap60, ?_, join, ?_, fun day => ?_, fun apart => ?_, fun loaded => ?_⟩
      · rw [State.epochEffect_eq, reset]
        simp
      · rw [State.epochEffect_eq, reset]
        simp
      · rw [State.epochEffect_eq, reset]
        simp [counted.ending]
      · rw [State.epochEffect_eq, ← list]
        simpa using State.entriesAtEpoch_within reached day
      · have offset := State.entriesAtEpoch_offset_later reached (by rwa [list])
        rw [State.epochEffect_eq]
        simp only [State.buildAtEpoch_frame, offset]
        rw [reset]
        simpa using counted.offset
      · obtain ⟨⟨f, current, start, kind⟩, g, current', floor⟩ := caught _ count (State.epochReset_loaded loaded)
        obtain rfl := Option.some.inj (current.symm.trans current')
        exact ⟨f, current, start, kind, floor⟩
  · have counted := State.epochCounted_counted (s := s.at now) set running leapless within
    obtain ⟨ready, resets, reset⟩ := State.epochReset_count counted held off low high
    obtain ⟨ready_set, fresh, dropped, list, load, -⟩ := State.resetReady_fields counted
    obtain ⟨leap60, join, caught, -⟩ := State.epochEffect_resets resets
    have entries : ∀ x ∈ (s.at now).epochReset.schedule, ResetEntry (n + 1 + d) (s.at now).resetReady.cls x := by
      rw [reset]
      exact State.shiftCount_entries ready
    have time : (s.at now).epochReset.time = ((s.at now).resetReady.shiftCount d).time := by rw [reset]
    rw [State.shiftCount_time ready] at time
    have reached : (s.at now).epochReset.time.n = some (n + 1 + d) := by rw [time]
    have count : (s.at now).epochEffect.time.n = some (n + 1 + d) := by
      rw [State.epochEffect_eq]
      simpa using reached
    have offset := State.entriesAtEpoch_offset_later reached fun x mem => (entries x mem).1.ne'
    have cls : (s.at now).epochEffect.cls = (s.at now).resetReady.cls := by
      rw [State.epochEffect_eq, reset]
      refine State.cls_congr ?_ ?_ ?_ ?_ ?_ <;> simp [State.shiftCount_time ready, ready_set]
    have retired := State.entriesAtEpoch_forall (P := ResetEntry (n + 1 + d) (s.at now).resetReady.cls) reached (fun o rule => .ofOffer rule)
      (fun o rule standard e held => held.merge rule standard) entries
    have left : ∀ x ∈ (s.at now).epochEffect.schedule, ResetEntry (n + 1 + d) (s.at now).resetReady.cls x := by
      rw [State.epochEffect_eq]
      simpa using retired
    refine ⟨_, exec_epoch due, count, ?_, leap60, ?_, join, ?_, fun x mem => ⟨(left x mem).1, (left x mem).2.1⟩,
      fun locked x mem => (left x mem).2.2 (cls ▸ locked), ?_, fun day => ?_, fun loaded => ?_⟩
    · rw [State.epochEffect_eq]
      simp [time, dropped]
    · rw [State.epochEffect_eq, reset]
      simp
    · rw [State.epochEffect_eq]
      simp [offset, time, load]
    · rw [State.epochEffect_eq]
      simp only [State.buildAtEpoch_frame, State.entriesAtEpoch_frame, time, fresh, Bool.false_or]
      rw [rangeEnds_plain (State.resetSchedule_leapless _ _) high, decide_eq_true_eq]
    · obtain ⟨u, set, load', list', expanded⟩ := State.shiftCount_schedule ready
      refine ⟨u, set, load'.trans load, ?_, ?_⟩
      · rw [list', list, cls]
        rfl
      · have kept := State.entriesAtEpoch_within reached day
        rw [List.filter_eq_self.mpr fun x mem => by simpa using (entries x mem).1.ne'] at kept
        rw [State.epochEffect_eq, ← expanded]
        simp only [State.buildAtEpoch_frame, kept]
        rw [reset]
    · obtain ⟨⟨f, current, start, kind⟩, g, current', floor⟩ := caught _ count (State.epochReset_loaded loaded)
      obtain rfl := Option.some.inj (current.symm.trans current')
      exact ⟨f, current, start, kind, floor⟩

end Sys2Proof.Proofs
end

section
/-!
PROOFS. The next frame (R83, R84, R88) and the reports of schedule changes (R78, R87).
-/

namespace Sys2Proof.Machine

variable {s t u : State}

/-! ## Frames built -/

theorem withParity_length (group : List Bool) : (withParity group).length = group.length + 1 := by simp [withParity]

theorem bitsOf_length (n v : Nat) : (bitsOf n v).length = n := by simp [bitsOf]

/-- A frame of each of the three lengths has it (R81, R183). -/
theorem frameSymbols_length {length : Nat} (three : length = 59 ∨ length = 60 ∨ length = 61) (ann : Announcement) (l : LocalFields)
    (offset : Int) (segmentByte segment : Nat) : (frameSymbols length ann l offset segmentByte segment).length = length := by
  obtain rfl | rfl | rfl := three <;> simp [frameSymbols, withParity_length, bitsOf_length]

/-- The leap entry at the end of an ON_TIME frame (R84). -/
theorem frameLength_onTime (n0 : Int) (entries : List Entry) : frameLength n0 .onTime entries =
    (entries.find? (fun e => decide (e.instant = n0 + 60) && e.kind.isLeap)).elim 60
      (fun e => if e.kind = .leapInsert then 61 else 59) := by
  simp only [frameLength, beq_self_eq_true, Bool.true_or, Bool.and_true]
  cases entries.find? (fun e => decide (e.instant = n0 + 60) && e.kind.isLeap) <;> rfl

theorem frameLength_three (n0 : Int) (kind : BuildKind) (entries : List Entry) :
    frameLength n0 kind entries = 59 ∨ frameLength n0 kind entries = 60 ∨ frameLength n0 kind entries = 61 := by
  unfold frameLength
  split
  · split
    · exact .inr (.inr rfl)
    · exact .inl rfl
  · exact .inr (.inl rfl)

theorem frameFor_length (n0 : Int) (kind : BuildKind) (word : BitVec 32) (s : State) :
    (frameFor n0 kind word s).symbols.length = frameLength n0 kind s.schedule :=
  frameSymbols_length (frameLength_three _ _ _) _ _ _ _ _

theorem frameLength_plain {n0 : Int} {entries : List Entry} (none : ∀ e ∈ entries, e.kind.isLeap = true → e.instant ≠ n0 + 60) :
    frameLength n0 .onTime entries = 60 := by
  have missing : entries.find? (fun e => decide (e.instant = n0 + 60) && e.kind.isLeap) = Option.none :=
    List.find?_eq_none.mpr fun e mem => by simpa using fun due => Bool.eq_false_iff.mpr fun leap => none e mem leap due
  rw [frameLength_onTime, missing]
  rfl

/-- With a leap entry at its end and none of the other sign there, a frame has that leap's length (R84). -/
theorem frameLength_leap {n0 : Int} {entries : List Entry} {e : Entry} (mem : e ∈ entries) (leap : e.kind.isLeap = true)
    (due : e.instant = n0 + 60) (alone : ∀ x ∈ entries, x.kind.isLeap = true → x.instant = n0 + 60 → x.kind = e.kind) :
    frameLength n0 .onTime entries = if e.kind = .leapInsert then 61 else 59 := by
  rw [frameLength_onTime]
  cases found : entries.find? (fun e => decide (e.instant = n0 + 60) && e.kind.isLeap) with
  | none => exact absurd (List.find?_eq_none.mp found e mem) (by simp [due, leap])
  | some x =>
    have passes := List.find?_some found
    simp only [Bool.and_eq_true, decide_eq_true_eq] at passes
    have same := alone x (List.mem_of_find?_eq_some found) passes.2 passes.1
    simp [same]

theorem EntryKind.isLeap_iff {k : EntryKind} : k.isLeap = true ↔ k = .leapInsert ∨ k = .leapDelete := by cases k <;> simp [EntryKind.isLeap]

/-- A frame rests on these (R76, R81). -/
theorem frameFor_congr (n0 : Int) (kind : BuildKind) (word : BitVec 32) (load : t.load = s.load) (offset : t.time.offset = s.time.offset)
    (schedule : t.schedule = s.schedule) (cls : t.cls = s.cls) : frameFor n0 kind word t = frameFor n0 kind word s := by
  simp only [frameFor, load, offset, schedule, cls]

theorem buildWord_congr (n0 : Int) (latch : t.frames.latch = s.frames.latch) (schedule : t.schedule = s.schedule) :
    buildWord n0 t = buildWord n0 s := by
  simp only [buildWord, latch, schedule]

theorem State.buildPoint_held (held : s.frames.next.isSome = true) : s.buildPoint = s := by
  unfold State.buildPoint
  split
  next next => simp [next] at held
  · rfl

/-! ## Reports to the Frame Builder -/

/-- The next frame `g` marked stale (R87). -/
def State.Marks (g : Frame) (s t : State) : Prop := t.frames = { s.frames with next := some { g with stale := true } }

/-- A change of the schedule reported: a changed list has the next frame stale, and nothing else moves the frames (R78, R87). -/
def State.Reports (g : Frame) (s t : State) : Prop := (t.schedule ≠ s.schedule → s.Marks g t) ∧ (s.Marks g t ∨ t.frames = s.frames)

/-- A report that leaves the frames alone where the list is the same (R78). -/
def State.ReportsExactly (g : Frame) (s t : State) : Prop := s.Reports g t ∧ (t.schedule = s.schedule → t.frames = s.frames)

section

variable {g : Frame}

theorem State.ReportsExactly.refl (g : Frame) (s : State) : s.ReportsExactly g s :=
  ⟨⟨fun other => absurd rfl other, .inr rfl⟩, fun _ => rfl⟩

theorem State.ReportsExactly.quiet (h : s.ReportsExactly g u) (schedule : t.schedule = u.schedule) (frames : t.frames = u.frames) :
    s.ReportsExactly g t := by
  unfold State.ReportsExactly State.Reports State.Marks at *
  rwa [schedule, frames]

theorem State.setSchedule_reports (next : s.frames.next = some g) (entries : List Entry) : s.ReportsExactly g (s.setSchedule entries) := by
  unfold State.setSchedule
  split
  · exact .refl g s
  next other =>
    have marks : s.Marks g ({ s with schedule := entries } : State).markStale := by simp [State.Marks, State.markStale, next]
    exact ⟨⟨fun _ => marks, .inl marks⟩, fun same => absurd same other⟩

theorem State.insertOffer_reports (next : s.frames.next = some g) (o : Offer) : s.ReportsExactly g (s.insertOffer o) := by
  unfold State.insertOffer
  repeat' split
  · exact State.setSchedule_reports next _
  · exact (State.setSchedule_reports next (insertEntry o.entry s.schedule.dropLast)).quiet (by simp) (by simp)
  · exact (State.ReportsExactly.refl g s).quiet (by simp) (by simp)
  · exact (State.ReportsExactly.refl g s).quiet (by simp) (by simp)

theorem State.placeOffer_reports (next : s.frames.next = some g) (o : Offer) : s.ReportsExactly g (s.placeOffer o) := by
  unfold State.placeOffer
  repeat' split
  · exact State.setSchedule_reports next _
  · exact (State.ReportsExactly.refl g s).quiet rfl rfl
  · exact State.setSchedule_reports next _
  · exact State.insertOffer_reports next o
  · exact State.insertOffer_reports next o

theorem State.offer_reports (next : s.frames.next = some g) (o : Offer) : s.ReportsExactly g (s.offer o) := by
  have refused : s.ReportsExactly g (s.refuseOffer o) := (State.ReportsExactly.refl g s).quiet (by simp) (by simp)
  unfold State.offer
  repeat' split
  · exact .refl g s
  · exact .refl g s
  · exact refused
  · exact State.placeOffer_reports next o
  · exact refused
  · exact State.placeOffer_reports next o
  · exact .refl g s
  · exact .refl g s

theorem State.retire_reports (next : s.frames.next = some g) (n : Int) : s.ReportsExactly g (s.retire n) := by
  unfold State.retire
  dsimp only
  repeat' split
  · exact State.setSchedule_reports next _
  · exact (State.setSchedule_reports next _).quiet rfl rfl
  · exact State.setSchedule_reports next _
  · exact State.setSchedule_reports next _

/-- A further report, on frames that an earlier one has moved or left. -/
theorem State.Reports.offer (next : s.frames.next = some g) (h : s.Reports g u) (o : Offer) : s.Reports g (u.offer o) := by
  obtain ⟨changed, moved⟩ := h
  have further {f : Frame} (held : u.frames.next = some f) (marked : ∀ v : State, u.Marks f v → s.Marks g v)
      (kept : s.Marks g u ∨ u.frames = s.frames) : s.Reports g (u.offer o) := by
    obtain ⟨⟨changes, moves⟩, same⟩ := State.offer_reports held o
    refine ⟨fun other => ?_, ?_⟩
    · by_cases stood : (u.offer o).schedule = u.schedule
      · have frames := same stood
        have marks := changed (by rwa [← stood])
        unfold State.Marks at marks ⊢
        rwa [frames]
      · exact marked _ (changes stood)
    · obtain marks | frames := moves
      · exact .inl (marked _ marks)
      · unfold State.Marks at kept ⊢
        rwa [frames]
  obtain marks | frames := moved
  · refine further (f := { g with stale := true }) (by rw [marks]) (fun v again => ?_) (.inl marks)
    unfold State.Marks at marks again ⊢
    rw [again, marks]
  · refine further (f := g) (by rw [frames, next]) (fun v again => ?_) (.inr frames)
    unfold State.Marks at again ⊢
    rw [again, frames]

theorem State.expandRules_reports (next : s.frames.next = some g) : s.Reports g s.expandRules := by
  have offers (l : List Offer) {u : State} (h : s.Reports g u) : s.Reports g (l.foldl (fun acc o => acc.offer o) u) := by
    induction l generalizing u with
    | nil => exact h
    | cons o rest ih => exact ih (h.offer next o)
  unfold State.expandRules
  split
  · exact offers _ (State.ReportsExactly.refl g s).1
  · exact (State.ReportsExactly.refl g s).1

end

/-! ## The builds of a plain epoch -/

/-- What the count of a plain epoch leaves for the builds. -/
theorem State.epochCounted_builds {n : Int} (plain : AdvancesPlainly n s) (within : n + 1 ≤ 3155759999) :
    s.epochCounted.time.n = some (n + 1) ∧ s.epochCounted.time.leap60 = false ∧ s.epochCounted.schedule = s.schedule ∧
      s.epochCounted.frames = s.frames ∧ s.epochCounted.ctl.standing = s.ctl.standing := by
  rw [State.epochCounted_plain plain]
  simp only [State.ageAlarm_frame, (State.advanceTo_plain plain within).1]
  simp

end Sys2Proof.Machine

namespace Sys2Proof.Proofs

open Sys2Proof.Machine

/-- Settles O20: at a plain epoch the builds follow the count; and every change of the list is made by `setSchedule`, which reports it. -/
theorem buildPointMakesTheNextFrame : Obligations.BuildPointMakesTheNextFrame := by
  refine ⟨fun now s n f due plain flywheels within current point next loaded entries day => ?_, fun s g next => ?_,
    fun now s n g due plain flywheels within next entries day => ?_⟩
  · have plain := plain.at now
    obtain ⟨set, leap60, list, frames, standing⟩ := State.epochCounted_builds plain (by omega)
    have effect : (s.at now).epochEffect = (s.at now).epochCounted.buildNext (f.n0 + 60) := by
      rw [State.epochEffect_plain plain ⟨flywheels.ref, flywheels.line, flywheels.step⟩ (by omega) entries day,
        State.rebuildStale_fresh (by simp [frames, next])]
      have index : indexIn f (n + 1) false = 45 := (indexIn_eq (by decide)).mpr (by omega)
      simp [State.buildPoint, set, leap60, frames, current, next, standing, loaded, index]
    refine ⟨_, frameFor (f.n0 + 60) .onTime (buildWord (f.n0 + 60) (s.at now).epochCounted) (s.at now).epochCounted, exec_epoch due, ?_⟩
    rw [effect]
    have length := frameFor_length (f.n0 + 60) .onTime (buildWord (f.n0 + 60) (s.at now).epochCounted) (s.at now).epochCounted
    refine ⟨?_, rfl, rfl, rfl, rfl, rfl, ?_, rfl, ?_, fun none => ?_, fun e mem kind at_end alone => ?_, fun e mem kind at_end alone => ?_⟩
    · simp [frames, current]
    · simp [list]
    · simp [frames]
    · rw [length, list]
      exact frameLength_plain none
    · have same := frameLength_leap (n0 := f.n0 + 60) mem (by rw [kind]; rfl) at_end fun x held leap at_end' =>
        kind ▸ (EntryKind.isLeap_iff.mp leap).resolve_right fun other => alone x held other (at_end'.trans at_end.symm)
      rw [length, list]
      exact same.trans (by rw [kind]; rfl)
    · have same := frameLength_leap (n0 := f.n0 + 60) mem (by rw [kind]; rfl) at_end fun x held leap at_end' =>
        kind ▸ (EntryKind.isLeap_iff.mp leap).resolve_left fun other => alone x held other (at_end'.trans at_end.symm)
      rw [length, list]
      exact same.trans (by rw [kind]; rfl)
  · intro reports exact
    exact ⟨State.offer_reports next, State.setSchedule_reports next _, State.setSchedule_reports next _,
      fun n => ⟨State.setSchedule_reports next _, State.retire_reports next n⟩, fun f => State.setSchedule_reports next _,
      State.expandRules_reports next⟩
  · have plain := plain.at now
    obtain ⟨set, leap60, list, frames, standing⟩ := State.epochCounted_builds plain (by omega)
    have effect := State.epochEffect_plain plain ⟨flywheels.ref, flywheels.line, flywheels.step⟩ (by omega) entries day
    refine ⟨_, exec_epoch due, ?_, fun fresh => ?_, fun stale => ⟨_, rfl, ?_⟩⟩
    · rw [effect]
      simp [list]
    · rw [effect, State.rebuildStale_fresh (by simp [frames, next, fresh]), State.buildPoint_held (by simp [frames, next])]
      exact frames
    · have rebuilt : (s.at now).epochCounted.rebuildStale = { (s.at now).epochCounted.buildNext g.n0 with
          frames := { ((s.at now).epochCounted.buildNext g.n0).frames with rebuilds := bumpSat s.frames.rebuilds } } := by
        simp [State.rebuildStale, frames, next, stale]
      have word : buildWord g.n0 (s.at now).epochCounted = buildWord g.n0 s := buildWord_congr _ (by simp [frames]) list
      rw [effect, rebuilt, State.buildPoint_held rfl]
      simp only [State.buildNext, word, frames]
      rfl

end Sys2Proof.Proofs
end

section
/-! PROOFS. Start-up: the header tests and the read (O8). -/

namespace Sys2Proof.Machine

/-! ## Numbers of bytes -/

@[simp] theorem beNat_one (bytes : List Byte) (i : Nat) : beNat bytes i 1 = byteAt bytes i := by
  simp [beNat]

@[simp] theorem beNat_two (bytes : List Byte) (i : Nat) :
    beNat bytes i 2 = byteAt bytes i * 256 + byteAt bytes (i + 1) := by
  simp [beNat]

theorem byteAt_lt (bytes : List Byte) (i : Nat) : byteAt bytes i < 256 := (bytes.getD i 0#8).isLt

/-- A byte is told by its number. -/
theorem toNat_eq_iff (b : Byte) (v : Nat) (small : v < 256) : b.toNat = v ↔ b = BitVec.ofNat 8 v := by
  rw [← BitVec.toNat_inj, BitVec.toNat_ofNat, Nat.mod_eq_of_lt small]

/-! ## The header tests -/

theorem headerTest_signature (b0 b1 : Byte) :
    headerTest [b0, b1] = if b0 ≠ 0x5C#8 ∨ b1 ≠ 0x3E#8 then .failed .signature else .undecided := by
  simp [headerTest, byteAt, toNat_eq_iff b0 0x5C, toNat_eq_iff b1 0x3E]

theorem headerTest_length (h l : Byte) :
    headerTest [0x5C#8, 0x3E#8, h, l] =
      if h.toNat * 256 + l.toNat < 16 ∨ 4096 < h.toNat * 256 + l.toNat then .failed .length else .undecided := by
  simp [headerTest, byteAt]

theorem headerTest_format (h l f : Byte) (least : 16 ≤ h.toNat * 256 + l.toNat)
    (most : h.toNat * 256 + l.toNat ≤ 4096) :
    headerTest [0x5C#8, 0x3E#8, h, l, f] =
      if f = 0x01#8 then .passed (h.toNat * 256 + l.toNat) else .failed .format := by
  have within : ¬ (h.toNat * 256 + l.toNat < 16 ∨ 4096 < h.toNat * 256 + l.toNat) := by omega
  simp [headerTest, byteAt, within, toNat_eq_iff f 1]

theorem exec_imageHeaderCheck (now : Instant) (header : List Byte) (s : State) (reading : s.load.phase = .reading)
    (none : s.load.imageLength = 0)
    (due : now.clk = s.load.resetEndClk + 300000 + (24 + 8 * header.length) * 50) :
    exec (.imageHeaderCheck now header) s = .next ((s.at now).headerEffect header) :=
  exec_due (c := .imageHeaderCheck now header) (by
    simp [Instr.due, reading, none, due, Loader.bytesRead, Loader.readStart, Config.settling, Config.readHeadBits,
      Config.memClock])

/-! ## The pins and bits of the read -/

/-- Bit `k` of the instruction and the address, most significant first; low after its 24 bits. -/
theorem readInstructionBits_getD (k : Nat) :
    readInstructionBits.getD k false = true ↔ k < 24 ∧ Nat.testBit (0x03 * 65536) (23 - k) = true := by
  by_cases within : k < 24 <;> simp [readInstructionBits, within]

@[simp] theorem levelOf_high (b : Bool) : levelOf b = .high ↔ b = true := by cases b <;> simp [levelOf]

theorem imageBytes_byte (b : Byte) (rest : List Bool) :
    imageBytes ((List.range 8).map (fun i => b.getLsbD (7 - i)) ++ rest) = b :: imageBytes rest := by
  have spelt : ∀ b : Byte, BitVec.ofNat 8 (ofBits ((List.range 8).map (fun i => b.getLsbD (7 - i)))) = b := by decide
  conv => rhs; rw [← spelt b]
  rfl

theorem imageBytes_bits (image : List Byte) :
    imageBytes (image.flatMap (fun b => (List.range 8).map (fun i => b.getLsbD (7 - i)))) = image := by
  induction image with
  | nil => rfl
  | cons b rest ih => rw [List.flatMap_cons, imageBytes_byte, ih]

theorem memPins_reading (l : Loader) (k past : Nat) (reading : l.phase = .reading) (within : past < 50) :
    l.memPins (l.resetEndClk + 300000 + 50 * k + past) =
      { cs := l.memCs, clock := levelOf (25 ≤ past), dataOut := levelOf (readInstructionBits.getD k false) } := by
  have since : l.resetEndClk + 300000 + 50 * k + past - l.readStart = 50 * k + past := by
    simp only [Loader.readStart, Config.settling]; omega
  have period : (50 * k + past) / 50 = k := by omega
  have inPeriod : (50 * k + past) % 50 = past := by omega
  simp [Loader.memPins, reading, since, Config.memClock, Config.memClockLow, period, inPeriod]

end Sys2Proof.Machine

namespace Sys2Proof.Proofs
open Sys2Proof.Machine

/-- Settles O8: the header tests case by case on 2, 4 and 5 bytes, and the pins by the period the clock lies in. -/
theorem startUpReadsAndTestsTheHeader : Obligations.StartUpReadsAndTestsTheHeader := by
  refine ⟨⟨?_, ?_, ?_⟩, ?_, ?_, imageBytes_bits⟩
  · intro now slot1 slot0 s held
    have answered : exec (.resetEnd now slot1 slot0) s = .next ((s.at now).resetEndEffect slot1 slot0) :=
      exec_due (c := .resetEnd now slot1 slot0) (by simp [Instr.due, held])
    rw [answered]
    cases slot1 <;> cases slot0 <;> rfl
  · intro now s settling due
    exact exec_due (c := .settlingEnd now)
      (by simp [Instr.due, settling, due, Loader.readStart, Config.settling])
  · intro now header s reading none due
    have answered := exec_imageHeaderCheck now header s reading none due
    refine ⟨?_, ?_, ?_⟩
    · rintro b0 b1 rfl
      rw [answered]
      refine ⟨fun differs => ?_, fun same0 same1 => ?_⟩
      · simp only [State.headerEffect, headerTest_signature, if_pos differs]; rfl
      · simp only [State.headerEffect, headerTest_signature, same0, same1, ne_eq, not_true_eq_false, or_self, if_false]
    · rintro h l rfl
      rw [answered]
      refine ⟨fun outside => ?_, fun least most => ?_⟩
      · simp only [State.headerEffect, headerTest_length, if_pos outside]; rfl
      · have within : ¬ (h.toNat * 256 + l.toNat < 16 ∨ 4096 < h.toNat * 256 + l.toNat) := by omega
        simp only [State.headerEffect, headerTest_length, if_neg within]
    · rintro h l f rfl least most
      rw [answered]
      refine ⟨fun differs => ?_, fun same => ?_⟩
      · simp only [State.headerEffect, headerTest_format h l f least most, if_neg differs]; rfl
      · simp only [State.headerEffect, headerTest_format h l f least most, if_pos same]; rfl
  · intro l clk idle
    simp [Loader.memPins, idle]
  · intro l k past reading within
    have bitOut := readInstructionBits_getD k
    simpa [memPins_reading l k past reading within] using bitOut

end Sys2Proof.Proofs
end

section
/-! PROOFS. The record walk and the fields it reads (O9). -/

namespace Sys2Proof.Machine

/-! ## Numbers of bytes as integers -/

/-- The byte at an offset as an integer. -/
def byteInt (body : List Byte) (i : Nat) : Int := ((body.getD i 0#8).toNat : Int)

theorem byteInt_eq (body : List Byte) (i : Nat) : (byteAt body i : Int) = byteInt body i := rfl

theorem byteInt_range (body : List Byte) (i : Nat) : 0 ≤ byteInt body i ∧ byteInt body i < 256 := by
  have below := byteAt_lt body i
  rw [← byteInt_eq]; omega

theorem beNat_two_int (body : List Byte) (i : Nat) :
    ((beNat body i 2 : Nat) : Int) = 256 * byteInt body i + byteInt body (i + 1) := by
  rw [beNat_two, ← byteInt_eq, ← byteInt_eq]; omega

theorem beNat_four_int (body : List Byte) (i : Nat) :
    ((beNat body i 4 : Nat) : Int) =
      65536 * (256 * byteInt body i + byteInt body (i + 1)) + (256 * byteInt body (i + 2) + byteInt body (i + 3)) := by
  have parts : beNat body i 4 =
      ((byteAt body i * 256 + byteAt body (i + 1)) * 256 + byteAt body (i + 2)) * 256 + byteAt body (i + 3) := by
    simp [beNat]
  rw [parts, ← byteInt_eq, ← byteInt_eq, ← byteInt_eq, ← byteInt_eq]; omega

/-- One byte read as two's complement. -/
theorem beInt_one (body : List Byte) (i : Nat) :
    beInt body i 1 = if 128 ≤ byteInt body i then byteInt body i - 256 else byteInt body i := by
  have below := byteAt_lt body i
  rw [beInt, beNat_one, ← byteInt_eq, signedOf, Nat.mod_eq_of_lt (by simpa using below)]
  have half : 2 ^ (8 * 1 - 1) = 128 := rfl
  have full : 2 ^ (8 * 1) = 256 := rfl
  rw [half, full]
  split <;> split <;> omega

/-- Four bytes read as two's complement. -/
theorem beInt_four (body : List Byte) (i : Nat) :
    beInt body i 4 =
      if 128 ≤ byteInt body i then ((beNat body i 4 : Nat) : Int) - 4294967296 else (beNat body i 4 : Nat) := by
  have value := beNat_four_int body i
  have r0 := byteInt_range body i
  have r1 := byteInt_range body (i + 1)
  have r2 := byteInt_range body (i + 2)
  have r3 := byteInt_range body (i + 3)
  have half : 2 ^ (8 * 4 - 1) = 2147483648 := rfl
  have full : 2 ^ (8 * 4) = 4294967296 := rfl
  rw [beInt, signedOf, half, full, Nat.mod_eq_of_lt (by omega)]
  split <;> split <;> omega

/-! ## Fields held to their ranges -/

theorem clampField_fst (v : Int) {lo hi : Int} (ordered : lo ≤ hi) : (clampField v lo hi).1 = max lo (min hi v) :=
  clampInt_eq v lo hi ordered

theorem clampField_snd (v lo hi : Int) : (clampField v lo hi).2 = true ↔ v < lo ∨ hi < v := decide_eq_true_iff

/-- Two bytes as one big-endian number, and four. -/
def wordInt (body : List Byte) (i : Nat) : Int := 256 * byteInt body i + byteInt body (i + 1)
def longInt (body : List Byte) (i : Nat) : Int := 65536 * wordInt body i + wordInt body (i + 2)

theorem beNat_word (body : List Byte) (i : Nat) : ((beNat body i 2 : Nat) : Int) = wordInt body i := beNat_two_int body i
theorem beNat_long (body : List Byte) (i : Nat) : ((beNat body i 4 : Nat) : Int) = longInt body i := beNat_four_int body i
theorem beNat_byte (body : List Byte) (i : Nat) : ((beNat body i 1 : Nat) : Int) = byteInt body i := by
  rw [beNat_one, byteInt_eq]

theorem readRule_fst (body : List Byte) (i : Nat) :
    (readRule body i).1 =
      { month := (max 1 (min 12 (byteInt body i))).toNat, ordinal := (max 1 (min 5 (byteInt body (i + 1)))).toNat
        weekday := (max 1 (min 7 (byteInt body (i + 2)))).toNat
        minute := (max 0 (min 1439 (wordInt body (i + 3)))).toNat } := by
  simp only [readRule, beNat_byte, beNat_word]
  congr 2 <;> exact clampField_fst _ (by decide)

theorem readRule_snd (body : List Byte) (i : Nat) :
    (readRule body i).2 = true ↔
      (byteInt body i < 1 ∨ 12 < byteInt body i) ∨ (byteInt body (i + 1) < 1 ∨ 5 < byteInt body (i + 1)) ∨
      (byteInt body (i + 2) < 1 ∨ 7 < byteInt body (i + 2)) ∨ (wordInt body (i + 3) < 0 ∨ 1439 < wordInt body (i + 3)) := by
  simp only [readRule, beNat_byte, beNat_word, Bool.or_eq_true, clampField_snd]
  simp only [or_assoc]

theorem readSite_fst (body : List Byte) :
    (readSite body).1 =
      { announce := (max 1 (min 1440 (wordInt body 0))).toNat, epochTol := (max 10 (min 5000 (wordInt body 2))).toNat
        rescueGrace := (max 500 (min 20000 (wordInt body 4))).toNat
        conflictLimit := (max 1 (min 8 (byteInt body 6))).toNat
        holdLimit := (max 60 (min 86400 (longInt body 7))).toNat, qMin := (max 0 (min 15 (byteInt body 11))).toNat
        keyAdvance := (max 0 (min 2000 (wordInt body 12))).toNat, outlier := (max 1 (min 1000 (wordInt body 14))).toNat
        lineDiscipline := decide (byteInt body 16 ≠ 0) } := by
  have line : max 0 (min 1 (byteInt body 16)) = 1 ↔ byteInt body 16 ≠ 0 := by
    have range := byteInt_range body 16
    omega
  simp only [readSite, beNat_byte, beNat_word, beNat_long, clampField_fst, Int.reduceLE, line]

theorem readSite_snd (body : List Byte) :
    (readSite body).2 = true ↔
      (wordInt body 0 < 1 ∨ 1440 < wordInt body 0) ∨ (wordInt body 2 < 10 ∨ 5000 < wordInt body 2) ∨
      (wordInt body 4 < 500 ∨ 20000 < wordInt body 4) ∨ (byteInt body 6 < 1 ∨ 8 < byteInt body 6) ∨
      (longInt body 7 < 60 ∨ 86400 < longInt body 7) ∨ (byteInt body 11 < 0 ∨ 15 < byteInt body 11) ∨
      (wordInt body 12 < 0 ∨ 2000 < wordInt body 12) ∨ (wordInt body 14 < 1 ∨ 1000 < wordInt body 14) ∨
      (byteInt body 16 < 0 ∨ 1 < byteInt body 16) := by
  simp only [readSite, beNat_byte, beNat_word, beNat_long, Bool.or_eq_true, clampField_snd]
  simp only [or_assoc]

/-- One byte as two's complement. -/
def signedByte (body : List Byte) (i : Nat) : Int :=
  if 128 ≤ byteInt body i then byteInt body i - 256 else byteInt body i

theorem readZone_fst (body : List Byte) :
    (readZone body).1 =
      { standard := max (-48) (min 56 (signedByte body 0)), summer := max (-48) (min 56 (signedByte body 1))
        startRule := (readRule body 2).1, endRule := (readRule body 7).1 } := by
  simp only [readZone, beInt_one]
  congr 1 <;> exact clampField_fst _ (by decide)

theorem readZone_snd (body : List Byte) :
    (readZone body).2 = true ↔
      (signedByte body 0 < -48 ∨ 56 < signedByte body 0) ∨ (signedByte body 1 < -48 ∨ 56 < signedByte body 1) ∨
      (readRule body 2).2 = true ∨ (readRule body 7).2 = true := by
  simp only [readZone, beInt_one, Bool.or_eq_true, clampField_snd, signedByte]
  simp only [or_assoc]

/-- Four bytes as two's complement. -/
def signedLong (body : List Byte) : Int :=
  if 128 ≤ byteInt body 0 then longInt body 0 - 4294967296 else longInt body 0

theorem beInt_long (body : List Byte) : beInt body 0 4 = signedLong body := by
  rw [beInt_four, beNat_long]; rfl

theorem readTrim_fst (body : List Byte) :
    (readTrim body).1 = max (-3276800) (min 3276800 (signedLong body)) := by
  rw [readTrim, beInt_long]; exact clampField_fst _ (by decide)

theorem readTrim_snd (body : List Byte) :
    (readTrim body).2 = true ↔ signedLong body < -3276800 ∨ 3276800 < signedLong body := by
  rw [readTrim, beInt_long]; exact clampField_snd _ _ _

theorem readAlert_fst (body : List Byte) :
    (readAlert body).1 =
      { count := (max 1 (min 15 (byteInt body 0))).toNat, delay := (max 1 (min 255 (byteInt body 1))).toNat } := by
  simp only [readAlert, beNat_byte]
  congr 2 <;> exact clampField_fst _ (by decide)

theorem readAlert_snd (body : List Byte) :
    (readAlert body).2 = true ↔
      (byteInt body 0 < 1 ∨ 15 < byteInt body 0) ∨ (byteInt body 1 < 1 ∨ 255 < byteInt body 1) := by
  simp only [readAlert, beNat_byte, Bool.or_eq_true, clampField_snd]

/-- A record written: the staging set it leaves, and when it leaves the clamp flag set. -/
def Writes (type : Nat) (body : List Byte) (w : Walked) (staging : Staging) (clamped : Prop) : Prop :=
  (writeRecord type body w).staging = staging ∧ ((writeRecord type body w).clamp = true ↔ w.clamp = true ∨ clamped)

theorem writeRecord_site (body : List Byte) (w : Walked) :
    Writes 1 body w { w.staging with site := some (readSite body).1 } ((readSite body).2 = true) :=
  ⟨rfl, by simp [writeRecord]⟩

theorem writeRecord_zone (body : List Byte) (w : Walked) :
    Writes 2 body w { w.staging with zone := some (readZone body).1 } ((readZone body).2 = true) :=
  ⟨rfl, by simp [writeRecord]⟩

theorem writeRecord_trim (body : List Byte) (w : Walked) :
    Writes 3 body w { w.staging with trim := some (readTrim body).1 } ((readTrim body).2 = true) :=
  ⟨rfl, by simp [writeRecord]⟩

theorem writeRecord_alert (body : List Byte) (w : Walked) :
    Writes 4 body w { w.staging with alert := some (readAlert body).1 } ((readAlert body).2 = true) :=
  ⟨rfl, by simp [writeRecord]⟩

theorem Writes.congr {type : Nat} {body : List Byte} {w : Walked} {g g' : Staging} {p p' : Prop}
    (written : Writes type body w g p) (sameSet : g = g') (sameFlag : p ↔ p') : Writes type body w g' p' :=
  ⟨written.1.trans sameSet, written.2.trans (or_congr_right sameFlag)⟩

theorem knownLength_short {type length : Nat} :
    (∃ least, knownLength type = some least ∧ length < least) ↔
      (type = 1 ∧ length < 17) ∨ (type = 2 ∧ length < 12) ∨ (type = 3 ∧ length < 4) ∨ (type = 4 ∧ length < 2) := by
  unfold knownLength
  split <;> simp_all

theorem writeRecord_unknown {type : Nat} (unknown : type = 0 ∨ 5 ≤ type) (body : List Byte) (w : Walked) :
    writeRecord type body w = w := by
  obtain rfl | many := unknown
  · rfl
  · obtain ⟨k, rfl⟩ := Nat.exists_eq_add_of_le' many
    rfl

/-! ## The walk -/

/-- A record visited: the test of its place, then of its length, then the next offset. -/
theorem walkFrom_succ (image : List Byte) (left least offset : Nat) (w : Walked) :
    walkFrom image (left + 1) least offset w =
      if offset < least ∨ image.length < offset + 4 + byteAt image (offset + 1) + 2 then { result := .chain, walked := w }
      else if ∃ l, knownLength (byteAt image offset) = some l ∧ byteAt image (offset + 1) < l then
        { result := .shortRecord, walked := w }
      else
        let handled := writeRecord (byteAt image offset) ((image.drop (offset + 4)).take (byteAt image (offset + 1))) w
        if beNat image (offset + 2) 2 = 0 then { result := .ok, walked := handled }
        else walkFrom image left (offset + 4 + byteAt image (offset + 1)) (beNat image (offset + 2) 2) handled := by
  have outside : (offset < least ∨ image.length - 2 < offset + 4 ∨ image.length - 2 < offset + 4 + byteAt image (offset + 1)) ↔
      (offset < least ∨ image.length < offset + 4 + byteAt image (offset + 1) + 2) := by
    omega
  rw [walkFrom]
  simp only [outside]
  split
  · rfl
  · cases known : knownLength (byteAt image offset) with
    | some l => simp
    | none =>
      have unknown : byteAt image offset = 0 ∨ 5 ≤ byteAt image offset := by
        by_contra type
        have one : byteAt image offset = 1 ∨ byteAt image offset = 2 ∨ byteAt image offset = 3 ∨ byteAt image offset = 4 := by
          omega
        obtain type | type | type | type := one <;> simp [type, knownLength] at known
      simp [writeRecord_unknown unknown]

theorem exec_imageReadEnd (now : Instant) (rest : List Byte) (s : State) (reading : s.load.phase = .reading)
    (known : s.load.imageLength ≠ 0) (whole : s.load.buffer.length + rest.length = s.load.imageLength)
    (due : now.clk = s.load.resetEndClk + 300000 + (24 + 8 * s.load.imageLength) * 50) :
    exec (.imageReadEnd now rest) s = .next ((s.at now).readEndEffect rest) :=
  exec_due (c := .imageReadEnd now rest) (by
    simp [Instr.due, reading, known, whole, due, Loader.bytesRead, Loader.readStart, Config.settling, Config.readHeadBits,
      Config.memClock])

/-- The walk of a whole image before R168: from its first-record offset, 0 meaning no records. -/
def walkRecords (image : List Byte) : WalkEnd :=
  let start : Walked := { staging := Staging.empty, clamp := false }
  if beNat image 5 2 = 0 then { result := .ok, walked := start } else walkFrom image 16 7 (beNat image 5 2) start

theorem walkImage_eq (image : List Byte) :
    walkImage image =
      if (walkRecords image).result = .ok then { walkRecords image with walked := limitEpochTol (walkRecords image).walked }
      else walkRecords image := by
  have shape (e : WalkEnd) : (match e.result with
      | .ok => { e with walked := limitEpochTol e.walked }
      | _ => e) = if e.result = .ok then { e with walked := limitEpochTol e.walked } else e := by
    split <;> simp_all
  exact shape (walkRecords image)

theorem limitEpochTol_within {w : Walked} (within : ∀ site ∈ w.staging.site, site.epochTol ≤ site.rescueGrace / 2) :
    limitEpochTol w = w := by
  unfold limitEpochTol
  split
  next site held => exact if_neg (Nat.not_lt.2 (within site held))
  next => rfl

theorem limitEpochTol_beyond {w : Walked} {site : Site} (held : w.staging.site = some site)
    (beyond : site.rescueGrace / 2 < site.epochTol) :
    limitEpochTol w =
      { staging := { w.staging with site := some { site with epochTol := site.rescueGrace / 2 } }, clamp := true } := by
  simp [limitEpochTol, held, beyond]

/-! ## The end of the read -/

theorem walkEffect_crc {image : List Byte} {s : State} (bad : crc16 image ≠ 0#16) :
    s.walkEffect image = s.failLoad .crc s.load.clamp := if_pos bad

theorem walkEffect_failed {image : List Byte} {s : State} (good : crc16 image = 0#16)
    (failed : (walkRecords image).result ≠ .ok) :
    s.walkEffect image = s.failLoad (walkRecords image).result (walkRecords image).walked.clamp := by
  simp [State.walkEffect, good, walkImage_eq, failed]

theorem walkEffect_within {image : List Byte} {s : State} (good : crc16 image = 0#16)
    (ended : (walkRecords image).result = .ok)
    (within : ∀ site ∈ (walkRecords image).walked.staging.site, site.epochTol ≤ site.rescueGrace / 2) :
    s.walkEffect image = s.endRead .walking .ok (walkRecords image).walked.staging (walkRecords image).walked.clamp := by
  simp [State.walkEffect, good, walkImage_eq, ended, limitEpochTol_within within]

theorem walkEffect_beyond {image : List Byte} {s : State} {site : Site} (good : crc16 image = 0#16)
    (ended : (walkRecords image).result = .ok) (held : (walkRecords image).walked.staging.site = some site)
    (beyond : site.rescueGrace / 2 < site.epochTol) :
    s.walkEffect image =
      s.endRead .walking .ok
        { (walkRecords image).walked.staging with site := some { site with epochTol := site.rescueGrace / 2 } } true := by
  simp [State.walkEffect, good, walkImage_eq, ended, limitEpochTol_beyond held beyond]

/-- The state in which the whole image lies in the buffer. -/
theorem readEndEffect_eq (rest : List Byte) (s : State) :
    s.readEndEffect rest =
      ({ s with load := { s.load with buffer := s.load.buffer ++ rest } } : State).walkEffect (s.load.buffer ++ rest) := rfl

end Sys2Proof.Machine

namespace Sys2Proof.Proofs
open Sys2Proof.Machine

/-- The first part of O9: the tests of IMAGE_READ_END. -/
theorem imageReadEnd_tests (now : Instant) (rest : List Byte) (s : State) (reading : s.load.phase = .reading)
    (known : s.load.imageLength ≠ 0) (whole : s.load.buffer.length + rest.length = s.load.imageLength)
    (due : now.clk = s.load.resetEndClk + 300000 + (24 + 8 * s.load.imageLength) * 50) :
    let image := s.load.buffer ++ rest
    let walked := walkRecords image
    let endsWith (phase : LoadPhase) (r : LoadResult) (staging : Staging) (clamp : Bool) : Prop :=
      exec (.imageReadEnd now rest) s = .next { s with
        tick := now.tick, clk := now.clk
        load := { s.load with
          phase := phase, result := some r, staging := staging, clamp := clamp, memCs := .high, buffer := image
          doneClk := some (now.clk + 1000) } }
    (crc16 image ≠ 0#16 → endsWith .ending .crc Staging.empty s.load.clamp) ∧
    (crc16 image = 0#16 → walked.result ≠ .ok → endsWith .ending walked.result Staging.empty walked.walked.clamp) ∧
    (crc16 image = 0#16 → walked.result = .ok →
      ((∀ site ∈ walked.walked.staging.site, site.epochTol ≤ site.rescueGrace / 2) →
        endsWith .walking .ok walked.walked.staging walked.walked.clamp) ∧
      ∀ site, walked.walked.staging.site = some site → site.rescueGrace / 2 < site.epochTol →
        endsWith .walking .ok
          { walked.walked.staging with site := some { site with epochTol := site.rescueGrace / 2 } } true) := by
  intro image walked endsWith
  have answered := exec_imageReadEnd now rest s reading known whole due
  rw [readEndEffect_eq] at answered
  refine ⟨fun bad => ?_, fun good failed => ?_, fun good ended => ⟨fun within => ?_, fun site held beyond => ?_⟩⟩
  · exact answered.trans (congrArg _ (walkEffect_crc bad))
  · exact answered.trans (congrArg _ (walkEffect_failed good failed))
  · exact answered.trans (congrArg _ (walkEffect_within good ended within))
  · exact answered.trans (congrArg _ (walkEffect_beyond good ended held beyond))

theorem walk_record (image : List Byte) (left least offset : Nat) (w : Walked) :
    let type := (image.getD offset 0#8).toNat
    let bodyLength := (image.getD (offset + 1) 0#8).toNat
    let next := (image.getD (offset + 2) 0#8).toNat * 256 + (image.getD (offset + 3) 0#8).toNat
    let recordEnd := offset + 4 + bodyLength
    let short := (type = 1 ∧ bodyLength < 17) ∨ (type = 2 ∧ bodyLength < 12) ∨ (type = 3 ∧ bodyLength < 4) ∨
      (type = 4 ∧ bodyLength < 2)
    let handled := writeRecord type ((image.drop (offset + 4)).take bodyLength) w
    ((offset < least ∨ image.length < recordEnd + 2) →
      walkFrom image (left + 1) least offset w = { result := .chain, walked := w }) ∧
    (least ≤ offset → recordEnd + 2 ≤ image.length →
      (short → walkFrom image (left + 1) least offset w = { result := .shortRecord, walked := w }) ∧
      (¬ short → next = 0 → walkFrom image (left + 1) least offset w = { result := .ok, walked := handled }) ∧
      (¬ short → next ≠ 0 →
        walkFrom image (left + 1) least offset w = walkFrom image left recordEnd next handled) ∧
      ((type = 0 ∨ 5 ≤ type) → handled = w)) := by
  intro type bodyLength next recordEnd short handled
  have shape := walkFrom_succ image left least offset w
  have nextAt : beNat image (offset + 2) 2 = next := beNat_two image (offset + 2)
  simp only [knownLength_short, nextAt] at shape
  refine ⟨fun outside => shape.trans (if_pos outside), fun after fits => ?_⟩
  have inside : ¬ (offset < least ∨ image.length < recordEnd + 2) := by omega
  replace shape := shape.trans (if_neg inside)
  exact ⟨fun isShort => shape.trans (if_pos isShort),
    fun isLong last => shape.trans ((if_neg isLong).trans (if_pos last)),
    fun isLong more => shape.trans ((if_neg isLong).trans (if_neg more)),
    fun unknown => writeRecord_unknown unknown _ _⟩

/-- Settles O9: the read's end test by test, the walk record by record, and each body's fields through their ranges. -/
theorem imageReadEndWalksTheRecords : Obligations.ImageReadEndWalksTheRecords := by
  refine ⟨?_, ?_⟩
  · intro now rest s reading known whole due image first empty walked
    have same : walked = walkRecords image := by
      simp only [walkRecords, beNat_two]; rfl
    have tests := imageReadEnd_tests now rest s reading known whole due
    rw [same]
    exact tests
  · intro image left least offset w
    refine ⟨rfl, (walk_record image left least offset w).1, (walk_record image left least offset w).2, ?_⟩
    intro u8 u16 u32 held out body w u uu s8 s32 rule ruleOut writes site zone alert
    have zoneFlag : (readZone body).2 = true ↔ out (s8 0) (-48) 56 ∨ out (s8 1) (-48) 56 ∨ ruleOut 2 ∨ ruleOut 7 := by
      rw [readZone_snd, readRule_snd, readRule_snd]; exact Iff.rfl
    have zoneRead : (readZone body).1 = zone := by
      rw [readZone_fst, readRule_fst, readRule_fst]; rfl
    exact ⟨(writeRecord_site body w).congr (by rw [readSite_fst]; rfl) (readSite_snd body),
      (writeRecord_zone body w).congr (by rw [zoneRead]) zoneFlag,
      (writeRecord_trim body w).congr (by rw [readTrim_fst]; rfl) (readTrim_snd body),
      (writeRecord_alert body w).congr (by rw [readAlert_fst]; rfl) (readAlert_snd body)⟩

end Sys2Proof.Proofs
end

section
/-! PROOFS. The completion of a load and the ranges of what it puts in force (O10). -/

namespace Sys2Proof.Machine

/-! ## The ranges of what a walk writes -/

/-- The SITE fields within the ranges of R166, before the constraint of R168. -/
structure Site.Ranged (p : Site) : Prop where
  announce : 1 ≤ p.announce ∧ p.announce ≤ 1440
  epochTol : 10 ≤ p.epochTol ∧ p.epochTol ≤ 5000
  rescueGrace : 500 ≤ p.rescueGrace ∧ p.rescueGrace ≤ 20000
  conflictLimit : 1 ≤ p.conflictLimit ∧ p.conflictLimit ≤ 8
  holdLimit : 60 ≤ p.holdLimit ∧ p.holdLimit ≤ 86400
  qMin : p.qMin ≤ 15
  keyAdvance : p.keyAdvance ≤ 2000
  outlier : 1 ≤ p.outlier ∧ p.outlier ≤ 1000

/-- The offsets and rules of a ZONE record within the ranges of R166. -/
def Zone.Ranged (z : Zone) : Prop :=
  -48 ≤ z.standard ∧ z.standard ≤ 56 ∧ -48 ≤ z.summer ∧ z.summer ≤ 56 ∧ RuleInRange z.startRule ∧ RuleInRange z.endRule

/-- The ALERT fields within the ranges of R166. -/
def Alert.Ranged (a : Alert) : Prop := 1 ≤ a.count ∧ a.count ≤ 15 ∧ 1 ≤ a.delay ∧ a.delay ≤ 255

/-- Every record of a staging set within the ranges of R166. -/
structure Staging.Ranged (g : Staging) : Prop where
  site : ∀ p ∈ g.site, p.Ranged
  zone : ∀ z ∈ g.zone, z.Ranged
  trim : trimInRange g.trim
  alert : ∀ a ∈ g.alert, a.Ranged

theorem readSite_ranged (body : List Byte) : (readSite body).1.Ranged := by
  rw [readSite_fst]
  constructor <;> dsimp only <;> omega

theorem readRule_ranged (body : List Byte) (i : Nat) : RuleInRange (readRule body i).1 := by
  rw [readRule_fst]
  constructor <;> dsimp only <;> omega

theorem readZone_ranged (body : List Byte) : (readZone body).1.Ranged := by
  have start := readRule_ranged body 2
  have finish := readRule_ranged body 7
  rw [readZone_fst]
  refine ⟨?_, ?_, ?_, ?_, start, finish⟩ <;> dsimp only <;> omega

theorem readTrim_ranged (body : List Byte) : trimInRange (some (readTrim body).1) := by
  intro f brought
  obtain rfl := Option.some.inj brought
  exact clampInt_within (by decide)

theorem readAlert_ranged (body : List Byte) : (readAlert body).1.Ranged := by
  rw [readAlert_fst, Alert.Ranged]
  dsimp only
  omega

theorem writeRecord_ranged (type : Nat) (body : List Byte) {w : Walked} (ranged : w.staging.Ranged) :
    (writeRecord type body w).staging.Ranged := by
  unfold writeRecord
  split
  · exact { ranged with site := by rintro p ⟨⟩; exact readSite_ranged body }
  · exact { ranged with zone := by rintro z ⟨⟩; exact readZone_ranged body }
  · exact { ranged with trim := readTrim_ranged body }
  · exact { ranged with alert := by rintro a ⟨⟩; exact readAlert_ranged body }
  · exact ranged

theorem Staging.ranged_empty : Staging.empty.Ranged := by
  constructor <;> simp [Staging.empty, trimInRange]

theorem walkRecords_ranged (image : List Byte) : (walkRecords image).walked.staging.Ranged := by
  unfold walkRecords
  dsimp only
  split
  · exact Staging.ranged_empty
  · exact walkFrom_keeps (P := fun w => w.staging.Ranged) (fun _ _ _ => writeRecord_ranged _ _) image _ _ _ Staging.ranged_empty

/-- What R168 limits lies within its ranges. -/
theorem Site.Ranged.limited {p : Site} (ranged : p.Ranged) (beyond : p.rescueGrace / 2 < p.epochTol) :
    SiteInRange { p with epochTol := p.rescueGrace / 2 } := by
  obtain ⟨announce, tol, grace, conflict, hold, qMin, advance, outlier⟩ := ranged
  exact ⟨announce, by dsimp only; omega, grace, conflict, hold, qMin, advance, outlier⟩

theorem Site.Ranged.inRange {p : Site} (ranged : p.Ranged) (within : p.epochTol ≤ p.rescueGrace / 2) : SiteInRange p := by
  obtain ⟨announce, tol, grace, conflict, hold, qMin, advance, outlier⟩ := ranged
  exact ⟨announce, ⟨tol.1, tol.2, within⟩, grace, conflict, hold, qMin, advance, outlier⟩

/-- The limit of R168 leaves the SITE fields, or their defaults, within their ranges. -/
theorem limitEpochTol_site {w : Walked} (ranged : w.staging.Ranged) :
    SiteInRange ((limitEpochTol w).staging.site.getD Site.defaults) := by
  cases held : w.staging.site with
  | none =>
    have same : limitEpochTol w = w := limitEpochTol_within (by simp [held])
    rw [same, held]
    exact Params.defaults_inRange.site
  | some site =>
    have siteRanged := ranged.site site held
    by_cases beyond : site.rescueGrace / 2 < site.epochTol
    · rw [limitEpochTol_beyond held beyond]
      exact siteRanged.limited beyond
    · have within : site.epochTol ≤ site.rescueGrace / 2 := Nat.le_of_not_lt beyond
      rw [limitEpochTol_within (by simpa [held] using within), held]
      exact siteRanged.inRange within

/-- R168 changes the SITE record only. -/
theorem limitEpochTol_others (w : Walked) :
    (limitEpochTol w).staging.zone = w.staging.zone ∧ (limitEpochTol w).staging.trim = w.staging.trim ∧
      (limitEpochTol w).staging.alert = w.staging.alert := by
  unfold limitEpochTol
  repeat' split
  · exact ⟨rfl, rfl, rfl⟩
  · exact ⟨rfl, rfl, rfl⟩
  · exact ⟨rfl, rfl, rfl⟩

theorem walkImage_inRange {image : List Byte} (ended : (walkImage image).result = .ok) :
    ParamsInRange (walkImage image).walked.staging.params := by
  have recordsEnded : (walkRecords image).result = .ok := by
    by_contra failed
    rw [walkImage_eq, if_neg failed] at ended
    exact failed ended
  have ranged := walkRecords_ranged image
  obtain ⟨zone, trim, alert⟩ := limitEpochTol_others (walkRecords image).walked
  rw [walkImage_eq, if_pos recordsEnded]
  refine ⟨limitEpochTol_site ranged, ?_, ?_, ?_⟩
  · intro z held
    exact ranged.zone z (by rwa [← zone])
  · simpa [Staging.params, trim] using ranged.trim
  · simp only [Staging.params, alert]
    cases held : (walkRecords image).walked.staging.alert with
    | none => exact Params.defaults_inRange.alert
    | some a => exact ranged.alert a held

/-! ## The steps of a completion -/

section
variable {s : State}

@[simp] theorem State.takeParams_load (s : State) : s.takeParams.load = s.load.complete := by simp [State.takeParams]

theorem State.takeParams_f (s : State) : s.takeParams.timer.f = s.load.complete.params.trim.getD s.timer.f := by
  simp [State.takeParams]

theorem State.redrive_length (s : State) : s.redrive.timer.length = s.timer.length := by
  unfold State.redrive
  repeat' split
  all_goals rfl

theorem State.takeParams_length (s : State) : s.takeParams.timer.length = s.timer.length := by
  simp [State.takeParams, State.redrive_length]

theorem Loader.complete_ok {l : Loader} (ok : l.result = some .ok) :
    l.complete = { l with phase := .done, params := l.staging.params, source := some .image } := if_pos ok

theorem Loader.complete_failed {l : Loader} (failed : l.result ≠ some .ok) :
    l.complete = { l with phase := .done, params := Params.defaults, source := some .defaults, clamp := false } :=
  if_neg failed

theorem Loader.complete_stands (l : Loader) :
    l.complete.phase = .done ∧ l.complete.result = l.result ∧ l.complete.slot = l.slot := by
  unfold Loader.complete
  split <;> exact ⟨rfl, rfl, rfl⟩

theorem State.offsetAtLoad_set {n : Int} (set : s.time.n = some n) :
    s.offsetAtLoad.time = { s.time with offset := offsetFromRules s.load.params n } ∧ s.offsetAtLoad.CaughtUp n := by
  simp only [State.offsetAtLoad, set, State.catchUpNow_frame, State.expandRules_frame, true_and]
  exact State.catchUpNow_caughtUp (by simp)

theorem State.offsetAtLoad_unset (unset : s.time.n = none) :
    s.offsetAtLoad = { s with time := { s.time with offset := s.load.params.standardOffset } } := by
  simp only [State.offsetAtLoad, unset]

theorem State.raiseConfig_defaults (source : s.load.source = some .defaults) : s.raiseConfig = s.raise .configDefaults :=
  if_pos source

theorem State.raiseConfig_image (source : s.load.source = some .image) :
    s.raiseConfig = if s.load.clamp then s.raise .configClamped else s := by
  simp [State.raiseConfig, source]

/-- ALERT_N asserted through signals: before them, or by the raisings they leave (R179). -/
theorem Maintenance.Signalled.alert_cause {loaded : Bool} {limit : Nat} {m u : Maintenance} (h : m.Signalled loaded limit u)
    (asserted : u.alertN = true) : m.alertN = true ∨ limit ≤ u.raisings ∧ limit ≤ 255 := by
  induction h with
  | none => exact .inl asserted
  | @raising u k n clk _ ih =>
    simp only [Bool.or_eq_true, Bool.and_eq_true, decide_eq_true_eq] at asserted
    obtain before | ⟨-, reached⟩ := asserted
    · obtain first | ⟨already, most⟩ := ih before
      · exact .inl first
      · exact .inr ⟨by dsimp only [bumpSat]; split <;> omega, most⟩
    · exact .inr ⟨reached, reached.trans (bumpSat_le _)⟩
  | count bump add _ ih => exact ih asserted
  | rescueLamp _ ih => exact ih asserted
  | peerLamp _ ih => exact ih asserted

theorem State.judgeAlert_iff (s : State) :
    s.judgeAlert.maint.alertN = true ↔
      s.maint.alertN = true ∨ s.load.params.alert.count ≤ s.maint.raisings ∨
        ∃ c ∈ s.maint.alertFrom, s.load.params.alert.delay * 1000000 ≤ s.clk - c := by
  simp only [State.judgeAlert, Option.any_eq_true, Bool.or_eq_true, decide_eq_true_eq]
  rfl

/-- ALERT_N after a completion: asserted before it, or by the count or the delay in force (R170, R179). -/
theorem State.completeEffect_alertN (s : State) :
    s.completeEffect.maint.alertN = true ↔
      s.maint.alertN = true ∨ s.completeEffect.load.params.alert.count ≤ s.completeEffect.maint.raisings ∨
        ∃ c ∈ s.completeEffect.maint.alertFrom, s.completeEffect.load.params.alert.delay * 1000000 ≤ s.clk - c := by
  have signals := s.completeEffect_signals
  generalize before : s.takeParams.offsetAtLoad.raiseConfig.surveyAtLoad = u at signals
  have effect : s.completeEffect = u.serveAtLoad := by rw [← before]; rfl
  have clk : u.clk = s.clk := by simp [← before]
  have served : u.serveAtLoad.maint.alertN = true ↔ _ :=
    State.judgeAlert_iff { u with maint := { u.maint with nextRepetition := some u.clk } }
  rw [effect, served]
  simp only [State.serveAtLoad_frame, clk]
  have loads := signals.load
  have cause := signals.maint.alert_cause
  have stands := signals.maint.alert_stands
  simp only [← loads, State.takeParams_frame] at cause stands
  constructor
  · rintro (asserted | due)
    · exact (cause asserted).imp_right (fun reached => .inl reached.1)
    · exact .inr due
  · exact fun h => h.imp_left stands

/-- The alarms of a completion where the time is UNSET (R170). -/
theorem State.completeEffect_alarms (s : State) :
    s.completeEffect.maint.alarms = s.takeParams.offsetAtLoad.raiseConfig.maint.alarms := by
  simp [State.completeEffect]

theorem State.completeEffect_held (s : State) (k : AlarmKind) :
    s.completeEffect.holds k = s.takeParams.offsetAtLoad.raiseConfig.holds k := by
  simp [State.holds, State.completeEffect_alarms]

/-- The time, the schedule, the frames and the keying of a completion are those of its third step (R170). -/
theorem State.completeEffect_blocks (s : State) :
    s.completeEffect.time = s.takeParams.offsetAtLoad.time ∧ s.completeEffect.schedule = s.takeParams.offsetAtLoad.schedule ∧
      s.completeEffect.frames = s.takeParams.offsetAtLoad.frames ∧ s.completeEffect.key = s.takeParams.offsetAtLoad.key ∧
      s.completeEffect.maint.counters = s.takeParams.offsetAtLoad.maint.counters := by
  simp [State.completeEffect]

@[simp] theorem State.loadAtOffset (s : State) : s.takeParams.offsetAtLoad.load = s.load.complete := by simp

/-- The controller and the Line Reader of a completion are those of its fifth step (R170). -/
theorem State.completeEffect_ctl_line (s : State) :
    s.completeEffect.ctl = s.takeParams.offsetAtLoad.raiseConfig.surveyAtLoad.ctl ∧
      s.completeEffect.line = s.takeParams.offsetAtLoad.raiseConfig.surveyAtLoad.line := by
  simp [State.completeEffect]

theorem State.enterSurvey_ctl (s : State) :
    s.enterSurvey.ctl.standing = .survey .watching ∧ s.enterSurvey.ctl.pendingJoin = false ∧
      s.enterSurvey.ctl.silenceFrom = some s.tick ∧ s.enterSurvey.ctl.silence = false := by
  simp [State.enterSurvey, State.enterWatch]

theorem State.wakeDecoder_hunts (idle : s.line.decoder = .idle) (loaded : s.ctl.standing ≠ .loading)
    (up : s.timer.monitor = .up) (level : s.key.level.isSome = true) : s.wakeDecoder.line.decoder = .hunting := by
  rw [State.wakeDecoder, if_pos ⟨idle, loaded, up, level⟩]

end

end Sys2Proof.Machine

namespace Sys2Proof.Proofs
open Sys2Proof.Machine

/-- The standing and the decoder after a completion (R119, R170). -/
theorem completion_standing (s : State) :
    (s.ctl.standing = .loading →
      s.completeEffect.ctl.standing = .survey .watching ∧ s.completeEffect.ctl.pendingJoin = false ∧
        s.completeEffect.ctl.silenceFrom = some s.tick ∧ s.completeEffect.ctl.silence = false ∧
        (s.timer.monitor = .up → s.key.level.isSome = true → s.line.decoder = .idle →
          s.completeEffect.line.decoder = .hunting)) ∧
      (s.ctl.standing ≠ .loading → s.completeEffect.ctl = s.ctl ∧ s.completeEffect.line = s.line) := by
  obtain ⟨ctl, line⟩ := s.completeEffect_ctl_line
  rw [ctl, line]
  generalize reached : s.takeParams.offsetAtLoad.raiseConfig = u
  have sameCtl : u.ctl = s.ctl := by simp [← reached]
  have sameLine : u.line = s.line := by simp [← reached]
  have sameTick : u.tick = s.tick := by simp [← reached]
  have sameLevel : u.key.level = s.key.level := by simp [← reached]
  have sameMonitor : u.timer.monitor = s.timer.monitor := by simp [← reached]
  refine ⟨fun loading => ?_, fun other => ?_⟩
  · rw [State.surveyAtLoad_loading (by rw [sameCtl]; exact loading)]
    obtain ⟨standing, join, from', silence⟩ := u.enterSurvey_ctl
    simp only [State.wakeDecoder_frame]
    refine ⟨standing, join, by rw [from', sameTick], silence, fun up level idle => ?_⟩
    refine State.wakeDecoder_hunts (by simpa [sameLine] using idle) ?_ (by simpa [sameMonitor] using up)
      (by simpa [sameLevel] using level)
    rw [standing]; simp
  · rw [State.surveyAtLoad_other (by rw [sameCtl]; exact other)]
    exact ⟨sameCtl, sameLine⟩

/-- The parameter set, its source and what a failed load raises (R167, R170). -/
theorem completion_params (s : State) :
    (s.load.result = some .ok →
      s.completeEffect.load.params = s.load.staging.params ∧ s.completeEffect.load.source = some .image ∧
        s.completeEffect.load.clamp = s.load.clamp ∧ (s.load.clamp = true → s.completeEffect.holds .configClamped = true)) ∧
      (s.load.result ≠ some .ok →
        s.completeEffect.load.params = Params.defaults ∧ s.completeEffect.load.source = some .defaults ∧
          s.completeEffect.load.clamp = false ∧ s.completeEffect.holds .configDefaults = true) := by
  rw [State.completeEffect_load, State.completeEffect_held, State.completeEffect_held]
  refine ⟨fun ok => ?_, fun failed => ?_⟩
  · have image : s.takeParams.offsetAtLoad.load.source = some .image := by
      rw [State.loadAtOffset, Loader.complete_ok ok]
    rw [Loader.complete_ok ok]
    refine ⟨rfl, rfl, rfl, fun clamped => ?_⟩
    rw [State.raiseConfig_image image, State.loadAtOffset, Loader.complete_ok ok, if_pos clamped]
    exact State.raise_holds _ _
  · have defaults : s.takeParams.offsetAtLoad.load.source = some .defaults := by
      rw [State.loadAtOffset, Loader.complete_failed failed]
    rw [Loader.complete_failed failed]
    refine ⟨rfl, rfl, rfl, ?_⟩
    rw [State.raiseConfig_defaults defaults]
    exact State.raise_holds _ _

/-- A completion while the time is UNSET (R169, R170). -/
theorem completion_unset {s : State} (unset : s.time.n = none) :
    s.completeEffect.time = { s.time with offset := s.completeEffect.load.params.standardOffset } ∧
      s.completeEffect.schedule = s.schedule ∧ s.completeEffect.frames = s.frames ∧ s.completeEffect.key = s.key ∧
      s.completeEffect.maint.counters = s.maint.counters ∧
      (s.load.result = some .ok →
        s.completeEffect.maint.alarms = (if s.load.clamp then raiseIn .configClamped none s.maint.alarms else s.maint.alarms)) ∧
      (s.load.result ≠ some .ok → s.completeEffect.maint.alarms = raiseIn .configDefaults none s.maint.alarms) := by
  have offset := State.offsetAtLoad_unset (s := s.takeParams) (by simpa using unset)
  have alarms : s.takeParams.offsetAtLoad.maint.alarms = s.maint.alarms := by rw [offset]; simp
  have n : s.takeParams.offsetAtLoad.time.n = none := by simpa using unset
  obtain ⟨time, schedule, frames, key, counters⟩ := s.completeEffect_blocks
  rw [time, schedule, frames, key, counters, State.completeEffect_alarms]
  refine ⟨by rw [offset]; simp, by rw [offset]; simp, by rw [offset]; simp, by rw [offset]; simp, by rw [offset]; simp,
    fun ok => ?_, fun failed => ?_⟩
  · have image : s.takeParams.offsetAtLoad.load.source = some .image := by
      rw [State.loadAtOffset, Loader.complete_ok ok]
    rw [State.raiseConfig_image image, State.loadAtOffset, Loader.complete_ok ok]
    cases s.load.clamp
    · exact alarms
    · simp only [if_true, State.raise_alarms, alarms, n]
  · have defaults : s.takeParams.offsetAtLoad.load.source = some .defaults := by
      rw [State.loadAtOffset, Loader.complete_failed failed]
    rw [State.raiseConfig_defaults defaults, State.raise_alarms, alarms, n]

/-- Settles O10: the completion's steps one by one, and the ranges of what a walk writes. -/
theorem loadCompletionPutsTheSetInForce : Obligations.LoadCompletionPutsTheSetInForce := by
  refine ⟨?_, Params.defaults_inRange, fun image => walkImage_inRange⟩
  intro now s phase done
  have answered : exec (.loadCompletion now) s = .next (s.at now).completeEffect := by
    refine exec_due (c := .loadCompletion now) ?_
    obtain walking | ending := phase
    · simp [Instr.due, walking, done, LoadPhase.closing]
    · simp [Instr.due, ending, done, LoadPhase.closing]
  refine ⟨_, answered, ?_⟩
  have loads := (s.at now).completeEffect_load
  obtain ⟨complete, result, slot⟩ := s.load.complete_stands
  obtain ⟨ok, failed⟩ := completion_params (s.at now)
  obtain ⟨loading, other⟩ := completion_standing (s.at now)
  have params : (s.at now).takeParams.load.params = (s.at now).completeEffect.load.params := by simp
  refine ⟨by rw [loads]; exact complete, by rw [loads]; exact result, by rw [loads]; exact slot,
    fun good => ⟨(ok good).1, (ok good).2.1, (ok good).2.2.1⟩, failed, fun good => (ok good).2.2.2, ?_, by simp, ?_, by simp,
    loading, other, ?_, ?_, (s.at now).completeEffect_alertN, by simp, completion_unset (s := s.at now), fun n set => ?_⟩
  · rw [State.completeEffect_f, loads]; rfl
  · simp [State.completeEffect, State.takeParams_length]
  · simp [State.completeEffect, State.serveAtLoad, State.judgeAlert]
  · simp [State.acknowledges, State.loaded, State.portAddress, complete, slot]
  · obtain ⟨time, -, frames, -, -⟩ := (s.at now).completeEffect_blocks
    obtain ⟨offset, caught⟩ := State.offsetAtLoad_set (s := (s.at now).takeParams) (n := n) (by simpa using set)
    rw [time, frames, ← params, offset]
    exact ⟨by simp, caught⟩

end Sys2Proof.Proofs
end

section
/-! PROOFS. The selection of COUNTERS (O51). -/

namespace Sys2Proof.Machine

/-- Two bytes of a number, the higher first. -/
theorem beBytes_two (v : Nat) : beBytes 2 v = [BitVec.ofNat 8 (v / 256), BitVec.ofNat 8 v] := rfl

/-- Word `i` of a run of two-byte numbers. -/
theorem flatMap_beBytes_word {values : List Nat} (small : ∀ v ∈ values, v < 65536) (i : Nat) :
    byteAt (values.flatMap (beBytes 2)) (2 * i) * 256 + byteAt (values.flatMap (beBytes 2)) (2 * i + 1) =
      values.getD i 0 := by
  induction values generalizing i with
  | nil => simp [byteAt]
  | cons v rest ih =>
    obtain ⟨vSmall, restSmall⟩ := List.forall_mem_cons.mp small
    rw [List.flatMap_cons, beBytes_two]
    cases i with
    | zero =>
      have high : v / 256 < 256 := by omega
      simp [byteAt, Nat.mod_eq_of_lt high]
      omega
    | succ i => exact ih restSmall i

theorem Counters.item_length (c : Counters) : c.item.length = 32 := by
  simp [Counters.item, Counters.values]

theorem CountersSafe.values_small {c : Counters} (safe : CountersSafe c) : ∀ v ∈ c.values ++ [0], v < 65536 := by
  obtain ⟨h1, h2, h3, h4, h5, h6, h7, h8, h9, h10, h11, h12, h13, h14, h15⟩ := safe
  simp only [Counters.values, List.cons_append, List.nil_append, List.forall_mem_cons, List.not_mem_nil, false_implies,
    implies_true, and_true]
  omega

/-- Word `i` of the COUNTERS item. -/
theorem CountersSafe.item_word {c : Counters} (safe : CountersSafe c) (i : Nat) :
    byteAt c.item (2 * i) * 256 + byteAt c.item (2 * i + 1) = (c.values ++ [0]).getD i 0 :=
  flatMap_beBytes_word safe.values_small i

theorem Counters.zero_item : Counters.zero.item = List.replicate 32 0#8 := by decide

theorem exec_counters {now : Instant} {s : State} (loaded : s.load.phase = .done) :
    exec (.counters now) s = .next (s.at now).countersEffect :=
  exec_due (c := .counters now) (by simp [Instr.due, State.loaded, loaded])

end Sys2Proof.Machine

namespace Sys2Proof.Proofs
open Sys2Proof.Machine

/-- Settles O51: the words of the item are the counters, each below 65,536. -/
theorem countersAreReadAndCleared : Obligations.CountersAreReadAndCleared := by
  intro now later s loaded safe
  refine ⟨_, _, exec_counters loaded, exec_counters loaded, rfl, s.maint.counters.item_length, Counters.zero_item, ?_⟩
  exact ⟨safe.item_word 0, safe.item_word 1, safe.item_word 2, safe.item_word 3, safe.item_word 4, safe.item_word 5,
    safe.item_word 6, safe.item_word 7, safe.item_word 8, safe.item_word 9, safe.item_word 10, safe.item_word 11,
    safe.item_word 12, safe.item_word 13, safe.item_word 14, safe.item_word 15⟩

end Sys2Proof.Proofs
end

section
/-! PROOFS. An open second on KEY: its lookup, its outcome, and what the outcome tells (O30, O31, O32). -/

namespace Sys2Proof.Machine

section
variable {s : State} {pre post : List OpenSecond} {o : OpenSecond} {now : Instant}

/-! ## The open second of a drive instant -/

theorem OpensSecond.first (opened : OpensSecond pre o post s) : ∀ x ∈ pre, x.t0 ≠ o.t0 :=
  fun x mem => opened.alone x (List.mem_append_left _ mem)

theorem OpensSecond.last (opened : OpensSecond pre o post s) : ∀ x ∈ post, x.t0 ≠ o.t0 :=
  fun x mem => opened.alone x (List.mem_append_right _ mem)

/-- The only element of a list that a test picks is the one found. -/
theorem find?_only {α : Type} {p : α → Bool} {pre post : List α} {o : α} (other : ∀ x ∈ pre, p x = false) (this : p o = true) :
    (pre ++ o :: post).find? p = some o := by
  have none : pre.find? p = none := List.find?_eq_none.mpr (fun x mem => by simp [other x mem])
  simp [none, this]

theorem OpensSecond.openAt (opened : OpensSecond pre o post s) : s.key.openAt o.t0 = some o := by
  rw [Keying.openAt, opened.opens]
  exact find?_only (fun x mem => decide_eq_false (opened.first x mem)) (decide_eq_true rfl)

/-- A list in which one element alone is changed. -/
theorem map_only {α : Type} {p : α → Prop} [DecidablePred p] {f : α → α} {pre post : List α} {o : α} (before : ∀ x ∈ pre, ¬ p x)
    (after : ∀ x ∈ post, ¬ p x) (this : p o) :
    (pre ++ o :: post).map (fun x => if p x then f x else x) = pre ++ f o :: post := by
  have stays {l : List α} (other : ∀ x ∈ l, ¬ p x) : l.map (fun x => if p x then f x else x) = l :=
    (List.map_congr_left (fun x mem => if_neg (other x mem))).trans (List.map_id' l)
  simp [stays before, stays after, this]

theorem OpensSecond.update (opened : OpensSecond pre o post s) (f : OpenSecond → OpenSecond) :
    (s.key.updateOpen o.t0 f).opens = pre ++ f o :: post := by
  rw [Keying.updateOpen_opens, opened.opens]
  exact map_only opened.first opened.last rfl

theorem OpensSecond.closed (opened : OpensSecond pre o post s) :
    s.key.opens.filter (fun x => decide (x.t0 ≠ o.t0)) = pre ++ post := by
  have stays {l : List OpenSecond} (other : ∀ x ∈ l, x.t0 ≠ o.t0) : l.filter (fun x => decide (x.t0 ≠ o.t0)) = l :=
    List.filter_eq_self.mpr (fun x mem => decide_eq_true (other x mem))
  rw [opened.opens, List.filter_append, List.filter_cons_of_neg (by simp), stays opened.first, stays opened.last]

/-! ## The class of a reduction -/

/-- The class of a reduction in ticks (R2). -/
theorem classifyReduction_eq (d : Int) :
    classifyReduction d =
      if d < 600000 then .glitch else if d < 1800000 then .short else if d < 3600000 then .long
      else if d ≤ 7000000 then .mark else .overlong := rfl

/-- A reduction's class is a symbol's own by its length (R2). -/
theorem classify_isSymbol (d : Int) (y : Symbol) : (classifyReduction d).isSymbol y = true ↔ lengthIs y d := by
  rw [classifyReduction_eq]
  cases y
  all_goals
    repeat' split
    all_goals simp [ReductionClass.isSymbol, lengthIs]
    all_goals omega

/-- The line symbol of a reduction by its length (R108). -/
theorem classify_lineSymbol (d : Int) :
    (d < 600000 → (classifyReduction d).lineSymbol = .noSymbol) ∧
      (lengthIs .short d → (classifyReduction d).lineSymbol = .short) ∧
      (lengthIs .long d → (classifyReduction d).lineSymbol = .long) ∧
      (lengthIs .mark d → (classifyReduction d).lineSymbol = .mark) ∧
      (7000000 < d → (classifyReduction d).lineSymbol = .overlong) := by
  have is := classify_isSymbol d
  refine ⟨fun short => ?_, fun short => ?_, fun long => ?_, fun mark => ?_, fun beyond => ?_⟩
  · rw [classifyReduction, if_pos (by simpa [Config.glitchBelow] using short)]; rfl
  · have own := (is .short).mpr short
    revert own; cases classifyReduction d <;> simp [ReductionClass.isSymbol, ReductionClass.lineSymbol]
  · have own := (is .long).mpr long
    revert own; cases classifyReduction d <;> simp [ReductionClass.isSymbol, ReductionClass.lineSymbol]
  · have own := (is .mark).mpr mark
    revert own; cases classifyReduction d <;> simp [ReductionClass.isSymbol, ReductionClass.lineSymbol]
  · rw [classifyReduction_eq, if_neg (by omega), if_neg (by omega), if_neg (by omega), if_neg (by omega)]; rfl

/-! ## The decision -/

/-- The outcome noted in the open second and in the tallies (R111). -/
def State.noteOutcome (o : OpenSecond) (r : SecondOutcome) (s : State) : State :=
  { s with key :=
    { s.key.updateOpen o.t0 (fun o => { o with outcome := some r }) with tallies := s.key.tallies.add o.listen r } }

/-- The outcome noted, counted, raised and run on, before the verdict of its frame (R99 to R102, R111, R133). -/
def State.tellOutcome (o : OpenSecond) (r : SecondOutcome) (s : State) : State :=
  (((s.noteOutcome o r).countOutcome r).alarmOutcome r).runDriveFault o.action r

theorem State.decideKeyed_eq (o : OpenSecond) (r : SecondOutcome) (s : State) :
    s.decideKeyed o r = (s.tellOutcome o r).verdictAt o := rfl

/-- A decision point that is due, of a keyed second (R99). -/
theorem DecisionDue.exec {r : SecondOutcome} (due : DecisionDue now pre o post s)
    (outcome : decidedOutcome s.key (10 * (s.load.params.site.epochTol : Int)) o = some r) :
    exec (.decisionPoint now) s = .next ((s.at now).decideKeyed o r) := by
  have found : s.key.openAt (now.tick - Config.decisionAt) = some o := by
    have at0 : now.tick - Config.decisionAt = o.t0 := by simp only [Config.decisionAt]; have := due.tick; omega
    rw [at0, due.opened.openAt]
  have answered : Machine.exec (.decisionPoint now) s = .next (s.at now).decisionEffect :=
    exec_due (c := .decisionPoint now) (by simp [Instr.due, due.up, found, due.open_])
  rw [answered]
  have reached : (s.at now).key.openAt ((s.at now).tick - Config.decisionAt) = some o := found
  have same : decidedOutcome (s.at now).key (s.at now).epochTol o = some r := outcome
  simp only [State.decisionEffect, reached, same]

@[simp] theorem State.noteOutcome_frame (o : OpenSecond) (r : SecondOutcome) (s : State) :
    (s.noteOutcome o r).timer = s.timer ∧ (s.noteOutcome o r).ref = s.ref ∧ (s.noteOutcome o r).time = s.time ∧
      (s.noteOutcome o r).schedule = s.schedule ∧ (s.noteOutcome o r).frames = s.frames ∧ (s.noteOutcome o r).line = s.line ∧
      (s.noteOutcome o r).ctl = s.ctl ∧ (s.noteOutcome o r).load = s.load ∧ (s.noteOutcome o r).maint = s.maint ∧
      (s.noteOutcome o r).key.ring = s.key.ring ∧ (s.noteOutcome o r).key.drive = s.key.drive ∧
      (s.noteOutcome o r).key.level = s.key.level ∧ (s.noteOutcome o r).key.edges = s.key.edges ∧
      (s.noteOutcome o r).key.conflictStreak = s.key.conflictStreak ∧ (s.noteOutcome o r).key.timingStreak = s.key.timingStreak ∧
      (s.noteOutcome o r).key.faultRun = s.key.faultRun ∧ (s.noteOutcome o r).key.keyedMark = s.key.keyedMark ∧
      (s.noteOutcome o r).key.tallies = s.key.tallies.add o.listen r := by
  simp [State.noteOutcome, Keying.updateOpen]

/-- What the drive-fault run leaves alone besides its own frame. -/
@[simp] theorem State.runDriveFault_more (a : Action) (r : SecondOutcome) (s : State) :
    (s.runDriveFault a r).maint = s.maint ∧ (s.runDriveFault a r).load = s.load ∧
      (s.runDriveFault a r).key.tallies = s.key.tallies ∧ (s.runDriveFault a r).key.conflictStreak = s.key.conflictStreak ∧
      (s.runDriveFault a r).key.timingStreak = s.key.timingStreak ∧ (s.runDriveFault a r).key.keyedMark = s.key.keyedMark := by
  unfold State.runDriveFault State.runDriveFault.pulled
  repeat' split
  all_goals simp

/-- What an outcome leaves alone before the verdict. -/
@[simp] theorem State.tellOutcome_frame (o : OpenSecond) (r : SecondOutcome) (s : State) :
    (s.tellOutcome o r).timer = s.timer ∧ (s.tellOutcome o r).ref = s.ref ∧ (s.tellOutcome o r).time = s.time ∧
      (s.tellOutcome o r).schedule = s.schedule ∧ (s.tellOutcome o r).frames = s.frames ∧ (s.tellOutcome o r).line = s.line ∧
      (s.tellOutcome o r).load = s.load ∧ (s.tellOutcome o r).key.ring = s.key.ring ∧
      (s.tellOutcome o r).key.drive = s.key.drive ∧ (s.tellOutcome o r).key.conflictStreak = s.key.conflictStreak ∧
      (s.tellOutcome o r).key.timingStreak = s.key.timingStreak ∧ (s.tellOutcome o r).key.keyedMark = s.key.keyedMark ∧
      (s.tellOutcome o r).key.tallies = s.key.tallies.add o.listen r ∧
      (s.tellOutcome o r).ctl.standing = s.ctl.standing := by
  simp [State.tellOutcome]

theorem OpensSecond.tellOutcome (opened : OpensSecond pre o post s) (r : SecondOutcome) :
    (s.tellOutcome o r).key.opens = pre ++ { o with outcome := some r } :: post := by
  simp only [State.tellOutcome, State.runDriveFault_frame, State.alarmOutcome_frame, State.countOutcome_frame]
  exact opened.update _

/-- A second in which the keyer pulled without a drive fault ends the run (R100, R133). -/
theorem State.runDriveFault_clean {a : Action} (pulls : a = .driven ∨ a = .rescued) {r : SecondOutcome} (clean : r ≠ .driveFault)
    (s : State) : s.runDriveFault a r = { s with key := { s.key with faultRun := 0 } } := by
  obtain rfl | rfl := pulls
  · exact if_neg clean
  · exact if_neg clean

theorem State.runDriveFault_fault {a : Action} (pulls : a = .driven ∨ a = .rescued) (s : State) :
    s.runDriveFault a .driveFault =
      { s with
        key := { s.key with faultRun := s.key.faultRun + 1 }
        ctl := { s.ctl with faultReport := s.ctl.faultReport || decide (2 ≤ s.key.faultRun + 1) } } := by
  obtain rfl | rfl := pulls
  · rfl
  · rfl

/-- No verdict is given at a second that does not end its frame (R112). -/
theorem State.verdictAt_within (within : ∀ f, ¬ EndsFrame f o s) : s.verdictAt o = s := by
  unfold State.verdictAt
  split
  next f current =>
    refine if_neg (fun ends => within f ?_)
    obtain ⟨active, start, index⟩ := ends
    exact ⟨active, current, start, index⟩
  next => rfl

theorem State.verdictAt_ends {f : Frame} (ends : EndsFrame f o s) : s.verdictAt o = s.giveVerdict f.n0 := by
  unfold State.verdictAt
  rw [ends.current]
  exact if_pos ⟨ends.active, ends.start, ends.index⟩

theorem EndsFrame.tellOutcome_iff {f : Frame} {r : SecondOutcome} : EndsFrame f o (s.tellOutcome o r) ↔ EndsFrame f o s := by
  constructor
  · rintro ⟨active, current, start, index⟩
    exact ⟨by simpa using active, by simpa using current, start, index⟩
  · rintro ⟨active, current, start, index⟩
    exact ⟨by simpa using active, by simpa using current, start, index⟩

/-- A second decided within its frame. -/
theorem DecisionDue.exec_within {r : SecondOutcome} (due : DecisionDue now pre o post s)
    (outcome : decidedOutcome s.key (10 * (s.load.params.site.epochTol : Int)) o = some r) (within : ∀ f, ¬ EndsFrame f o s) :
    Machine.exec (.decisionPoint now) s = .next ((s.at now).tellOutcome o r) := by
  have inside : ∀ f, ¬ EndsFrame f o ((s.at now).tellOutcome o r) := by
    intro f ends
    obtain ⟨active, current, start, index⟩ := EndsFrame.tellOutcome_iff.mp ends
    exact within f ⟨active, current, start, index⟩
  rw [due.exec outcome, State.decideKeyed_eq, State.verdictAt_within inside]

end

end Sys2Proof.Machine
end

section
/-! PROOFS. The outcomes of a driven and of a listen second (O30, O31). -/

namespace Sys2Proof.Machine

section
variable {k : Keying} {tol : Int} {o : OpenSecond} {y : Symbol} {fall rise : Int}

/-! ## The tests of a driven second, in order -/

theorem drivenOutcome_stuck (low : k.level = some .low) : drivenOutcome k tol o y = .stuck := if_pos low

theorem drivenOutcome_fault (line : k.level ≠ some .low) (high : o.readback = some .high) :
    drivenOutcome k tol o y = .driveFault := by
  rw [drivenOutcome, if_neg line, if_pos high]

theorem drivenOutcome_noFall (line : k.level ≠ some .low) (pulled : o.readback ≠ some .high) (no : k.drivenFall o.t0 = none) :
    drivenOutcome k tol o y = .excessSymbol := by
  simp only [drivenOutcome, if_neg line, if_neg pulled, no]

theorem drivenOutcome_noRise (line : k.level ≠ some .low) (pulled : o.readback ≠ some .high)
    (fell : k.drivenFall o.t0 = some fall) (no : k.riseAfter fall = none) : drivenOutcome k tol o y = .excessSymbol := by
  simp only [drivenOutcome, if_neg line, if_neg pulled, fell, no]

/-- The tests on a measured reduction. -/
theorem drivenOutcome_measured (line : k.level ≠ some .low) (pulled : o.readback ≠ some .high)
    (fell : k.drivenFall o.t0 = some fall) (rose : k.riseAfter fall = some rise) :
    (¬ lengthIs y (rise - fall) → drivenOutcome k tol o y = .excessSymbol) ∧
      (lengthIs y (rise - fall) → fall < o.t0 - tol → drivenOutcome k tol o y = .early) ∧
      (lengthIs y (rise - fall) → o.t0 - tol ≤ fall → o.t0 + y.ticks + tol < rise → drivenOutcome k tol o y = .lateLong) ∧
      (lengthIs y (rise - fall) → o.t0 - tol ≤ fall → rise ≤ o.t0 + y.ticks + tol → drivenOutcome k tol o y = .clean) := by
  have tests : drivenOutcome k tol o y =
      if (classifyReduction (rise - fall)).isSymbol y = false then .excessSymbol else if fall < o.t0 - tol then .early
      else if o.t0 + y.ticks + tol < rise then .lateLong else .clean := by
    simp only [drivenOutcome, if_neg line, if_neg pulled, fell, rose, Bool.not_eq_true']
  simp only [← classify_isSymbol]
  refine ⟨fun other => ?_, fun own early => ?_, fun own late long => ?_, fun own late short => ?_⟩
  · rw [tests, if_pos (Bool.not_eq_true _ ▸ other)]
  · rw [tests, if_neg (by simp [own]), if_pos early]
  · rw [tests, if_neg (by simp [own]), if_neg (Int.not_lt.mpr late), if_pos long]
  · rw [tests, if_neg (by simp [own]), if_neg (Int.not_lt.mpr late), if_neg (Int.not_lt.mpr short)]

/-! ## The tests of a listen second -/

theorem withheldOutcome_stuck (low : k.level = some .low) : withheldOutcome k tol o y = .stuck := if_pos low

theorem withheldOutcome_absent (line : k.level ≠ some .low) (no : o.taken = none) : withheldOutcome k tol o y = .peerAbsent := by
  simp only [withheldOutcome, if_neg line, no]

theorem natAbs_le_iff (d tol : Int) : tol < (d.natAbs : Int) ↔ d < -tol ∨ tol < d := by omega

theorem withheldOutcome_offset (line : k.level ≠ some .low) (took : o.taken = some fall)
    (outside : fall < o.t0 - tol ∨ o.t0 + tol < fall) : withheldOutcome k tol o y = .peerOffset := by
  have beyond : tol < ((fall - o.t0).natAbs : Int) := by rw [natAbs_le_iff]; omega
  simp only [withheldOutcome, if_neg line, took, if_pos beyond]

theorem withheldOutcome_within (line : k.level ≠ some .low) (took : o.taken = some fall) (least : o.t0 - tol ≤ fall)
    (most : fall ≤ o.t0 + tol) :
    (∀ rise, k.riseAfter fall = some rise → lengthIs y (rise - fall) → withheldOutcome k tol o y = .peerMatch) ∧
      (∀ rise, k.riseAfter fall = some rise → ¬ lengthIs y (rise - fall) → withheldOutcome k tol o y = .peerMismatch) ∧
      (k.riseAfter fall = none → withheldOutcome k tol o y = .peerMismatch) := by
  have within : ¬ tol < ((fall - o.t0).natAbs : Int) := by rw [natAbs_le_iff]; omega
  simp only [withheldOutcome, if_neg line, took, if_neg within, Keying.classFrom, ← classify_isSymbol]
  refine ⟨fun rise rose own => ?_, fun rise rose other => ?_, fun no => ?_⟩
  · simp [rose, own]
  · simp [rose, other]
  · simp [no]

theorem rescuedOutcome_stuck (low : k.level = some .low) : rescuedOutcome k o = .stuck := if_pos low

theorem rescuedOutcome_fault (line : k.level ≠ some .low) (high : o.readback = some .high) : rescuedOutcome k o = .driveFault := by
  rw [rescuedOutcome, if_neg line, if_pos high]

theorem rescuedOutcome_absent (line : k.level ≠ some .low) (pulled : o.readback ≠ some .high) :
    rescuedOutcome k o = .peerAbsent := by
  rw [rescuedOutcome, if_neg line, if_neg pulled]

end

section
variable {s : State} {o : OpenSecond} {r : SecondOutcome}

/-! ## What an outcome tells -/

/-- The counter of an outcome (R102). -/
def SecondOutcome.counted (r : SecondOutcome) (c : Counters) : Counters :=
  match r with
  | .early => c.addEarly
  | .lateLong => c.addLong
  | .excessSymbol => c.addExcess
  | .peerMismatch => c.addListenMismatch
  | .peerOffset => c.addListenMismatch
  | _ => c

/-- The alarm set after an outcome (R100, R101). -/
def SecondOutcome.raised (r : SecondOutcome) (n : Option Int) (alarms : List AlarmEntry) : List AlarmEntry :=
  match r with
  | .stuck => raiseIn .lineStuck n alarms
  | .driveFault => raiseIn .driveFault n alarms
  | _ => alarms

theorem State.tellOutcome_counters (o : OpenSecond) (r : SecondOutcome) (s : State) :
    (s.tellOutcome o r).maint.counters = r.counted s.maint.counters := by
  simp only [State.tellOutcome, State.runDriveFault_more, State.alarmOutcome_frame]
  cases r <;> rfl

theorem State.tellOutcome_alarms (o : OpenSecond) (r : SecondOutcome) (s : State) :
    (s.tellOutcome o r).maint.alarms = r.raised s.time.n s.maint.alarms := by
  simp only [State.tellOutcome, State.runDriveFault_more]
  cases r <;> rfl

theorem State.tellOutcome_clean (pulls : o.action = .driven ∨ o.action = .rescued) (clean : r ≠ .driveFault) :
    (s.tellOutcome o r).key.faultRun = 0 ∧ (s.tellOutcome o r).ctl = s.ctl := by
  rw [State.tellOutcome, State.runDriveFault_clean pulls clean]
  simp

theorem State.tellOutcome_fault (pulls : o.action = .driven ∨ o.action = .rescued) :
    (s.tellOutcome o .driveFault).key.faultRun = s.key.faultRun + 1 ∧
      (s.tellOutcome o .driveFault).ctl =
        { s.ctl with faultReport := s.ctl.faultReport || decide (2 ≤ s.key.faultRun + 1) } := by
  rw [State.tellOutcome, State.runDriveFault_fault pulls]
  simp

theorem State.tellOutcome_withheld (withheld : o.action = .withheld) :
    (s.tellOutcome o r).key.faultRun = s.key.faultRun ∧ (s.tellOutcome o r).ctl = s.ctl := by
  rw [State.tellOutcome, withheld]
  simp [State.runDriveFault]

end

/-- What a decision leaves: the outcome in its open second, the tallies and the counters. -/
structure Decided (pre post : List OpenSecond) (o : OpenSecond) (r : SecondOutcome) (s t : State) : Prop where
  opens : t.key.opens = pre ++ { o with outcome := some r } :: post
  tallies : t.key.tallies = s.key.tallies.add o.listen r
  counters : t.maint.counters = r.counted s.maint.counters
  alarms : t.maint.alarms = r.raised s.time.n s.maint.alarms

theorem OpensSecond.decided {s : State} {pre post : List OpenSecond} {o : OpenSecond} (opened : OpensSecond pre o post s)
    (r : SecondOutcome) : Decided pre post o r s (s.tellOutcome o r) :=
  ⟨opened.tellOutcome r, (State.tellOutcome_frame o r s).2.2.2.2.2.2.2.2.2.2.2.2.1, State.tellOutcome_counters o r s,
    State.tellOutcome_alarms o r s⟩

end Sys2Proof.Machine

namespace Sys2Proof.Proofs
open Sys2Proof.Machine

/-- Settles O30: the first test that fails gives the outcome, and what it tells is read off its definition. -/
theorem drivenSecondsAreJudgedInOrder : Obligations.DrivenSecondsAreJudgedInOrder := by
  intro now s pre post o y d due driven notListen intended short long mark within
  have length : y.ticks = d := by
    cases y
    · exact (short rfl).symm
    · exact (long rfl).symm
    · exact (mark rfl).symm
  have outcome : decidedOutcome s.key (10 * (s.load.params.site.epochTol : Int)) o =
      some (drivenOutcome s.key (10 * (s.load.params.site.epochTol : Int)) o y) := by
    simp only [decidedOutcome, driven, intended]
  refine ⟨_, due.exec_within outcome within, ?_⟩
  intro tol plus c y0 decided quiet
  have decides (r : SecondOutcome) (is : drivenOutcome s.key (10 * (s.load.params.site.epochTol : Int)) o y = r) :
      Decided pre post o r s ((s.at now).tellOutcome o (drivenOutcome s.key tol o y)) := by
    have told := OpensSecond.decided (s := s.at now) ⟨due.opened.opens, due.opened.alone⟩ r
    rw [is]
    exact ⟨told.opens, told.tallies, told.counters, told.alarms⟩
  have tally {r : SecondOutcome} (is : drivenOutcome s.key (10 * (s.load.params.site.epochTol : Int)) o y = r) :
      ((s.at now).tellOutcome o (drivenOutcome s.key tol o y)).key.tallies = y0.add false r := by
    rw [(decides r is).tallies, notListen]
  have isQuiet {r : SecondOutcome} (is : drivenOutcome s.key (10 * (s.load.params.site.epochTol : Int)) o y = r)
      (noFault : r ≠ .driveFault) (noRaising : r.raised s.time.n s.maint.alarms = s.maint.alarms) : quiet := by
    obtain ⟨run, ctl⟩ := State.tellOutcome_clean (s := s.at now) (.inl driven) noFault
    exact ⟨(decides r is).alarms.trans noRaising, by rw [is]; exact run, by rw [is]; exact ctl⟩
  have excess (is : drivenOutcome s.key (10 * (s.load.params.site.epochTol : Int)) o y = .excessSymbol) :
      decided .excessSymbol { y0 with excess := y0.excess + 1 } { c with excessSeconds := plus c.excessSeconds } ∧ quiet :=
    ⟨⟨(decides _ is).opens, tally is, (decides _ is).counters⟩, isQuiet is (by decide) rfl⟩
  refine ⟨fun low => ?_, fun line high => ?_, fun line pulled => ⟨fun noFall => ?_, fun fall fell => ⟨fun noRise => ?_, ?_⟩⟩, ?_⟩
  · have is := drivenOutcome_stuck (tol := tol) (o := o) (y := y) low
    obtain ⟨run, ctl⟩ := State.tellOutcome_clean (s := s.at now) (r := .stuck) (.inl driven) (by decide)
    exact ⟨⟨(decides _ is).opens, tally is, (decides _ is).counters⟩, (decides _ is).alarms, by rw [is]; exact run,
      by rw [is]; exact ctl⟩
  · have is := drivenOutcome_fault (tol := tol) (y := y) line high
    obtain ⟨run, ctl⟩ := State.tellOutcome_fault (s := s.at now) (.inl driven)
    exact ⟨⟨(decides _ is).opens, tally is, (decides _ is).counters⟩, (decides _ is).alarms, by rw [is]; exact run,
      by rw [is]; exact ctl⟩
  · exact excess (drivenOutcome_noFall line pulled noFall)
  · exact excess (drivenOutcome_noRise line pulled fell noRise)
  · intro rise rose
    obtain ⟨other, early, late, clean⟩ := drivenOutcome_measured (tol := tol) (y := y) line pulled fell rose
    rw [length] at late clean
    refine ⟨fun h => excess (other h), fun h h' => ?_, fun h h' h'' => ?_, fun h h' h'' => ?_⟩
    · exact ⟨⟨(decides _ (early h h')).opens, tally (early h h'), (decides _ (early h h')).counters⟩,
        isQuiet (early h h') (by decide) rfl⟩
    · exact ⟨⟨(decides _ (late h h' h'')).opens, tally (late h h' h''), (decides _ (late h h' h'')).counters⟩,
        isQuiet (late h h' h'') (by decide) rfl⟩
    · exact ⟨⟨(decides _ (clean h h' h'')).opens, tally (clean h h' h''), (decides _ (clean h h' h'')).counters⟩,
        isQuiet (clean h h' h'') (by decide) rfl⟩
  · simp

/-- Settles O31: a withheld second by the taken fall, a rescued one by its readback. -/
theorem listenSecondsAreJudgedByThePeer : Obligations.ListenSecondsAreJudgedByThePeer := by
  intro now s pre post o y due keyed listens intended within
  have outcome : ∃ r, decidedOutcome s.key (10 * (s.load.params.site.epochTol : Int)) o = some r ∧
      (o.action = .withheld → r = withheldOutcome s.key (10 * (s.load.params.site.epochTol : Int)) o y) ∧
      (o.action = .rescued → r = rescuedOutcome s.key o) := by
    obtain withheld | rescued := keyed
    · exact ⟨_, by simp only [decidedOutcome, withheld, intended], fun _ => rfl, fun other => absurd (withheld.symm.trans other) (by decide)⟩
    · exact ⟨_, by simp only [decidedOutcome, rescued, intended], fun other => absurd (rescued.symm.trans other) (by decide), fun _ => rfl⟩
  obtain ⟨r, outcome, ifWithheld, ifRescued⟩ := outcome
  refine ⟨_, due.exec_within outcome within, ?_⟩
  intro tol c missed decided
  have told := OpensSecond.decided (s := s.at now) ⟨due.opened.opens, due.opened.alone⟩ r
  have tally : ((s.at now).tellOutcome o r).key.tallies = s.key.tallies.add true r := by rw [told.tallies, listens]; rfl
  refine ⟨fun withheld => State.tellOutcome_withheld (s := s.at now) withheld, fun low => ?_, fun line withheld => ?_,
    fun line rescued => ?_⟩
  · have is : r = .stuck := by
      obtain withheld | rescued := keyed
      · exact (ifWithheld withheld).trans (withheldOutcome_stuck low)
      · exact (ifRescued rescued).trans (rescuedOutcome_stuck low)
    subst is
    exact ⟨told.opens, tally, told.counters, told.alarms⟩
  · have is := ifWithheld withheld
    refine ⟨fun no => ?_, fun fall took => ⟨fun outside => ?_, fun least most => ?_⟩⟩
    · rw [withheldOutcome_absent line no] at is
      subst is
      exact ⟨told.opens, tally, told.counters, told.alarms⟩
    · rw [withheldOutcome_offset line took outside] at is
      subst is
      exact ⟨told.opens, tally, told.counters, told.alarms⟩
    · obtain ⟨same, other, no⟩ := withheldOutcome_within (y := y) line took least most
      refine ⟨fun rise rose own => ?_, fun rise rose differs => ?_, fun noRise => ?_⟩
      · rw [same rise rose own] at is
        subst is
        exact ⟨told.opens, tally, told.counters, told.alarms⟩
      · rw [other rise rose differs] at is
        subst is
        exact ⟨told.opens, tally, told.counters, told.alarms⟩
      · rw [no noRise] at is
        subst is
        exact ⟨told.opens, tally, told.counters, told.alarms⟩
  · have is := ifRescued rescued
    refine ⟨fun high => ?_, fun pulled => ?_⟩
    · rw [rescuedOutcome_fault line high] at is
      subst is
      obtain ⟨run, -⟩ := State.tellOutcome_fault (s := s.at now) (o := o) (.inr rescued)
      exact ⟨⟨told.opens, tally, told.counters, told.alarms⟩, run⟩
    · rw [rescuedOutcome_absent line pulled] at is
      subst is
      obtain ⟨run, -⟩ := State.tellOutcome_clean (s := s.at now) (o := o) (r := .peerAbsent) (.inr rescued) (by decide)
      exact ⟨⟨told.opens, tally, told.counters, told.alarms⟩, run⟩

end Sys2Proof.Proofs
end

section
/-! PROOFS. The verdict of a frame and the record of a second (O32, O33). -/

namespace Sys2Proof.Machine

section
variable {s : State}

/-! ## The verdict -/

theorem Tallies.verdict_conflict {t : Tallies} (bad : 0 < t.mismatch ∨ 0 < t.offset ∨ 2 ≤ t.excess) : t.verdict = .conflict :=
  if_pos bad

theorem Tallies.verdict_disturbed {t : Tallies} (mismatch : t.mismatch = 0) (offset : t.offset = 0) (excess : t.excess ≤ 1)
    (some_ : 0 < t.early ∨ 0 < t.lateLong ∨ t.excess = 1) : t.verdict = .disturbed := by
  rw [Tallies.verdict, if_neg (by omega), if_pos some_]

theorem Tallies.verdict_quiet {t : Tallies} (mismatch : t.mismatch = 0) (offset : t.offset = 0) (excess : t.excess = 0)
    (early : t.early = 0) (late : t.lateLong = 0) : t.verdict = .quiet := by
  rw [Tallies.verdict, if_neg (by omega), if_neg (by omega)]

/-- What a verdict gives: the streaks, the last verdict and the yield due (R112 to R114, R130). -/
theorem State.giveVerdict_scores (n0 : Int) (s : State) :
    (s.giveVerdict n0).key =
        { s.key with
          conflictStreak := s.key.conflictRun, timingStreak := if s.key.disturbedRun = 3 then 0 else s.key.disturbedRun
          lastVerdict := some { verdict := s.key.tallies.verdict, n0 := n0 } } ∧
      (s.giveVerdict n0).ctl = { s.ctl with yieldDue := s.yieldAfter } ∧
      (s.giveVerdict n0).time = s.time ∧ (s.giveVerdict n0).schedule = s.schedule ∧ (s.giveVerdict n0).frames = s.frames ∧
      (s.giveVerdict n0).ref = s.ref ∧ (s.giveVerdict n0).timer = s.timer ∧ (s.giveVerdict n0).line = s.line ∧
      (s.giveVerdict n0).maint.counters =
        (if s.key.keyedMark then s.maint.counters.addFrameKeyed else s.maint.counters) := by
  have keyed : (s.scoreVerdict n0).countKeyed =
      { s.scoreVerdict n0 with maint := { s.maint with
          counters := if s.key.keyedMark then s.maint.counters.addFrameKeyed else s.maint.counters } } := by
    unfold State.countKeyed
    split
    next held => rw [if_pos (by exact held)]; rfl
    next other => rw [if_neg (by exact other)]; rfl
  rw [State.giveVerdict_eq, keyed]
  by_cases third : s.key.disturbedRun = 3
  · rw [if_pos third]
    exact ⟨rfl, rfl, rfl, rfl, rfl, rfl, rfl, rfl, rfl⟩
  · rw [if_neg third]
    exact ⟨rfl, rfl, rfl, rfl, rfl, rfl, rfl, rfl, rfl⟩

/-- PEER_TIMING at the third DISTURBED frame in a row, and its lamp (R114, R182). -/
theorem State.giveVerdict_third (n0 : Int) (third : s.key.disturbedRun = 3) :
    (s.giveVerdict n0).holds .peerTiming = true ∧ (s.giveVerdict n0).maint.peerStretch = 8 := by
  rw [State.giveVerdict_eq, if_pos third]
  exact ⟨State.raise_holds .peerTiming _, rfl⟩

theorem State.giveVerdict_before (n0 : Int) (other : s.key.disturbedRun ≠ 3) :
    (s.giveVerdict n0).maint.peerStretch = s.maint.peerStretch := by
  rw [State.giveVerdict_eq, if_neg other]
  unfold State.countKeyed
  split <;> rfl

/-- The streak from which a yield is due (R130). -/
def State.yieldThreshold (s : State) (listen : Option SecondOutcome) : Nat :=
  if listen = some .peerAbsent then s.load.params.site.conflictLimit + 6
  else if s.cls = .a then s.load.params.site.conflictLimit + 2 * (3 - s.load.slot)
  else if s.cls = .b then s.load.params.site.conflictLimit else 1

theorem yieldIsDue_iff (limit threshold streak : Nat) (listen : Option SecondOutcome) :
    yieldIsDue limit threshold streak listen = true ↔ (if listen = some .peerAbsent then limit + 6 else threshold) ≤ streak := by
  unfold yieldIsDue
  split <;> exact decide_eq_true_iff

theorem State.yieldAfter_eq (s : State) :
    s.yieldAfter =
      if s.yieldThreshold s.key.tallies.listen ≤ s.key.conflictRun then some (if s.cls = .a then .deferred else .survey)
      else none := by
  unfold State.yieldAfter State.yieldThreshold
  simp only [yieldIsDue_iff]
  cases s.cls <;> rfl

/-- A keyed second that ends its frame, at its decision point. -/
theorem DecisionDue.exec_ends {pre post : List OpenSecond} {o : OpenSecond} {now : Instant} {r : SecondOutcome} {f : Frame}
    (due : DecisionDue now pre o post s)
    (outcome : decidedOutcome s.key (10 * (s.load.params.site.epochTol : Int)) o = some r) (ends : EndsFrame f o s) :
    Machine.exec (.decisionPoint now) s = .next (((s.at now).tellOutcome o r).giveVerdict f.n0) := by
  have here : EndsFrame f o (s.at now) := ⟨ends.active, ends.current, ends.start, ends.index⟩
  rw [due.exec outcome, State.decideKeyed_eq, State.verdictAt_ends (EndsFrame.tellOutcome_iff.mpr here)]

theorem SecondOutcome.counted_framesKeyed (r : SecondOutcome) (c : Counters) : (r.counted c).framesKeyed = c.framesKeyed := by
  cases r <;> rfl

theorem State.tellOutcome_peerStretch (o : OpenSecond) (r : SecondOutcome) (s : State) :
    (s.tellOutcome o r).maint.peerStretch = s.maint.peerStretch := by
  simp [State.tellOutcome]

theorem State.tellOutcome_cls (o : OpenSecond) (r : SecondOutcome) (s : State) : (s.tellOutcome o r).cls = s.cls := by
  simp [State.cls]

end

end Sys2Proof.Machine

namespace Sys2Proof.Proofs
open Sys2Proof.Machine

/-- Settles O32: the outcome told, then the verdict of the tallies it completes. -/
theorem frameVerdictAndYieldDue : Obligations.FrameVerdictAndYieldDue := by
  intro now s pre post o f r due ends outcome
  refine ⟨_, due.exec_ends outcome ends, ?_⟩
  generalize told : (s.at now).tellOutcome o r = u
  have tallies : u.key.tallies = s.key.tallies.add o.listen r := by simp [← told]
  have conflictStreak : u.key.conflictStreak = s.key.conflictStreak := by simp [← told]
  have timingStreak : u.key.timingStreak = s.key.timingStreak := by simp [← told]
  have keyedMark : u.key.keyedMark = s.key.keyedMark := by simp [← told]
  have stretch : u.maint.peerStretch = s.maint.peerStretch := by rw [← told, State.tellOutcome_peerStretch]; rfl
  have framesKeyed : u.maint.counters.framesKeyed = s.maint.counters.framesKeyed := by
    rw [← told, State.tellOutcome_counters, SecondOutcome.counted_framesKeyed]; rfl
  have cls : u.cls = s.cls := by rw [← told, State.tellOutcome_cls]; rfl
  have load : u.load = s.load := by simp [← told]
  have standing : u.ctl.standing = .active := by simpa [← told] using ends.active
  obtain ⟨key, ctl, time, schedule, frames, ref, timer, line, counters⟩ := u.giveVerdict_scores f.n0
  have due := u.yieldAfter_eq
  simp only [State.yieldThreshold, load, cls] at due
  dsimp only
  rw [key, ctl, time, schedule, frames, ref, timer, line, counters]
  dsimp only
  refine ⟨tallies, fun bad => ?_, fun mismatch offset excess disturbed => ?_, fun mismatch offset excess early late => ?_, ?_,
    fun reached => ?_, fun below => ?_, standing, by simp [← told], by simp [← told], by simp [← told], by simp [← told],
    by simp [← told], by simp [← told]⟩
  · have verdict := Tallies.verdict_conflict bad
    simp [verdict, Keying.conflictRun, Keying.disturbedRun, conflictStreak]
  · have verdict := Tallies.verdict_disturbed mismatch offset excess disturbed
    have run : u.key.disturbedRun = s.key.timingStreak + 1 := by simp [Keying.disturbedRun, verdict, timingStreak]
    refine ⟨by rw [verdict], by simp [Keying.conflictRun, verdict], fun second => ?_, fun other => ?_⟩
    · have third : u.key.disturbedRun = 3 := by omega
      obtain ⟨held, lamp⟩ := State.giveVerdict_third f.n0 third
      exact ⟨if_pos third, held, lamp⟩
    · have notThird : u.key.disturbedRun ≠ 3 := by omega
      exact ⟨(if_neg notThird).trans run, (State.giveVerdict_before f.n0 notThird).trans stretch⟩
  · have verdict := Tallies.verdict_quiet mismatch offset excess early late
    simp [verdict, Keying.conflictRun, Keying.disturbedRun]
  · rw [keyedMark]
    cases s.key.keyedMark
    · simpa using framesKeyed
    · simp [Counters.addFrameKeyed, bumpWrap, framesKeyed]
  · rw [due, if_pos reached]
  · rw [due, if_neg (Nat.not_le.mpr below)]

end Sys2Proof.Proofs
end

section
/-! PROOFS. The record of a second (O33). -/

namespace Sys2Proof.Machine

section
variable {s : State} {o : OpenSecond}

/-- The fall that is a second's own, by what the keyer did in it (R108, R109). -/
def State.ownFall (o : OpenSecond) (s : State) : Option Int :=
  match o.action with
  | .driven => s.key.drivenFall o.t0
  | .withheld => o.taken
  | .rescued => s.rescueFall o.t0
  | .notKeying => s.observedFall o.t0

/-- The fields of a second's reduction, with or without a fall of its own (R108). -/
def State.reductionFields (o : OpenSecond) (s : State) : Option Int × Option Int × LineSymbol :=
  (s.ownFall o).elim (noFallFields s.key o.t0) (fallFields s.key o.t0)

theorem State.recordFields_suspended (suspended : o.suspended = true) :
    s.recordFields o = (.silent, none, none, .noSymbol) := if_pos suspended

/-- A second the keyer keyed has its outcome and its reduction. -/
theorem State.recordFields_keyed (open_ : o.suspended = false) (keyed : o.action ≠ .notKeying) :
    s.recordFields o = (o.outcome.getD .silent, s.reductionFields o) := by
  rw [State.recordFields, if_neg (by simp [open_])]
  cases action : o.action with
  | notKeying => exact absurd action keyed
  | driven => simp only [State.reductionFields, State.ownFall, action]; cases s.key.drivenFall o.t0 <;> rfl
  | withheld => simp only [State.reductionFields, State.ownFall, action]; cases o.taken <;> rfl
  | rescued => simp only [State.reductionFields, State.ownFall, action]; cases s.rescueFall o.t0 <;> rfl

/-- A second the keyer did not key is observed by its first reduction, or silent (R109). -/
theorem State.recordFields_notKeying (open_ : o.suspended = false) (silent : o.action = .notKeying) :
    (∀ fall, s.observedFall o.t0 = some fall → s.recordFields o = (.observed, fallFields s.key o.t0 fall)) ∧
      (s.observedFall o.t0 = none → s.recordFields o = (.silent, none, none, .noSymbol)) := by
  rw [State.recordFields, if_neg (by simp [open_])]
  refine ⟨fun fall observed => ?_, fun no => ?_⟩
  · simp only [silent, observed]
  · simp only [silent, no]

theorem fallFields_risen {k : Keying} {t0 fall rise : Int} (rose : k.riseAfter fall = some rise) :
    fallFields k t0 fall =
      (some ((fall - t0).tdiv 10), some ((rise - t0).tdiv 10), (classifyReduction (rise - fall)).lineSymbol) := by
  simp only [fallFields, rose, microseconds]

theorem fallFields_low {k : Keying} {t0 fall : Int} (no : k.riseAfter fall = none) :
    fallFields k t0 fall = (some ((fall - t0).tdiv 10), none, .overlong) := by
  simp only [fallFields, no, microseconds]

theorem noFallFields_quiet {k : Keying} {t0 : Int} (high : k.lowBefore (t0 - 5000000) = false) :
    noFallFields k t0 = (none, none, .noSymbol) := by
  simp only [noFallFields, Config.halfWindow, high, Bool.false_eq_true, if_false]

theorem noFallFields_still {k : Keying} {t0 : Int} (low : k.lowBefore (t0 - 5000000) = true)
    (no : k.riseAfter (t0 - 5000000 - 1) = none) : noFallFields k t0 = (none, none, .overlong) := by
  simp only [noFallFields, Config.halfWindow, low, if_true, no]

theorem noFallFields_risen {k : Keying} {t0 rise : Int} (low : k.lowBefore (t0 - 5000000) = true)
    (rose : k.riseAfter (t0 - 5000000 - 1) = some rise) :
    noFallFields k t0 =
      (none, some ((rise - t0).tdiv 10), (classifyReduction (rise - (t0 - 5000000))).lineSymbol) := by
  simp only [noFallFields, Config.halfWindow, low, if_true, rose, microseconds]

theorem appendRecord_eq {ring : List ObsRecord} (most : ring.length ≤ 64) (r : ObsRecord) :
    appendRecord r ring = (if ring.length = 64 then ring.drop 1 else ring) ++ [r] := by
  unfold appendRecord
  by_cases full : ring.length = 64
  · rw [if_neg (by simp [Config.ringSize, full]), if_pos full]
    simp [full, Config.ringSize]
  · rw [if_pos (by simp only [Config.ringSize]; omega), if_neg full]

/-- A record close that is due (R107). -/
theorem OpensSecond.exec_recordClose {pre post : List OpenSecond} {now : Instant} (opened : OpensSecond pre o post s)
    (up : s.timer.monitor = .up) (due : o.t0 + 12000000 = now.tick) (decided : o.action = .notKeying ∨ o.outcome.isSome = true)
    (most : s.key.ring.length ≤ 64) :
    exec (.recordClose now) s = .next { s with
      tick := now.tick, clk := now.clk
      key := { s.key with
        opens := pre ++ post
        ring := (if s.key.ring.length = 64 then s.key.ring.drop 1 else s.key.ring) ++ [(s.at now).recordOf o] } } := by
  have found : s.key.openAt (now.tick - Config.recordAt) = some o := by
    have at0 : now.tick - Config.recordAt = o.t0 := by simp only [Config.recordAt]; omega
    rw [at0, opened.openAt]
  have ready : (!o.action.keyed || o.outcome.isSome) = true := by
    obtain silent | fixed := decided
    · simp [silent, Action.keyed]
    · simp [fixed]
  have answered : exec (.recordClose now) s = .next (s.at now).recordCloseEffect :=
    exec_due (c := .recordClose now) (by simp [Instr.due, up, found, ready])
  have reached : (s.at now).key.openAt ((s.at now).tick - Config.recordAt) = some o := found
  rw [answered]
  simp only [State.recordCloseEffect, reached]
  rw [← appendRecord_eq most, ← opened.closed]
  rfl

end

end Sys2Proof.Machine

namespace Sys2Proof.Proofs
open Sys2Proof.Machine

/-- Settles O33: the record's fields by the second's own fall, and the ring by its length. -/
theorem recordCloseAppendsTheSecond : Obligations.RecordCloseAppendsTheSecond := by
  intro now s pre post o up opened due decided most
  refine ⟨_, opened.exec_recordClose up due decided most, rfl, rfl, rfl, fun suspended => ?_, fun open_ => ?_⟩
  · simp [State.recordOf, State.recordFields_suspended suspended]
  have keyedFields (keyed : o.action ≠ .notKeying) := State.recordFields_keyed (s := s.at now) open_ keyed
  have silentFields (silent : o.action = .notKeying) := State.recordFields_notKeying (s := s.at now) open_ silent
  refine ⟨fun keyed => ?_, ?_⟩
  · have fixed : o.outcome.isSome = true := decided.resolve_left keyed
    obtain ⟨outcome, is⟩ := Option.isSome_iff_exists.mp fixed
    simp [State.recordOf, keyedFields keyed, is]
  intro own
  have ownFields {fall : Int} (is : own fall) :
      ((s.at now).recordFields o).2 = fallFields s.key o.t0 fall := by
    obtain ⟨action, is⟩ | ⟨action, is⟩ | ⟨action, is⟩ | ⟨action, is⟩ := is
    · rw [keyedFields (by simp [action])]; simp [State.reductionFields, State.ownFall, action, is]
    · rw [keyedFields (by simp [action])]; simp [State.reductionFields, State.ownFall, action, is]
    · have rescue : (s.at now).rescueFall o.t0 = some fall := is
      rw [keyedFields (by simp [action])]; simp [State.reductionFields, State.ownFall, action, rescue]
    · rw [(silentFields action).1 fall is]; rfl
  refine ⟨fun fall rise is rose => ?_, fun fall is no => ?_, fun noFall => ?_, fun silent fall observed => ?_, fun silent no => ?_⟩
  · have fields := (ownFields is).trans (fallFields_risen rose)
    obtain ⟨glitch, short, long, mark, overlong⟩ := classify_lineSymbol (rise - fall)
    simp only [State.recordOf, fields]
    exact ⟨trivial, trivial, glitch, short, long, mark, overlong⟩
  · have fields := (ownFields is).trans (fallFields_low no)
    simp [State.recordOf, fields]
  · intro start
    have fields : ((s.at now).recordFields o).2 = noFallFields s.key o.t0 := by
      obtain ⟨action, is⟩ | ⟨action, is⟩ | ⟨action, is⟩ := noFall
      · rw [keyedFields (by simp [action])]; simp [State.reductionFields, State.ownFall, action, is]
      · rw [keyedFields (by simp [action])]; simp [State.reductionFields, State.ownFall, action, is]
      · have rescue : (s.at now).rescueFall o.t0 = none := is
        rw [keyedFields (by simp [action])]; simp [State.reductionFields, State.ownFall, action, rescue]
    simp only [State.recordOf, fields]
    refine ⟨?_, fun high => ?_, fun low => ⟨fun no => ?_, fun rise rose => ?_⟩⟩
    · unfold noFallFields
      dsimp only
      split
      · split <;> rfl
      · rfl
    · rw [noFallFields_quiet high]; exact ⟨rfl, rfl⟩
    · rw [noFallFields_still low no]; exact ⟨rfl, rfl⟩
    · obtain ⟨glitch, short, long, mark, overlong⟩ := classify_lineSymbol (rise - start)
      rw [noFallFields_risen low rose]
      refine ⟨rfl, glitch, fun y is => ?_, overlong⟩
      cases y
      · exact short is
      · exact long is
      · exact mark is
  · simp [State.recordOf, (silentFields silent).1 fall observed]
  · simp [State.recordOf, (silentFields silent).2 no]

end Sys2Proof.Proofs
end

section
/-! PROOFS. The end of a reduction, the readback and the listen second's grace (O28). -/

namespace Sys2Proof.Machine

section
variable {s : State} {pre post : List OpenSecond} {o : OpenSecond} {now : Instant}

/-- A reduction on KEY released at t0 + D (R96). -/
theorem exec_reductionRelease {t0 : Int} {y : Symbol} (up : s.timer.monitor = .up) (noTest : s.ctl.test.state ≠ .running)
    (pulled : s.keyPulled = true) (began : s.key.t0 = some t0) (intended : s.key.intended = some y)
    (due : t0 + y.ticks = now.tick) :
    exec (.reductionRelease now) s =
      .next { s with tick := now.tick, clk := now.clk, key := { s.key with drive := .released } } := by
  have notRunning : (s.at now).testRunning = false := beq_eq_false_iff_ne.mpr noTest
  have running : s.testRunning = false := notRunning
  have reducing : s.reducing = true := by simp [State.reducing, running, pulled]
  have ends : s.releaseDue now.tick = true := by simp [State.releaseDue, began, intended, due]
  have answered : exec (.reductionRelease now) s = .next (s.at now).releaseNow :=
    exec_due (c := .reductionRelease now) (by simp [Instr.due, up, reducing, ends])
  rw [answered, State.releaseNow, notRunning]
  rfl

/-- The readback of the only open second whose readback falls now (R100, R105). -/
theorem OpensSecond.exec_readback (opened : OpensSecond pre o post s) (up : s.timer.monitor = .up)
    (this : s.readbackTick o = some now.tick) (other : ∀ x ∈ pre, s.readbackTick x ≠ some now.tick) :
    exec (.readback now) s = .next { s with
      tick := now.tick, clk := now.clk
      key := { s.key with opens := pre ++ { o with readback := s.key.level } :: post } } := by
  have found : s.readbackOf now.tick = some o := by
    rw [State.readbackOf, opened.opens]
    exact find?_only (fun x mem => beq_eq_false_iff_ne.mpr (other x mem)) (beq_iff_eq.mpr this)
  have answered : exec (.readback now) s = .next (s.at now).readbackEffect :=
    exec_due (c := .readback now) (by simp [Instr.due, up, found])
  have reached : (s.at now).readbackOf (s.at now).tick = some o := found
  rw [answered]
  simp only [State.readbackEffect, reached]
  rw [← opened.update (fun o => { o with readback := s.key.level })]
  rfl

theorem State.readbackTick_eq (s : State) (x : OpenSecond) (t : Int) :
    s.readbackTick x = some t ↔
      (x.action = .driven ∧ x.t0 + 10000 = t) ∨
        (x.action = .rescued ∧ x.t0 + 10 * (s.load.params.site.rescueGrace : Int) + 10000 = t) := by
  cases action : x.action <;> simp [State.readbackTick, action, Config.readbackAt, State.rescueGrace]

/-- A small difference is wrapped to itself (R22). -/
theorem wrapError_small {d : Int} (least : -5000000 ≤ d) (most : d < 5000000) : wrapError d = d := by
  have range := wrapError_range d
  omega

theorem exec_rescueGraceExpiry {t0 : Int} (up : s.timer.monitor = .up) (listening : s.key.drive = .listening)
    (began : s.key.t0 = some t0) (due : t0 + 10 * (s.load.params.site.rescueGrace : Int) = now.tick) :
    exec (.rescueGraceExpiry now) s =
      .next ((s.takenFall t0).elim ((s.at now).rescueBegins t0) (fun fall => (s.at now).listenTaken t0 fall)) := by
  have at0 : now.tick - s.rescueGrace = t0 := by simp only [State.rescueGrace]; omega
  have answered : exec (.rescueGraceExpiry now) s = .next (s.at now).graceEffect :=
    exec_due (c := .rescueGraceExpiry now) (by simp [Instr.due, up, listening, began, at0])
  have reached : (s.at now).key.t0 = some t0 := began
  rw [answered]
  have same : (s.at now).takenFall t0 = s.takenFall t0 := rfl
  simp only [State.graceEffect, reached, same]
  cases s.takenFall t0 <;> rfl

end

end Sys2Proof.Machine

namespace Sys2Proof.Proofs
open Sys2Proof.Machine

/-- Settles O28: each command at its tick, with the listen second's grace by its taken fall. -/
theorem pullsEndAreReadBackAndRescued : Obligations.PullsEndAreReadBackAndRescued := by
  refine ⟨⟨?_, ?_⟩, ?_⟩
  · intro now s t0 d y up noTest pulling began intended short long mark due
    have length : y.ticks = d := by
      cases y
      · exact (short rfl).symm
      · exact (long rfl).symm
      · exact (mark rfl).symm
    have pulled : s.keyPulled = true := by
      obtain h | h := pulling <;> simp [State.keyPulled, h]
    exact ⟨_, exec_reductionRelease up noTest pulled began intended (by rw [length]; exact due), rfl, rfl⟩
  · intro now s pre post o after up opened kind due others
    refine opened.exec_readback up ((s.readbackTick_eq o now.tick).mpr ?_) (fun x mem falls => ?_)
    · obtain ⟨driven, rfl⟩ | ⟨rescued, rfl⟩ := kind
      · exact .inl ⟨driven, due⟩
      · exact .inr ⟨rescued, by omega⟩
    · obtain ⟨notDriven, notRescued⟩ := others x (List.mem_append_left _ mem)
      obtain ⟨driven, then_⟩ | ⟨rescued, then_⟩ := (s.readbackTick_eq x now.tick).mp falls
      · exact notDriven driven then_
      · exact notRescued rescued then_
  · intro now s t0 up listening began due tol
    have answered := exec_rescueGraceExpiry up listening began due
    refine ⟨fun fall took => ?_, fun no => ?_⟩
    · intro timer
      rw [took] at answered
      have within : ((fall - t0).natAbs : Int) ≤ s.epochTol ↔
          -(10 * (s.load.params.site.epochTol : Int)) ≤ fall - t0 ∧ fall - t0 ≤ 10 * (s.load.params.site.epochTol : Int) := by
        simp only [State.epochTol]; omega
      rw [answered, Option.elim_some, State.listenTaken]
      by_cases near : -(10 * (s.load.params.site.epochTol : Int)) ≤ fall - t0 ∧ fall - t0 ≤ 10 * (s.load.params.site.epochTol : Int)
      · have same : wrapError (fall - t0) = fall - t0 := wrapError_small (by omega) (by omega)
        have timed : timer = { s.timer with heldLine := some (fall - t0), receivedMarker := some 0 } := if_pos near
        rw [timed]
        dsimp only
        rw [if_pos (by exact within.mpr near), same]
        rfl
      · have timed : timer = s.timer := if_neg near
        rw [timed]
        dsimp only
        rw [if_neg (by exact fun h => near (within.mp h))]
        rfl
    · rw [no] at answered
      exact ⟨_, answered, rfl, rfl⟩

end Sys2Proof.Proofs
end

section
/-! PROOFS. Falls, rises and own seconds as the nearest ones (O29). -/

namespace Sys2Proof.Machine

/-! ## The first and the last of an ordered list -/

section
variable {α : Type} {l : List α} {f : α → Int}

/-- The element found in a list in ascending order is the least that passes. -/
theorem find?_ascending (ascending : l.Pairwise (fun a b => f a < f b)) (p : α → Bool) (a : α) :
    l.find? p = some a ↔ a ∈ l ∧ p a = true ∧ ∀ b ∈ l, p b = true → f a ≤ f b := by
  induction l with
  | nil => simp
  | cons x rest ih =>
    obtain ⟨first, restAscending⟩ := List.pairwise_cons.mp ascending
    by_cases passes : p x = true
    · rw [List.find?_cons_of_pos passes]
      constructor
      · rintro ⟨⟩
        refine ⟨List.mem_cons_self, passes, fun b mem _ => ?_⟩
        obtain rfl | inRest := List.mem_cons.mp mem
        · exact le_refl _
        · exact le_of_lt (first b inRest)
      · rintro ⟨mem, -, least⟩
        obtain rfl | inRest := List.mem_cons.mp mem
        · rfl
        · exact absurd (least x List.mem_cons_self passes) (not_le.mpr (first a inRest))
    · rw [List.find?_cons_of_neg (by simpa using passes), ih restAscending]
      constructor
      · rintro ⟨mem, is, least⟩
        refine ⟨List.mem_cons_of_mem x mem, is, fun b inAll isB => ?_⟩
        obtain rfl | inRest := List.mem_cons.mp inAll
        · exact absurd isB passes
        · exact least b inRest isB
      · rintro ⟨mem, is, least⟩
        obtain rfl | inRest := List.mem_cons.mp mem
        · exact absurd is passes
        · exact ⟨inRest, is, fun b memB isB => least b (List.mem_cons_of_mem x memB) isB⟩

/-- The first element of an ascending list is its least. -/
theorem head?_ascending {l : List Int} (ascending : l.Pairwise (· < ·)) (a : Int) :
    l.head? = some a ↔ a ∈ l ∧ ∀ b ∈ l, a ≤ b := by
  have found := find?_ascending (f := id) ascending (fun _ => true) a
  cases l with
  | nil => simp
  | cons x rest => simpa using found

/-- The last element of an ascending list is its greatest. -/
theorem getLast?_ascending {l : List Int} (ascending : l.Pairwise (· < ·)) (a : Int) :
    l.getLast? = some a ↔ a ∈ l ∧ ∀ b ∈ l, b ≤ a := by
  have descending : l.reverse.Pairwise (fun x y => -x < -y) := by
    simpa [List.pairwise_reverse] using ascending
  have found := find?_ascending (f := fun x => -x) descending (fun _ => true) a
  rw [← List.head?_reverse]
  cases reversed : l.reverse with
  | nil => simp [List.reverse_eq_nil_iff.mp reversed]
  | cons x rest =>
    rw [reversed] at found
    have same (b : Int) : b ∈ l ↔ b ∈ x :: rest := by rw [← reversed, List.mem_reverse]
    simpa [same] using found

/-- A fold that keeps the better of two keeps the best of those that pass. -/
theorem foldr_best {c : Int → Option Int → Option Int} {r : Int → Int → Prop} {p : Int → Prop} [DecidablePred p]
    (first : ∀ x, c x none = some x)
    (better : ∀ x y, ∃ z, c x (some y) = some z ∧ (z = x ∨ z = y) ∧ r z x ∧ r z y)
    (refl : ∀ x, r x x) (trans : ∀ x y z, r x y → r y z → r x z) (antisymm : ∀ x y, r x y → r y x → x = y)
    (l : List Int) (x : Int) :
    l.foldr (fun a acc => if p a then c a acc else acc) none = some x ↔ x ∈ l ∧ p x ∧ ∀ y ∈ l, p y → r x y := by
  have kept (l : List Int) :
      (l.foldr (fun a acc => if p a then c a acc else acc) none = none → ∀ y ∈ l, ¬ p y) ∧
        ∀ z, l.foldr (fun a acc => if p a then c a acc else acc) none = some z → z ∈ l ∧ p z ∧ ∀ y ∈ l, p y → r z y := by
    induction l with
    | nil => simp
    | cons a rest ih =>
      obtain ⟨empty, best⟩ := ih
      rw [List.foldr_cons]
      by_cases passes : p a
      · rw [if_pos passes]
        cases acc : rest.foldr (fun a acc => if p a then c a acc else acc) none with
        | none =>
          refine ⟨fun no => absurd ((first a).symm.trans no) (by simp), fun z is => ?_⟩
          obtain rfl : a = z := Option.some.inj ((first a).symm.trans is)
          refine ⟨List.mem_cons_self, passes, fun y mem isY => ?_⟩
          obtain rfl | inRest := List.mem_cons.mp mem
          · exact refl y
          · exact absurd isY (empty acc y inRest)
        | some w =>
          obtain ⟨z', eq, origin, overA, overW⟩ := better a w
          obtain ⟨memW, isW, bestW⟩ := best w acc
          refine ⟨fun no => absurd (eq.symm.trans no) (by simp), fun z is => ?_⟩
          obtain rfl : z' = z := Option.some.inj (eq.symm.trans is)
          refine ⟨?_, ?_, fun y mem isY => ?_⟩
          · obtain rfl | rfl := origin
            · exact List.mem_cons_self
            · exact List.mem_cons_of_mem a memW
          · obtain rfl | rfl := origin
            · exact passes
            · exact isW
          · obtain rfl | inRest := List.mem_cons.mp mem
            · exact overA
            · exact trans _ _ _ overW (bestW y inRest isY)
      · rw [if_neg passes]
        refine ⟨fun no y mem isY => ?_, fun z is => ?_⟩
        · obtain rfl | inRest := List.mem_cons.mp mem
          · exact passes isY
          · exact empty no y inRest isY
        · obtain ⟨mem, isZ, bestZ⟩ := best z is
          refine ⟨List.mem_cons_of_mem a mem, isZ, fun y memY isY => ?_⟩
          obtain rfl | inRest := List.mem_cons.mp memY
          · exact absurd isY passes
          · exact bestZ y inRest isY
  obtain ⟨empty, best⟩ := kept l
  refine ⟨best x, fun ⟨mem, is, beats⟩ => ?_⟩
  cases acc : l.foldr (fun a acc => if p a then c a acc else acc) none with
  | none => exact absurd is (empty acc x mem)
  | some z =>
    obtain ⟨memZ, isZ, overZ⟩ := best z acc
    rw [antisymm z x (overZ x mem is) (beats z memZ isZ)]

end

/-! ## Edges in order -/

section
variable {k : Keying}

theorem edgesInOrder.ascending (order : edgesInOrder k) : k.edges.reverse.Pairwise (fun a b => a.tick < b.tick) :=
  List.pairwise_reverse.mpr order

/-- A low edge is a fall at its tick. -/
theorem Edge.fall {edges : List Edge} {e : Edge} (mem : e ∈ edges) (low : e.level = .low) :
    ({ tick := e.tick, level := .low } : Edge) ∈ edges := by
  rw [← low]; exact mem

theorem Keying.mem_fallsIn (lo hi fall : Int) :
    fall ∈ k.fallsIn lo hi ↔ { tick := fall, level := .low } ∈ k.edges ∧ lo ≤ fall ∧ fall ≤ hi := by
  simp only [Keying.fallsIn, List.mem_map, List.mem_filter, List.mem_reverse, Bool.and_eq_true, beq_iff_eq, decide_eq_true_eq]
  constructor
  · rintro ⟨⟨tick, level⟩, ⟨mem, ⟨low, least⟩, most⟩, rfl⟩
    obtain rfl : level = .low := low
    exact ⟨mem, least, most⟩
  · rintro ⟨mem, least, most⟩
    exact ⟨_, ⟨mem, ⟨rfl, least⟩, most⟩, rfl⟩

theorem edgesInOrder.fallsIn (order : edgesInOrder k) (lo hi : Int) : (k.fallsIn lo hi).Pairwise (· < ·) :=
  List.pairwise_map.mpr (order.ascending.filter _)

/-- The measured fall of a driven second is the latest (R98). -/
theorem edgesInOrder.drivenFall (order : edgesInOrder k) (t0 fall : Int) :
    k.drivenFall t0 = some fall ↔
      { tick := fall, level := .low } ∈ k.edges ∧ t0 - 5000000 ≤ fall ∧ fall ≤ t0 + 10000 ∧
        ∀ e ∈ k.edges, e.level = .low → e.tick ≤ t0 + 10000 → e.tick ≤ fall := by
  rw [Keying.drivenFall, getLast?_ascending (order.fallsIn _ _), Keying.mem_fallsIn]
  simp only [Keying.mem_fallsIn, Config.halfWindow, Config.readbackAt]
  constructor
  · rintro ⟨⟨mem, least, most⟩, last⟩
    refine ⟨mem, least, most, fun e memE low mostE => ?_⟩
    by_cases inside : t0 - 5000000 ≤ e.tick
    · exact last e.tick ⟨Edge.fall memE low, inside, mostE⟩
    · omega
  · rintro ⟨mem, least, most, last⟩
    exact ⟨⟨mem, least, most⟩, fun b ⟨memB, _, mostB⟩ => last _ memB rfl mostB⟩

/-- A reduction ends at the earliest rise after its fall (R98). -/
theorem edgesInOrder.riseAfter (order : edgesInOrder k) (t rise : Int) :
    k.riseAfter t = some rise ↔
      { tick := rise, level := .high } ∈ k.edges ∧ t < rise ∧
        ∀ e ∈ k.edges, e.level = .high → t < e.tick → rise ≤ e.tick := by
  simp only [Keying.riseAfter, Option.map_eq_some_iff, find?_ascending order.ascending, List.mem_reverse, Bool.and_eq_true,
    beq_iff_eq, decide_eq_true_eq]
  constructor
  · rintro ⟨⟨tick, level⟩, ⟨mem, ⟨high, after⟩, least⟩, rfl⟩
    obtain rfl : level = .high := high
    exact ⟨mem, after, fun e memE highE afterE => least e memE ⟨highE, afterE⟩⟩
  · rintro ⟨mem, after, least⟩
    exact ⟨_, ⟨mem, ⟨rfl, after⟩, fun e memE ⟨highE, afterE⟩ => least e memE highE afterE⟩, rfl⟩

/-- A reduction that ended as a glitch by a tick (R104, R109). -/
theorem Keying.glitchBy_iff (fall by_ : Int) :
    k.glitchBy fall by_ = true ↔ ∃ rise, k.riseAfter fall = some rise ∧ rise ≤ by_ ∧ rise - fall < 600000 := by
  unfold Keying.glitchBy
  cases k.riseAfter fall with
  | none => simp
  | some rise => simp only [Bool.and_eq_true, decide_eq_true_eq, Option.some.injEq, exists_eq_left']; rfl

/-- A fall of an interval whose reduction has not ended as a glitch by a tick (R104, R109). -/
def Keying.Counts (k : Keying) (lo hi by_ fall : Int) : Prop :=
  { tick := fall, level := .low } ∈ k.edges ∧ (lo ≤ fall ∧ fall ≤ hi) ∧
    ¬ ∃ rise, k.riseAfter fall = some rise ∧ rise ≤ by_ ∧ rise - fall < 600000

theorem Keying.counts_iff (k : Keying) (lo hi by_ f : Int) :
    k.Counts lo hi by_ f ↔ f ∈ k.fallsIn lo hi ∧ (!k.glitchBy f by_) = true := by
  rw [Keying.Counts, Keying.mem_fallsIn, Bool.not_eq_true', ← Bool.not_eq_true, Keying.glitchBy_iff]
  simp only [and_assoc]

/-- The first fall of an interval that is no glitch by a tick. -/
theorem edgesInOrder.firstFall (order : edgesInOrder k) (lo hi by_ fall : Int) :
    (k.fallsIn lo hi).find? (fun f => !k.glitchBy f by_) = some fall ↔
      k.Counts lo hi by_ fall ∧ ∀ fall', k.Counts lo hi by_ fall' → fall ≤ fall' := by
  rw [find?_ascending (f := id) (order.fallsIn lo hi)]
  simp only [Keying.counts_iff, and_assoc, and_imp, id]

/-- The line before a tick, by its next edge or its level. -/
theorem edgesInOrder.lowBefore (order : edgesInOrder k) (t : Int) :
    k.lowBefore t = true ↔
      (∃ e ∈ k.edges, e.level = .high ∧ t ≤ e.tick ∧ ∀ x ∈ k.edges, t ≤ x.tick → e.tick ≤ x.tick) ∨
      ((∀ e ∈ k.edges, e.tick < t) ∧ k.level = some .low) := by
  unfold Keying.lowBefore
  cases found : k.edges.reverse.find? (fun e => decide (t ≤ e.tick)) with
  | none =>
    have before : ∀ e ∈ k.edges, e.tick < t := fun e mem => by
      simpa using List.find?_eq_none.mp found e (List.mem_reverse.mpr mem)
    simp only [beq_iff_eq]
    refine ⟨fun low => .inr ⟨before, low⟩, ?_⟩
    rintro (⟨e, mem, -, after, -⟩ | ⟨-, low⟩)
    · exact absurd (before e mem) (not_lt.mpr after)
    · exact low
  | some e =>
    obtain ⟨mem, after, least⟩ := (find?_ascending order.ascending _ e).mp found
    simp only [List.mem_reverse, decide_eq_true_eq] at mem after least
    simp only [beq_iff_eq]
    refine ⟨fun high => .inl ⟨e, mem, high, after, least⟩, ?_⟩
    rintro (⟨e', mem', high, after', least'⟩ | ⟨before, -⟩)
    · have same : (k.edges.reverse.find? (fun e => decide (t ≤ e.tick))) = some e' :=
        (find?_ascending order.ascending _ e').mpr ⟨List.mem_reverse.mpr mem', decide_eq_true after',
          fun x memX isX => least' x (List.mem_reverse.mp memX) (of_decide_eq_true isX)⟩
      rw [Option.some.inj (found.symm.trans same)]
      exact high
    · exact absurd (before e mem) (not_lt.mpr after)

end

/-! ## Own seconds -/

theorem laterOf_better (x y : Int) : ∃ z, laterOf x (some y) = some z ∧ (z = x ∨ z = y) ∧ x ≤ z ∧ y ≤ z := by
  refine ⟨_, rfl, ?_⟩
  split <;> omega

theorem earlierOf_better (x y : Int) : ∃ z, earlierOf x (some y) = some z ∧ (z = x ∨ z = y) ∧ z ≤ x ∧ z ≤ y := by
  refine ⟨_, rfl, ?_⟩
  split <;> omega

/-- A tick belongs to the latest own second whose window has begun (R95). -/
theorem State.secondOf_iff (s : State) (t x : Int) :
    s.secondOf t = some x ↔ x ∈ s.driveInstants ∧ x - 5000000 ≤ t ∧ ∀ y ∈ s.driveInstants, y - 5000000 ≤ t → y ≤ x :=
  foldr_best (r := fun a b => b ≤ a) (p := fun a => a - Config.halfWindow ≤ t) (fun _ => rfl) laterOf_better le_refl
    (fun _ _ _ h h' => le_trans h' h) (fun _ _ h h' => le_antisymm h' h) s.driveInstants x

theorem State.driveAfter_iff (s : State) (t x : Int) :
    s.driveAfter t = some x ↔ x ∈ s.driveInstants ∧ t < x ∧ ∀ y ∈ s.driveInstants, t < y → x ≤ y :=
  foldr_best (r := fun a b => a ≤ b) (p := fun a => t < a) (fun _ => rfl) earlierOf_better le_refl
    (fun _ _ _ => le_trans) (fun _ _ => le_antisymm) s.driveInstants x

end Sys2Proof.Machine

namespace Sys2Proof.Proofs
open Sys2Proof.Machine

/-- Settles O29: in edges in order of time, the first that passes is the earliest and the last the latest. -/
theorem fallsAndRisesAreTheNearest : Obligations.FallsAndRisesAreTheNearest := by
  refine ⟨fun k t0 fall order => order.drivenFall t0 fall, fun k t rise order => order.riseAfter t rise, ?_,
    fun s t x => ⟨s.secondOf_iff t x, s.driveAfter_iff t x⟩, ?_, fun k t order => order.lowBefore t⟩
  · intro s t0 order grace glitch counts
    have same (fall : Int) : counts fall ↔ s.key.Counts (t0 - 5000000) grace grace fall := by
      simp only [counts, glitch, Keying.Counts, and_assoc]
    have taken (fall : Int) : s.takenFall t0 = some fall ↔ counts fall ∧ ∀ fall', counts fall' → fall ≤ fall' := by
      simp only [same]
      exact order.firstFall (t0 - 5000000) grace grace fall
    refine ⟨taken, ?_⟩
    simp only [same]
    have none := List.find?_eq_none (p := fun f => !s.key.glitchBy f grace) (l := s.key.fallsIn (t0 - 5000000) grace)
    refine none.trans ⟨fun no fall counted => ?_, fun no fall mem => ?_⟩
    · exact no fall ((Keying.counts_iff ..).mp counted).1 ((Keying.counts_iff ..).mp counted).2
    · exact fun passes => no fall ((Keying.counts_iff ..).mpr ⟨mem, passes⟩)
  · intro s t0 fall order begins
    have rescue (fall : Int) : s.rescueFall t0 = some fall ↔
        { tick := fall, level := .low } ∈ s.key.edges ∧ begins ≤ fall ∧ fall ≤ begins + 10000 ∧
          ∀ e ∈ s.key.edges, e.level = .low → begins ≤ e.tick → fall ≤ e.tick := by
      have first : s.rescueFall t0 = some fall ↔ _ := head?_ascending (order.fallsIn begins (begins + 10000)) fall
      rw [first, Keying.mem_fallsIn]
      simp only [Keying.mem_fallsIn]
      constructor
      · rintro ⟨⟨mem, least, most⟩, earliest⟩
        refine ⟨mem, least, most, fun e memE low leastE => ?_⟩
        by_cases inside : e.tick ≤ begins + 10000
        · exact earliest e.tick ⟨Edge.fall memE low, leastE, inside⟩
        · omega
      · rintro ⟨mem, least, most, earliest⟩
        exact ⟨⟨mem, least, most⟩, fun b ⟨memB, leastB, _⟩ => earliest _ memB rfl leastB⟩
    refine ⟨fun own => ?_, rescue fall, ?_⟩
    · exact (rescue begins).mpr ⟨own, le_refl _, by omega, fun e _ _ after => after⟩
    · intro inside glitch counts
      obtain ⟨last, observes, within⟩ : ∃ last,
          s.observedFall t0 = (s.key.fallsIn (t0 - 5000000) last).find? (fun f => !s.key.glitchBy f s.tick) ∧
            ∀ f, inside f ↔ t0 - 5000000 ≤ f ∧ f ≤ last := by
        cases next : s.driveAfter t0 with
        | none =>
          refine ⟨s.tick, by simp only [State.observedFall, next, Config.halfWindow], fun f => ?_⟩
          simp [inside, next]
        | some x =>
          refine ⟨x - 5000000 - 1, by simp only [State.observedFall, next, Config.halfWindow], fun f => ?_⟩
          simp only [inside, next, Option.some.injEq, forall_eq', reduceCtorEq, false_implies, and_true]
          omega
      have same (f : Int) : counts f ↔ s.key.Counts (t0 - 5000000) last s.tick f := by
        simp only [counts, glitch, Keying.Counts, within]
      simp only [same, observes]
      exact order.firstFall (t0 - 5000000) last s.tick fall

end Sys2Proof.Proofs
end

section
/-! PROOFS. The decoder: breaks, falls that settle and rises (O36, O37, O39). -/

namespace Sys2Proof.Machine

section
variable {s : State} {r : Reduction} {a : Assembly} {now : Instant}

theorem State.testRunning_false (live : s.ctl.test.state ≠ .running) : s.testRunning = false := beq_eq_false_iff_ne.mpr live

/-! ## Breaks -/

/-- The Line Reader after a break on KEY (R148). -/
def LineReader.broken (reason : BreakReason) (l : LineReader) : LineReader :=
  { l with decoder := .hunting, assembly := none, lastBreak := some reason, candidate := none, notice := none }

/-- A frame on KEY that breaks (R148). -/
theorem State.breakFrame_live (live : s.ctl.test.state ≠ .running) (reason : BreakReason) :
    s.breakFrame reason =
      { s with line := s.line.broken reason, maint := { s.maint with counters := s.maint.counters.addLineFrameBad } } := by
  unfold State.breakFrame
  dsimp only
  rw [if_neg]
  · rfl
  · have still := State.testRunning_false live
    exact fun running => absurd (still.symm.trans running) (by decide)

/-! ## OVERLONG and MISSING -/

theorem State.markNow_seen (held : s.line.reduction = some r) (seen : r.markSeen = true) : s.markNow = s := by
  simp only [State.markNow, held, seen, if_true]

/-- The reduction in progress noted as OVERLONG (R147). -/
def State.noteOver (r : Reduction) (s : State) : State :=
  { s with line := { s.line with reduction := some { r with overSeen := true } } }

theorem State.overlongNow_breaks (held : s.line.reduction = some r) (seen : r.markSeen = true) (new : r.overSeen = false)
    (assembled : s.line.assembly = some a) (own : a.markFall = r.fall) :
    s.overlongNow = (s.noteOver r).breakFrame .overlong := by
  simp only [State.overlongNow, State.markNow_seen held seen, held, new, assembled, own, if_true, Bool.false_eq_true, if_false]
  rfl

theorem State.overlongNow_notes (held : s.line.reduction = some r) (seen : r.markSeen = true) (new : r.overSeen = false)
    (other : ∀ a ∈ s.line.assembly, a.markFall ≠ r.fall) : s.overlongNow = s.noteOver r := by
  simp only [State.overlongNow, State.markNow_seen held seen, held, new, Bool.false_eq_true, if_false]
  split
  next a assembled => exact if_neg (other a assembled)
  next => rfl

theorem exec_overlong (up : s.timer.monitor = .up) (held : s.line.reduction = some r) (new : r.overSeen = false)
    (due : r.fall + 7000000 = now.tick) : exec (.overlong now) s = .next (s.at now).overlongNow :=
  exec_due (c := .overlong now) (by simp [Instr.due, up, held, new, ← due, Config.markTo])

theorem exec_spacingWindowClose (up : s.timer.monitor = .up) (assembling : s.line.decoder = .assembling)
    (assembled : s.line.assembly = some a) (open_ : a.windowClosed = false) (due : a.lastFall + 10100000 = now.tick) :
    exec (.spacingWindowClose now) s = .next (s.at now).spacingEffect :=
  exec_due (c := .spacingWindowClose now) (by simp [Instr.due, up, assembling, assembled, open_, ← due, Config.spacingTo])

theorem State.spacingEffect_waits (assembled : s.line.assembly = some a) (held : s.line.reduction = some r)
    (unsettled : r.role = .unsettled) (inside : a.lastFall + 9900000 ≤ r.fall) :
    s.spacingEffect = { s with line := { s.line with assembly := some { a with windowClosed := true } } } := by
  have waits : s.unsettledFrom (a.lastFall + Config.spacingFrom) = true := by
    simp [State.unsettledFrom, held, unsettled, Config.spacingFrom, inside]
  simp only [State.spacingEffect, assembled, waits, if_true]

theorem State.spacingEffect_breaks (assembled : s.line.assembly = some a)
    (settled : ∀ r ∈ s.line.reduction, r.role ≠ .unsettled ∨ r.fall < a.lastFall + 9900000) :
    s.spacingEffect = s.breakFrame .missing := by
  have none : s.unsettledFrom (a.lastFall + Config.spacingFrom) = false := by
    rw [← Bool.not_eq_true, State.unsettledFrom, Option.any_eq_true]
    rintro ⟨r, held, waits⟩
    simp only [Bool.and_eq_true, beq_iff_eq, decide_eq_true_eq] at waits
    obtain ⟨unsettled, inside⟩ := waits
    replace inside : a.lastFall + 9900000 ≤ r.fall := inside
    obtain role | before := settled r held
    · exact role unsettled
    · omega
  simp only [State.spacingEffect, assembled, none, Bool.false_eq_true, if_false]

/-! ## Falls that settle -/

theorem State.settleNow_unsettled (held : s.line.reduction = some r) (unsettled : r.role = .unsettled) :
    s.settleNow = (s.sampleLine r.fall).decodeFall r.fall := by
  simp only [State.settleNow, held, unsettled, if_true, State.settleFall]

theorem State.settleNow_settled (held : s.line.reduction = some r) (settled : r.role ≠ .unsettled) : s.settleNow = s := by
  simp only [State.settleNow, held, if_neg settled]

theorem exec_fallSettled (up : s.timer.monitor = .up) (held : s.line.reduction = some r) (unsettled : r.role = .unsettled)
    (due : r.fall + 600000 = now.tick) :
    exec (.fallSettled now) s = .next (((s.at now).sampleLine r.fall).decodeFall r.fall) := by
  have answered : exec (.fallSettled now) s = .next (s.at now).settleNow :=
    exec_due (c := .fallSettled now) (by simp [Instr.due, up, held, unsettled, ← due, Config.glitchBelow])
  rw [answered, State.settleNow_unsettled (s := s.at now) held unsettled]

/-- What a line phase sample leaves of the decoder. -/
@[simp] theorem State.sampleLine_decoder (fall : Int) (s : State) :
    (s.sampleLine fall).line.reduction = s.line.reduction ∧ (s.sampleLine fall).line.assembly = s.line.assembly := by
  unfold State.sampleLine
  dsimp only
  repeat' split
  all_goals exact ⟨rfl, rfl⟩

/-- The decoder's part of a fall leaves the sample taken. -/
@[simp] theorem State.decodeFall_sampled (fall : Int) (s : State) : (s.decodeFall fall).line.sampled = s.line.sampled := by
  unfold State.decodeFall State.breakFrame
  dsimp only
  repeat' split
  all_goals rfl

theorem State.decodeFall_early (assembling : s.line.decoder = .assembling) (assembled : s.line.assembly = some a) {fall : Int}
    (early : fall < a.lastFall + 9900000) : s.decodeFall fall = (s.breakFrame .extraFall).setRole .hunted := by
  have before : fall < a.lastFall + Config.spacingFrom := early
  simp only [State.decodeFall, assembling, assembled, if_pos before]

theorem State.decodeFall_late (assembling : s.line.decoder = .assembling) (assembled : s.line.assembly = some a) {fall : Int}
    (late : a.lastFall + 10100000 < fall) : s.decodeFall fall = (s.breakFrame .missing).setRole .hunted := by
  have notBefore : ¬ fall < a.lastFall + Config.spacingFrom := by simp only [Config.spacingFrom]; omega
  have after : ¬ fall ≤ a.lastFall + Config.spacingTo := by simp only [Config.spacingTo]; omega
  simp only [State.decodeFall, assembling, assembled, if_neg notBefore, if_neg after]

theorem State.decodeFall_inside (held : s.line.reduction = some r) (assembling : s.line.decoder = .assembling) (assembled : s.line.assembly = some a) {fall : Int}
    (least : a.lastFall + 9900000 ≤ fall) (most : fall ≤ a.lastFall + 10100000) :
    s.decodeFall fall =
      { s with line := { s.line with
          assembly := some { a with falls := fall :: a.falls, lastFall := fall, windowClosed := false }
          reduction := some { r with role := .taken } } } := by
  have notBefore : ¬ fall < a.lastFall + Config.spacingFrom := by simp only [Config.spacingFrom]; omega
  have within : fall ≤ a.lastFall + Config.spacingTo := most
  simp only [State.decodeFall, assembling, assembled, if_neg notBefore, if_pos within, State.setRole, held, Option.map_some]

theorem State.decodeFall_hunting (hunting : s.line.decoder = .hunting) (fall : Int) : s.decodeFall fall = s.setRole .hunted := by
  unfold State.decodeFall
  split <;> simp_all

/-- A role given to the reduction in progress. -/
theorem State.setRole_eq (held : s.line.reduction = some r) (role : ReductionRole) :
    s.setRole role = { s with line := { s.line with reduction := some { r with role := role } } } := by
  rw [State.setRole, held]; rfl

/-! ## Line phase samples -/

/-- Whether a standing takes line phase samples (R152). -/
def Standing.samples (st : Standing) : Prop := (∃ p, st = .survey p) ∨ st = .deferred ∨ st = .standby

theorem Standing.samples_iff (st : Standing) : (st.surveys = true ∨ st = .standby) ↔ st.samples := by
  cases st <;> simp [Standing.samples, Standing.surveys, Standing.isSurvey]

/-- The first fall of an own second that settles (R152). -/
theorem State.sampleLine_first {fall t0 : Int} (live : s.ctl.test.state ≠ .running) (own : s.secondOf fall = some t0)
    (first : s.line.sampled ≠ some t0) :
    (s.sampleLine fall).line.sampled = some t0 ∧
      (s.ctl.standing.samples → -50000 ≤ wrapError (fall - t0) → wrapError (fall - t0) ≤ 50000 →
        (s.sampleLine fall).timer = { s.timer with heldLine := some (wrapError (fall - t0)), receivedMarker := some 0 }) ∧
      (¬ (s.ctl.standing.samples ∧ -50000 ≤ wrapError (fall - t0) ∧ wrapError (fall - t0) ≤ 50000) →
        (s.sampleLine fall).timer = s.timer) := by
  have near : ((wrapError (fall - t0)).natAbs : Int) ≤ Config.lineSampleReach ↔
      -50000 ≤ wrapError (fall - t0) ∧ wrapError (fall - t0) ≤ 50000 := by
    simp only [Config.lineSampleReach]; omega
  have takes := and_congr s.ctl.standing.samples_iff near
  simp only [State.sampleLine, State.testRunning_false live, own, if_neg first, Bool.false_eq_true, if_false]
  refine ⟨?_, fun samples least most => ?_, fun none => ?_⟩
  · split <;> rfl
  · rw [if_pos (takes.mpr ⟨samples, least, most⟩)]; rfl
  · rw [if_neg (fun all => none (takes.mp all))]

/-- A later fall of the second, or one in a self-test, is no sample (R152). -/
theorem State.sampleLine_later {fall t0 : Int} (own : s.secondOf fall = some t0)
    (later : ¬ (s.ctl.test.state ≠ .running ∧ s.line.sampled ≠ some t0)) : s.sampleLine fall = s := by
  unfold State.sampleLine
  by_cases running : s.ctl.test.state = .running
  · rw [if_pos (by simp [State.testRunning, running])]
  · have taken : s.line.sampled = some t0 := by
      by_contra new
      exact later ⟨running, new⟩
    simp only [own, taken, if_true, ite_self]

/-! ## Rises -/

/-- The reduction in progress ended. -/
def State.dropReduction (s : State) : State := { s with line := { s.line with reduction := none } }

theorem State.decoderRise_none {rise : Int} (held : s.line.reduction = some r) : (s.decoderRise rise).line.reduction = none := by
  simp only [State.decoderRise, held]

theorem State.decoderRise_glitch {rise : Int} (held : s.line.reduction = some r) (short : rise - r.fall < 600000) :
    s.decoderRise rise = s.settleGlitch.dropReduction := by
  have glitch : classifyReduction (rise - r.fall) = .glitch := if_pos short
  simp only [State.decoderRise, held, glitch, State.dropReduction]

/-- A reduction of a symbol's length, settled before its rise, that is no MARK (R147). -/
theorem State.decoderRise_settled {rise : Int} {y : Symbol} (held : s.line.reduction = some r) (settled : r.role ≠ .unsettled)
    (noMark : y ≠ .mark) (length : lengthIs y (rise - r.fall)) :
    s.decoderRise rise = (s.riseTaken y).dropReduction := by
  have own := (classify_isSymbol (rise - r.fall) y).mpr length
  have same := State.settleNow_settled held settled
  cases y with
  | mark => exact absurd rfl noMark
  | short =>
    have is : classifyReduction (rise - r.fall) = .short := by
      revert own; cases classifyReduction (rise - r.fall) <;> simp [ReductionClass.isSymbol]
    simp only [State.decoderRise, held, is, same, State.dropReduction]
  | long =>
    have is : classifyReduction (rise - r.fall) = .long := by
      revert own; cases classifyReduction (rise - r.fall) <;> simp [ReductionClass.isSymbol]
    simp only [State.decoderRise, held, is, same, State.dropReduction]

theorem State.riseTaken_taken (held : s.line.reduction = some r) (taken : r.role = .taken) (y : Symbol) :
    s.riseTaken y = s.takeSymbol y := by
  simp only [State.riseTaken, held, if_pos taken]

theorem State.riseTaken_other (held : s.line.reduction = some r) (other : r.role ≠ .taken) (y : Symbol) : s.riseTaken y = s := by
  simp only [State.riseTaken, held, if_neg other]

theorem State.settleGlitch_open (open_ : ∀ a ∈ s.line.assembly, a.windowClosed = false) : s.settleGlitch = s := by
  unfold State.settleGlitch
  split
  next a assembled => exact if_neg (by simp [open_ a assembled])
  next => rfl

theorem State.settleGlitch_closed (assembled : s.line.assembly = some a) (closed : a.windowClosed = true) :
    s.settleGlitch = s.breakFrame .missing := by
  simp only [State.settleGlitch, assembled, closed, if_true]

theorem State.takeSymbol_joins (assembled : s.line.assembly = some a) (room : a.symbols.length < 61) {y : Symbol} :
    s.takeSymbol y = { s with line := { s.line with assembly := some { a with symbols := a.symbols ++ [y] } } } := by
  simp only [State.takeSymbol, assembled, if_neg (Nat.not_le.mpr room)]

theorem State.takeSymbol_full (assembled : s.line.assembly = some a) (full : 61 ≤ a.symbols.length) {y : Symbol} :
    s.takeSymbol y = s.breakFrame .tooLong := by
  simp only [State.takeSymbol, assembled, if_pos full]

/-- A reduction already recognised as a MARK, or OVERLONG, ends without more (R147). -/
theorem State.decoderRise_seen {rise : Int} (held : s.line.reduction = some r) (seen : r.markSeen = true)
    (least : 3600000 ≤ rise - r.fall) (most : rise - r.fall ≤ 7000000 ∨ r.overSeen = true) :
    s.decoderRise rise = s.dropReduction := by
  have same := State.markNow_seen held seen
  have notGlitch : ¬ rise - r.fall < 600000 := by omega
  have notShort : ¬ rise - r.fall < 1800000 := by omega
  have notLong : ¬ rise - r.fall < 3600000 := by omega
  by_cases mark : rise - r.fall ≤ 7000000
  · have is : classifyReduction (rise - r.fall) = .mark := by
      rw [classifyReduction_eq, if_neg notGlitch, if_neg notShort, if_neg notLong, if_pos mark]
    simp only [State.decoderRise, held, is, same, State.dropReduction]
  · have is : classifyReduction (rise - r.fall) = .overlong := by
      rw [classifyReduction_eq, if_neg notGlitch, if_neg notShort, if_neg notLong, if_neg mark]
    have noted : s.overlongNow = s := by
      simp only [State.overlongNow, same, held, most.resolve_left mark, if_true]
    simp only [State.decoderRise, held, is, noted, State.dropReduction]

theorem Keying.filterReady_iff {k : Keying} {b t : Int} (begun : k.levelFrom = some b) :
    k.filterReady t = true ↔ b + 20 ≤ t := by
  simp only [Keying.filterReady, begun, Option.any_some]
  exact decide_eq_true_iff

theorem exec_keyRise {b : Int} (up : s.timer.monitor = .up) (low : s.key.level = some .low) (begun : s.key.levelFrom = some b)
    (ready : b + 20 ≤ now.tick) (live : s.ctl.test.state ≠ .running) :
    exec (.keyRise now) s = .next (s.at now).keyRiseEffect :=
  exec_due (c := .keyRise now) (by
    simp [Instr.due, up, low, (Keying.filterReady_iff begun).mpr ready, State.testRunning_false live])

end

end Sys2Proof.Machine

namespace Sys2Proof.Proofs
open Sys2Proof.Machine

/-- Settles O39: a break at 700 ms by whose MARK it is, and at 1,010 ms by what has yet to settle. -/
theorem framesBreakOverlongOrMissing : Obligations.FramesBreakOverlongOrMissing := by
  unfold Obligations.FramesBreakOverlongOrMissing
  intro broken bad
  refine ⟨fun now s r up live held seen new due => ⟨fun a assembled own => ?_, fun other => ?_⟩,
    fun now s a up live assembling assembled open_ due => ⟨fun r held unsettled inside => ?_, fun settled => ?_⟩⟩
  · have breaks := State.overlongNow_breaks (s := s.at now) held seen new assembled own
    rw [State.breakFrame_live (by exact live)] at breaks
    rw [exec_overlong up held new due, breaks]
    rfl
  · rw [exec_overlong up held new due, State.overlongNow_notes (s := s.at now) held seen new other]
    rfl
  · rw [exec_spacingWindowClose up assembling assembled open_ due,
      State.spacingEffect_waits (s := s.at now) assembled held unsettled inside]
    rfl
  · rw [exec_spacingWindowClose up assembling assembled open_ due,
      State.spacingEffect_breaks (s := s.at now) assembled settled, State.breakFrame_live (by exact live)]
    rfl

/-- Settles O37: the sample by the own second of the fall, and the decoder by the spacing window. -/
theorem fallsSettleAsSecondsAndSamples : Obligations.FallsSettleAsSecondsAndSamples := by
  refine ⟨?_, ?_⟩
  · intro now s r up held unsettled due live
    refine ⟨_, exec_fallSettled up held unsettled due, ?_⟩
    generalize sampled : (s.at now).sampleLine r.fall = u
    have heldU : u.line.reduction = some r := by rw [← sampled]; simpa using held
    have liveU : u.ctl.test.state ≠ .running := by rw [← sampled]; simpa using live
    have maintU : u.maint = s.maint := by simp [← sampled]
    have assemblyU : u.line.assembly = s.line.assembly := by simp [← sampled]
    have decoderU : u.line.decoder = s.line.decoder := by simp [← sampled]
    intro role breaks
    have breaking {reason : BreakReason} (is : u.decodeFall r.fall = (u.breakFrame reason).setRole .hunted) : breaks reason := by
      have heldBroken : (u.breakFrame reason).line.reduction = some r := by rw [State.breakFrame_live liveU]; exact heldU
      rw [State.setRole_eq heldBroken, State.breakFrame_live liveU] at is
      simp only [breaks, role, is]
      exact ⟨trivial, rfl, rfl, rfl, rfl, rfl, by rw [maintU]; rfl⟩
    refine ⟨fun a assembling assembled => ⟨fun early => ?_, fun late => ?_, fun least most => ?_⟩, fun hunting => ?_, ?_⟩
    · exact breaking (State.decodeFall_early (decoderU.trans assembling) (assemblyU.trans assembled) early)
    · exact breaking (State.decodeFall_late (decoderU.trans assembling) (assemblyU.trans assembled) late)
    · simp only [role]
      rw [State.decodeFall_inside heldU (decoderU.trans assembling) (assemblyU.trans assembled) least most]
      exact ⟨rfl, decoderU.trans assembling, maintU, rfl⟩
    · simp only [role]
      rw [State.decodeFall_hunting (decoderU.trans hunting), State.setRole_eq heldU]
      exact ⟨rfl, decoderU.trans hunting, assemblyU, maintU⟩
    · simp [← sampled]
  · intro now s r t0 up held unsettled due own
    refine ⟨_, exec_fallSettled up held unsettled due, ?_⟩
    intro e watches first
    simp only [State.decodeFall_sampled, State.decodeFall_frame]
    by_cases isFirst : first
    · obtain ⟨sampled, within, without⟩ := State.sampleLine_first (s := s.at now) isFirst.1 own isFirst.2
      exact ⟨fun _ => sampled, fun _ => within, fun none => without (fun all => none ⟨isFirst, all⟩),
        fun notFirst => absurd isFirst notFirst⟩
    · have same := State.sampleLine_later (s := s.at now) own isFirst
      rw [same]
      exact ⟨fun h => absurd h isFirst, fun h => absurd h isFirst, fun _ => rfl, fun _ => rfl⟩

/-- Settles O36: the reduction's class at its rise, and what the decoder had made of it. -/
theorem risesTakeTheSymbol : Obligations.RisesTakeTheSymbol := by
  intro now s r b up low begun ready live held
  refine ⟨_, exec_keyRise up low begun ready live, ?_⟩
  generalize risen : ({ s.at now with key := s.key.addEdge { tick := now.tick, level := .high } } : State) = u
  have effect : (s.at now).keyRiseEffect = u.decoderRise now.tick := by rw [← risen]; rfl
  have heldU : u.line.reduction = some r := by rw [← risen]; exact held
  have liveU : u.ctl.test.state ≠ .running := by rw [← risen]; exact live
  rw [effect]
  refine ⟨State.decoderRise_none heldU, ?_⟩
  intro d leaves rest breaks
  have drops (is : u.decoderRise now.tick = u.dropReduction) : leaves rest s.maint.counters := by
    simp only [leaves, is]
    subst risen
    exact ⟨rfl, rfl, rfl, rfl, rfl, rfl, rfl, rfl, rfl⟩
  have breaking {reason : BreakReason} (is : u.decoderRise now.tick = (u.breakFrame reason).dropReduction) : breaks reason := by
    rw [State.breakFrame_live liveU] at is
    simp only [breaks, leaves, is]
    subst risen
    exact ⟨rfl, rfl, rfl, rfl, rfl, rfl, rfl, rfl, rfl⟩
  have assemblyU : u.line.assembly = s.line.assembly := by subst risen; rfl
  refine ⟨fun short open_ => drops ?_, fun a short assembled closed => breaking ?_, fun a y taken assembled noMark length => ?_,
    fun other least most => drops ?_, fun seen least most => drops (State.decoderRise_seen heldU seen least most)⟩
  · rw [State.decoderRise_glitch heldU short, State.settleGlitch_open (by rwa [assemblyU])]
  · rw [State.decoderRise_glitch heldU short, State.settleGlitch_closed (assemblyU.trans assembled) closed]
  · have is := State.decoderRise_settled heldU (by simp [taken]) noMark length
    rw [State.riseTaken_taken heldU taken] at is
    refine ⟨fun room => ?_, fun full => breaking ?_⟩
    · rw [State.takeSymbol_joins (assemblyU.trans assembled) room] at is
      simp only [leaves, is]
      subst risen
      exact ⟨rfl, rfl, rfl, rfl, rfl, rfl, rfl, rfl, rfl⟩
    · rw [is, State.takeSymbol_full (assemblyU.trans assembled) full]
  · have notTaken : r.role ≠ .taken ∧ r.role ≠ .unsettled := by
      obtain is | is := other <;> simp [is]
    obtain ⟨y, noMark, length⟩ : ∃ y : Symbol, y ≠ .mark ∧ lengthIs y d := by
      by_cases short : d < 1800000
      · exact ⟨.short, by decide, least, short⟩
      · exact ⟨.long, by decide, by omega, most⟩
    rw [State.decoderRise_settled heldU notTaken.2 noMark length, State.riseTaken_other heldU notTaken.1]

end Sys2Proof.Proofs
end

section
/-! PROOFS. What a line frame's delivery leaves of the decoder and of the counts, and the MARKs that start and close frames (O38). -/

namespace Sys2Proof.Machine

section
variable {s : State}

/-! ## The counts of offers -/

/-- The counters without those that an offer bumps (R62, R64, R65). -/
def Counters.besidesOffers (c : Counters) : Counters := { c with schedDrops := 0, leapRefused := 0 }

@[simp] theorem State.refuseOffer_counts (o : Offer) (s : State) :
    (s.refuseOffer o).maint.counters.besidesOffers = s.maint.counters.besidesOffers := by
  unfold State.refuseOffer
  split <;> rfl

@[simp] theorem State.schedFull_counts (s : State) :
    s.schedFull.maint.counters.besidesOffers = s.maint.counters.besidesOffers := rfl

@[simp] theorem State.insertOffer_counts (o : Offer) (s : State) :
    (s.insertOffer o).maint.counters.besidesOffers = s.maint.counters.besidesOffers := by
  unfold State.insertOffer
  repeat' split
  all_goals simp

@[simp] theorem State.placeOffer_counts (o : Offer) (s : State) :
    (s.placeOffer o).maint.counters.besidesOffers = s.maint.counters.besidesOffers := by
  unfold State.placeOffer
  repeat' split
  all_goals simp
  rfl

@[simp] theorem State.offer_counts (o : Offer) (s : State) :
    (s.offer o).maint.counters.besidesOffers = s.maint.counters.besidesOffers := by
  unfold State.offer
  repeat' split
  all_goals simp

theorem State.offers_counts (os : List Offer) (s : State) :
    (os.foldl (fun acc o => acc.offer o) s).maint.counters.besidesOffers = s.maint.counters.besidesOffers := by
  induction os generalizing s with
  | nil => rfl
  | cons o rest ih => rw [List.foldl_cons, ih, State.offer_counts]

@[simp] theorem State.expandRules_counts (s : State) :
    s.expandRules.maint.counters.besidesOffers = s.maint.counters.besidesOffers := by
  unfold State.expandRules
  split
  · exact State.offers_counts _ _
  · rfl

@[simp] theorem State.setTime_counts (n : Int) (origin : Origin) (s : State) :
    (s.setTime n origin).maint.counters.besidesOffers = s.maint.counters.besidesOffers := by
  simp [State.setTime]

@[simp] theorem State.shiftCount_counts (d : Int) (s : State) :
    (s.shiftCount d).maint.counters.besidesOffers = s.maint.counters.besidesOffers := by
  unfold State.shiftCount
  split <;> simp

@[simp] theorem State.resetApplied_counts (s : State) :
    s.resetApplied.maint.counters.besidesOffers = s.maint.counters.besidesOffers := by
  unfold State.resetApplied
  dsimp only
  split <;> simp

@[simp] theorem State.applyCountReset_counts (d : Int) (s : State) :
    (s.applyCountReset d).maint.counters.besidesOffers = s.maint.counters.besidesOffers := by
  unfold State.applyCountReset
  split <;> simp

@[simp] theorem State.handWhileUnset_counts (h : HandedCount) (s : State) :
    (s.handWhileUnset h).1.maint.counters.besidesOffers = s.maint.counters.besidesOffers := by
  unfold State.handWhileUnset
  repeat' split
  all_goals simp

@[simp] theorem State.takeAdoption_counts (f : LineFrame) (p : PastSecond) (since : Nat) (s : State) :
    (s.takeAdoption f p since).1.maint.counters.besidesOffers = s.maint.counters.besidesOffers := by
  unfold State.takeAdoption
  dsimp only
  split
  · rfl
  · split
    · simp
    · exact State.handWhileUnset_counts _ _

@[simp] theorem State.adoptFrame_counts (f : LineFrame) (s : State) :
    (s.adoptFrame f).maint.counters.besidesOffers = s.maint.counters.besidesOffers := by
  unfold State.adoptFrame
  dsimp only
  repeat' split
  all_goals simp

@[simp] theorem State.noticeFrame_counts (f : LineFrame) (s : State) :
    (s.noticeFrame f).maint.counters.besidesOffers = s.maint.counters.besidesOffers := by
  unfold State.noticeFrame
  dsimp only
  repeat' split
  all_goals simp

/-! ## What the decoder holds -/

/-- The decoder's own part of the Line Reader: its state, the frame under assembly and the reduction in progress (R143 to R147). -/
def LineReader.held (l : LineReader) : DecoderState × Option Assembly × Option Reduction := (l.decoder, l.assembly, l.reduction)

theorem LineReader.held_iff {l l' : LineReader} :
    l.held = l'.held ↔ l.decoder = l'.decoder ∧ l.assembly = l'.assembly ∧ l.reduction = l'.reduction := by
  simp [LineReader.held]

@[simp] theorem State.enterSurvey_held (s : State) : s.enterSurvey.line.held = s.line.held := rfl
@[simp] theorem State.enterDeferred_held (s : State) : s.enterDeferred.line.held = s.line.held := rfl
@[simp] theorem State.setPhase_held (phase : SurveyPhase) (s : State) : (s.setPhase phase).line.held = s.line.held := rfl
@[simp] theorem State.emptyNotice_held (s : State) : s.emptyNotice.line.held = s.line.held := rfl
@[simp] theorem State.deferByConflict_held (s : State) : s.deferByConflict.line.held = s.line.held := rfl

@[simp] theorem State.classChanged_held (before : TimeClass) (s : State) : (s.classChanged before).line.held = s.line.held := by
  unfold State.classChanged
  dsimp only
  repeat' split
  all_goals simp

@[simp] theorem State.setTime_held (n : Int) (origin : Origin) (s : State) : (s.setTime n origin).line.held = s.line.held := by
  simp [State.setTime]

/-- A re-set off a self-test leaves the Line Reader alone (R141). -/
theorem State.resetApplied_line (live : s.ctl.test.state ≠ .running) :
    s.resetApplied.line = s.line ∧ s.resetApplied.ctl.test = s.ctl.test := by
  have still := State.testRunning_false live
  have notKeyed : ({ s with time := { s.time with leap60 := false } } : State).testFrameKeyed = false := by
    simp only [State.testFrameKeyed, Bool.and_eq_false_imp]
    exact fun running => absurd (still.symm.trans running) (by decide)
  unfold State.resetApplied
  simp only [notKeyed, Bool.false_eq_true, if_false]
  simp

theorem State.applyCountReset_line (live : s.ctl.test.state ≠ .running) (d : Int) :
    (s.applyCountReset d).line = s.line ∧ (s.applyCountReset d).ctl.test = s.ctl.test := by
  unfold State.applyCountReset
  split
  · exact ⟨rfl, rfl⟩
  · have shifted : (s.shiftCount d).line = s.line ∧ (s.shiftCount d).ctl.test = s.ctl.test := by simp
    obtain ⟨line, test⟩ := State.resetApplied_line (s := s.shiftCount d) (by rw [shifted.2]; exact live)
    exact ⟨line.trans shifted.1, test.trans shifted.2⟩

@[simp] theorem State.handWhileUnset_held (h : HandedCount) (s : State) :
    (s.handWhileUnset h).1.line.held = s.line.held := by
  unfold State.handWhileUnset
  repeat' split
  all_goals simp

theorem State.takeAdoption_held (live : s.ctl.test.state ≠ .running) (f : LineFrame) (p : PastSecond) (since : Nat) :
    (s.takeAdoption f p since).1.line.held = s.line.held := by
  unfold State.takeAdoption
  dsimp only
  split
  · rfl
  · split
    · dsimp only
      rw [(State.applyCountReset_line (by exact live) _).1]
      rfl
    · exact State.handWhileUnset_held _ _

theorem State.adoptFrame_held (live : s.ctl.test.state ≠ .running) (f : LineFrame) :
    (s.adoptFrame f).line.held = s.line.held := by
  unfold State.adoptFrame
  dsimp only
  split
  · split
    next p since _ =>
      split
      · exact (State.takeAdoption_held live f p since)
      · rfl
    next => rfl
  · rfl

@[simp] theorem State.actOnComparison_held (f : LineFrame) (result : Comparison) (s : State) :
    (s.actOnComparison f result).line.held = s.line.held := by
  unfold State.actOnComparison
  dsimp only
  repeat' split
  all_goals rfl

@[simp] theorem State.handFrame_held (f : LineFrame) (s : State) : (s.handFrame f).line.held = s.line.held := by
  unfold State.handFrame
  split
  · simp
  · rfl

@[simp] theorem State.noticeFrame_held (f : LineFrame) (s : State) : (s.noticeFrame f).line.held = s.line.held := by
  unfold State.noticeFrame
  dsimp only
  repeat' split
  all_goals simp
  all_goals rfl

/-! ## MARKs -/

/-- The reduction in progress noted as a MARK (R147). -/
def State.noteMark (r : Reduction) (s : State) : State :=
  { s with line := { s.line with reduction := some { r with markSeen := true } } }

section
variable {r : Reduction} {a : Assembly} {now : Instant}

theorem exec_markRecognised (up : s.timer.monitor = .up) (held : s.line.reduction = some r) (new : r.markSeen = false)
    (due : r.fall + 3600000 = now.tick) : exec (.markRecognised now) s = .next (s.at now).recogniseMark :=
  exec_due (c := .markRecognised now) (by simp [Instr.due, up, held, new, ← due, Config.markFrom])

theorem State.recogniseMark_hunted (held : s.line.reduction = some r) (hunted : r.role = .hunted) :
    s.recogniseMark = (s.noteMark r).startFrame r.fall := by
  simp only [State.recogniseMark, State.noteMark, State.settleNow_settled held (by simp [hunted]), held, hunted]

theorem State.recogniseMark_taken (held : s.line.reduction = some r) (taken : r.role = .taken) (assembled : s.line.assembly = some a) :
    s.recogniseMark = ((s.noteMark r).startFrame r.fall).closeFrame a (a.falls.drop 1) := by
  simp only [State.recogniseMark, State.noteMark, State.settleNow_settled held (by simp [taken]), held, taken, assembled]

theorem State.recogniseMark_passed (held : s.line.reduction = some r) (passed : r.role = .passed) :
    s.recogniseMark = s.noteMark r := by
  simp only [State.recogniseMark, State.noteMark, State.settleNow_settled held (by simp [passed]), held, passed]

/-- A closed frame on KEY that fails a check (R149). -/
theorem State.closeFrame_bad (live : s.ctl.test.state ≠ .running) {reason : BreakReason} (fault : frameFault a.symbols = some reason)
    (falls : List Int) : s.closeFrame a falls = s.badFrame reason := by
  simp only [State.closeFrame, State.testRunning_false live, fault, Bool.false_eq_true, if_false]

/-- The state in which a valid line frame is delivered: counted, and the last decoded one (R149, R150). -/
def State.countFrame (f : LineFrame) (s : State) : State :=
  { s with line := { s.line with last := some f }, maint := { s.maint with counters := s.maint.counters.addLineFrameGood } }

theorem State.closeFrame_good (live : s.ctl.test.state ≠ .running) (valid : frameFault a.symbols = none) (falls : List Int) :
    s.closeFrame a falls = (s.countFrame (s.lineRecord a falls)).deliverFrame (s.lineRecord a falls) := by
  simp only [State.closeFrame, State.testRunning_false live, valid, Bool.false_eq_true, if_false]
  rfl

theorem State.deliverFrame_mixed {f : LineFrame} (mixed : f.mixed = true) : s.deliverFrame f = s.emptyNotice := if_pos mixed

theorem State.deliverFrame_adopts {f : LineFrame} (own : f.mixed = false) (adopting : s.ctl.standing = .survey .adopting) :
    s.deliverFrame f = (s.adoptFrame f).noticeFrame f := by
  simp [State.deliverFrame, own, State.leave, adopting]

theorem State.deliverFrame_hands {f : LineFrame} (own : f.mixed = false) (other : s.ctl.standing ≠ .survey .adopting) :
    s.deliverFrame f = (s.handFrame f).noticeFrame f := by
  simp [State.deliverFrame, own, State.leave, other]

theorem State.deliverFrame_held (live : s.ctl.test.state ≠ .running) (f : LineFrame) :
    (s.deliverFrame f).line.held = s.line.held := by
  unfold State.deliverFrame
  split
  · rfl
  · rw [State.noticeFrame_held]
    split
    · exact State.adoptFrame_held live f
    · exact State.handFrame_held f s

theorem State.deliverFrame_counts (f : LineFrame) (s : State) :
    (s.deliverFrame f).maint.counters.besidesOffers = s.maint.counters.besidesOffers := by
  unfold State.deliverFrame
  split
  · rfl
  · rw [State.noticeFrame_counts]
    split
    · exact State.adoptFrame_counts f s
    · simp

/-- A line frame is mixed when the keyer keyed one of its seconds (R150). -/
theorem State.lineRecord_mixed (a : Assembly) (falls : List Int) (s : State) :
    (s.lineRecord a falls).mixed = true ↔ ∃ fall ∈ falls, ∃ t0, s.secondOf fall = some t0 ∧ s.keyedAt t0 = true := by
  simp only [State.lineRecord, List.any_eq_true]
  refine exists_congr (fun fall => and_congr_right (fun _ => ?_))
  cases s.secondOf fall <;> simp

end

end

end Sys2Proof.Machine

namespace Sys2Proof.Proofs
open Sys2Proof.Machine

/-- Settles O38: a MARK's role, and for a closed frame its checks and its delivery. -/
theorem marksStartAndCloseFrames : Obligations.MarksStartAndCloseFrames := by
  intro now s r up live held new due
  refine ⟨_, exec_markRecognised up held new due, ?_⟩
  have heldAt : (s.at now).line.reduction = some r := held
  intro started c
  refine ⟨fun hunted => ?_, fun a taken assembled => ?_, fun passed => ?_⟩
  · simp only [started]
    rw [State.recogniseMark_hunted heldAt hunted]
    exact ⟨⟨rfl, rfl, rfl⟩, rfl, rfl, rfl⟩
  · simp only [started]
    rw [State.recogniseMark_taken heldAt taken (by exact assembled)]
    generalize marked : ((s.at now).noteMark r).startFrame r.fall = u
    have liveU : u.ctl.test.state ≠ .running := by subst marked; exact live
    cases fault : frameFault a.symbols with
    | some reason =>
      rw [State.closeFrame_bad liveU fault]
      subst marked
      refine ⟨⟨rfl, rfl, rfl⟩, ?_, nofun⟩
      rintro x ⟨⟩
      exact ⟨rfl, rfl, rfl, rfl, rfl, rfl, rfl⟩
    | none =>
      rw [State.closeFrame_good liveU fault]
      generalize record : u.lineRecord a (a.falls.drop 1) = f
      generalize delivered : (u.countFrame f).deliverFrame f = t
      have liveC : (u.countFrame f).ctl.test.state ≠ .running := liveU
      have stands : t.line.held = (u.countFrame f).line.held := by rw [← delivered]; exact State.deliverFrame_held liveC f
      obtain ⟨decoder, assembly, reduction⟩ := LineReader.held_iff.mp stands
      have counts : t.maint.counters.besidesOffers = (u.countFrame f).maint.counters.besidesOffers := by
        rw [← delivered]; exact State.deliverFrame_counts f _
      have last : t.line.last = some f := by rw [← delivered, (State.deliverFrame_frame f _).2.2.2.2.2.2.2.2.2.2.2.2.2.2.1]; rfl
      have lastBreak : t.line.lastBreak = s.line.lastBreak := by
        rw [← delivered]; subst marked; simp [State.countFrame, State.noteMark]
      have state : u.countFrame f = { s with
          tick := now.tick, clk := now.clk
          line := { s.line with
            decoder := .assembling, assembly := t.line.assembly, reduction := t.line.reduction, last := some f }
          maint := { s.maint with counters := { c with
            lineFramesGood := if c.lineFramesGood < 9999 then c.lineFramesGood + 1 else 0 } } } := by
        rw [assembly, reduction]
        subst marked
        rfl
      have fields : f.n0 = lineN0 a.symbols ∧ f.symbols = a.symbols ∧ f.markFall = a.markFall := by
        rw [← record]; exact ⟨rfl, rfl, rfl⟩
      obtain ⟨n0, symbols, markFall⟩ := fields
      refine ⟨?_, nofun, fun _ => ⟨f, last, n0, symbols, markFall, fun t0 own => ?_, lastBreak, ?_, ?_, ?_, u.countFrame f, state, ?_⟩⟩
      · rw [decoder, assembly, reduction]
        subst marked
        exact ⟨rfl, rfl, rfl⟩
      · subst marked
        have same : f.markTicks = a.markFall - (s.secondOf a.markFall).getD a.markFall := by rw [← record]; rfl
        rw [same, own]; rfl
      · have good := congrArg Counters.lineFramesGood counts
        subst marked
        exact good
      · have bad := congrArg Counters.lineFramesBad counts
        subst marked
        exact bad
      · subst marked
        rw [← record]
        exact State.lineRecord_mixed a (a.falls.drop 1) _
      · have standing : (u.countFrame f).ctl.standing = s.ctl.standing := by subst marked; rfl
        rw [← delivered]
        exact ⟨fun mixed => State.deliverFrame_mixed mixed,
          fun own adopting => State.deliverFrame_adopts own (standing.trans adopting),
          fun own other => State.deliverFrame_hands own (by rw [standing]; exact other)⟩
  · rw [State.recogniseMark_passed heldAt passed]
    rfl

end Sys2Proof.Proofs
end

section
/-! PROOFS. Adoption (O41). -/

namespace Sys2Proof.Machine

section
variable {s : State} {d n : Int}

/-! ## Count differences taken at once -/

theorem State.applyCountReset_zero (s : State) : s.applyCountReset 0 = s := if_pos (.inl rfl)

theorem State.shiftsTo_outside (set : s.time.n = some n) (outside : n + d < 0 ∨ 3155759999 < n + d) : s.shiftsTo d = none := by
  have no : countInRange (n + d) = false := by
    rw [← Bool.not_eq_true, countInRange_iff, Config.lastCount]; omega
  simp only [State.shiftsTo, set, no, Bool.false_eq_true, if_false]

theorem State.shiftsTo_inside (set : s.time.n = some n) (least : 0 ≤ n + d) (most : n + d ≤ 3155759999) :
    s.shiftsTo d = some (n + d) := by
  have yes : countInRange (n + d) = true := countInRange_iff.mpr ⟨least, most⟩
  simp only [State.shiftsTo, set, yes, if_true]

theorem State.applyCountReset_outside (set : s.time.n = some n) (outside : n + d < 0 ∨ 3155759999 < n + d) :
    s.applyCountReset d = s := if_pos (.inr (State.shiftsTo_outside set outside))

/-- A count difference taken into N, with the catch-up build and the floor at its frame (R52, R82, R125). -/
theorem State.applyCountReset_inside (set : s.time.n = some n) (some_ : d ≠ 0) (least : 0 ≤ n + d) (most : n + d ≤ 3155759999)
    (loaded : s.ctl.standing ≠ .loading) :
    (s.applyCountReset d).time.n = some (n + d) ∧ (s.applyCountReset d).time.leap60 = false ∧
      ∃ g, (s.applyCountReset d).frames.current = some g ∧ g.kind = .catchUp ∧ (s.applyCountReset d).ctl.floor = some g.n0 := by
  have shifts := State.shiftsTo_inside set least most
  have applied : s.applyCountReset d = (s.shiftCount d).resetApplied := if_neg (by simp [some_, shifts])
  have shifted : (s.shiftCount d).time.n = some (n + d) := by rw [State.shiftCount_time shifts]
  obtain ⟨⟨g, current, -, kind⟩, h, current', floor⟩ := State.resetApplied_caughtUp shifted (by simpa using loaded)
  obtain rfl := Option.some.inj (current.symm.trans current')
  rw [applied]
  exact ⟨by simpa using shifted, by simp, g, current, kind, floor⟩

/-! ## Adoption -/

theorem State.adoptFrame_candidate {f : LineFrame} (other : s.line.candidate ≠ some (f.n0 - 60) ∨ f.symbols.length ≠ 60) :
    s.adoptFrame f = { s with line := { s.line with candidate := some f.n0 } } :=
  if_neg (fun follows => other.elim (fun h => h follows.1) (fun h => h follows.2))

/-- An adoption that is taken: the step held and the phase CONFIRMING (R155). -/
theorem State.adoptFrame_taken {f : LineFrame} {p : PastSecond} {since : Nat} {t0 : Int} (follows : s.line.candidate = some (f.n0 - 60))
    (whole : f.symbols.length = 60) (own : s.secondOf f.markFall = some t0) (past : pastAt t0 s.timer.past 0 = some (p, since))
    (taken : (s.takeAdoption f p since).2 = true) :
    s.adoptFrame f = (((s.takeAdoption f p since).1).holdStep (f.markFall - p.t0)).setPhase .confirming := by
  rw [State.adoptFrame, if_pos ⟨follows, whole⟩, own]
  simp only [Option.bind_some, past, taken, if_true]

theorem State.takeAdoption_unset {f : LineFrame} {p : PastSecond} {since : Nat} (free : s.ref.state ≠ .locked)
    (unset : s.time.n = none) (least : 0 ≤ f.n0) (most : f.n0 + since ≤ 3155759999) :
    s.takeAdoption f p since = (s.setTime (f.n0 + since) .line, true) := by
  have count : countInRange f.n0 = true := countInRange_iff.mpr ⟨least, by rw [Config.lastCount]; omega⟩
  have moved : countInRange (f.n0 + since) = true := countInRange_iff.mpr ⟨by omega, by rw [Config.lastCount]; omega⟩
  simp [State.takeAdoption, free, count, State.timeSet, unset, State.handWhileUnset, moved]

theorem State.takeAdoption_set {f : LineFrame} {p : PastSecond} {since : Nat} {own : Int} (free : s.ref.state ≠ .locked)
    (set : s.time.n = some n) (least : 0 ≤ f.n0) (most : f.n0 + since ≤ 3155759999) (past : 0 < since)
    (held : (s.timer.past[since]?).bind (fun q => q.count) = some own) :
    s.takeAdoption f p since = (((s.setOrigin .line).dropPendingReset).applyCountReset (f.n0 - own), true) := by
  have count : countInRange f.n0 = true := countInRange_iff.mpr ⟨least, by rw [Config.lastCount]; omega⟩
  obtain ⟨k, rfl⟩ : ∃ k, since = k + 1 := ⟨since - 1, by omega⟩
  have ownCount : s.ownCountFor { count := f.n0, origin := .line, epoch := p.epoch, since := some (k + 1) } = some own := by
    simp only [State.ownCountFor, held]
  simp [State.takeAdoption, free, count, State.timeSet, set, ownCount]

end

end Sys2Proof.Machine

namespace Sys2Proof.Proofs
open Sys2Proof.Machine

/-- Settles O41: the candidate's test, and the adoption while UNSET and while SET. -/
theorem twoFramesInARowAreAdopted : Obligations.TwoFramesInARowAreAdopted := by
  intro f s
  refine ⟨State.adoptFrame_candidate, ?_⟩
  intro p since follows whole own past free least most adopting t adopted
  refine ⟨fun unset => ?_, fun n count set later held => ?_⟩
  · have takes := State.takeAdoption_unset (p := p) free unset least most
    have reached : t = ((s.setTime (f.n0 + since) .line).holdStep (f.markFall - p.t0)).setPhase .confirming := by
      have taken := State.adoptFrame_taken follows whole own past (by rw [takes])
      rw [takes] at taken
      exact taken
    have time := State.setTime_time (f.n0 + since) .line s
    simp only [adopted, reached]
    have origin : (s.setTime (f.n0 + since) .line).time.origin = some .line := by rw [time]
    have age : (s.setTime (f.n0 + since) .line).time.age = none := by rw [time]; rfl
    have counted : (s.setTime (f.n0 + since) .line).time.n = some (f.n0 + since) := by rw [time]
    have ref : (s.setTime (f.n0 + since) .line).ref = s.ref := by simp
    exact ⟨⟨rfl, rfl, origin, age, rfl, ref⟩, counted⟩
  · have takes := State.takeAdoption_set (p := p) free set least most later held
    generalize before : (s.setOrigin .line).dropPendingReset = u at takes
    have reached : t = ((u.applyCountReset (f.n0 - count)).holdStep (f.markFall - p.t0)).setPhase .confirming := by
      have taken := State.adoptFrame_taken follows whole own past (by rw [takes])
      rw [takes] at taken
      exact taken
    have setU : u.time.n = some n := by rw [← before]; exact set
    have loadedU : u.ctl.standing ≠ .loading := by
      rw [← before]
      exact fun loading => absurd (adopting.symm.trans loading) (by simp)
    have origin : (u.applyCountReset (f.n0 - count)).time.origin = some .line := by rw [(State.applyCountReset_frame _ u).2.2.2.2.2.2.2.2.1, ← before]; rfl
    have age : (u.applyCountReset (f.n0 - count)).time.age = none := by simp [← before, State.setOrigin, State.dropPendingReset]
    have reset : (u.applyCountReset (f.n0 - count)).time.pendingReset = none := by simp [← before, State.dropPendingReset]
    have ref : (u.applyCountReset (f.n0 - count)).ref = s.ref := by simp [← before, State.setOrigin, State.dropPendingReset]
    simp only [adopted, reached]
    refine ⟨⟨rfl, rfl, origin, age, rfl, ref⟩, reset, fun same => ?_, fun outside => ?_, fun other inLeast inMost => ?_⟩
    · have zero : f.n0 - count = 0 := by omega
      rw [zero, State.applyCountReset_zero, ← before]
      exact ⟨set, rfl, rfl⟩
    · rw [State.applyCountReset_outside setU outside]
      exact setU
    · exact State.applyCountReset_inside setU (by omega) inLeast inMost loadedU

end Sys2Proof.Proofs
end

section
/-! PROOFS. The edge filter (O35). -/

namespace Sys2Proof.Machine

section
variable {s : State} {now : Instant} {l : Level}

/-- A command that is not due changes nothing. -/
theorem exec_idle {c : Instr} (idle : Instr.due c s = false) : exec c s = .next s := by
  rw [exec_onEvent, idle]; rfl

/-! ## Samples -/

/-- A sample at which the run has lasted 20 ticks counts what the filter makes of the run (R94). -/
theorem State.sampleKey_counts {r : KeyRun} (up : s.timer.monitor = .up) (live : s.testRunning = false) (run : s.key.run = some r)
    (lasted : r.first.tick + 20 = now.tick) :
    s.sampleKey now l =
      { s with
        key := { s.key with run := some (KeyRun.next now l (some r)) }
        pending := (filterEvent now r s.key.level).elim s.pending (fun c => placeByTick c s.pending) } := by
  have held : (some r).filter (fun r => decide (r.first.tick + Config.filterTicks = now.tick)) = some r := by
    rw [Option.filter_some]
    exact if_pos (decide_eq_true lasted)
  simp only [State.sampleKey, if_pos (And.intro up live), run, held, Option.bind_some]

/-- A sample while the monitor is DOWN or a self-test runs is none (R94, R139). -/
theorem State.sampleKey_idle (idle : s.timer.monitor = .down ∨ s.ctl.test.state = .running) : s.sampleKey now l = s := by
  refine if_neg (fun ⟨up, live⟩ => ?_)
  obtain down | running := idle
  · exact absurd (up.symm.trans down) (by decide)
  · simp [State.testRunning, running] at live

theorem KeyRun.next_same (first : Instant) : KeyRun.next now l (some { level := l, first := first }) = { level := l, first := first } :=
  if_pos rfl

theorem KeyRun.next_other {other : Level} (differs : other ≠ l) (first : Instant) :
    KeyRun.next now other (some { level := l, first := first }) = { level := other, first := now } :=
  if_neg (fun same => differs same.symm)

/-- A command joins the waiting ones before those of its tick and later ticks. -/
theorem placeByTick_between (c : Instr) {before after : List Instr} (earlier : ∀ d ∈ before, d.now.tick < c.now.tick)
    (later : ∀ d ∈ after.head?, c.now.tick ≤ d.now.tick) : placeByTick c (before ++ after) = before ++ c :: after := by
  induction before with
  | nil =>
    cases after with
    | nil => rfl
    | cons d rest => exact if_pos (later d rfl)
  | cons d rest ih =>
    obtain ⟨first, others⟩ := List.forall_mem_cons.mp earlier
    rw [List.cons_append, placeByTick, if_neg (by omega), ih others]
    rfl

/-! ## What is not taken -/

theorem Keying.filterReady_young {k : Keying} {t : Int} (young : ∀ b ∈ k.levelFrom, t < b + 20) : k.filterReady t = false := by
  cases from_ : k.levelFrom with
  | none => simp [Keying.filterReady, from_]
  | some b =>
    have tooSoon := young b from_
    rw [← Bool.not_eq_true, Keying.filterReady_iff from_]
    omega

/-- Edge commands before the filter is ready, or in a self-test, change nothing (R94, R139). -/
theorem exec_edges_idle (idle : s.key.filterReady now.tick = false ∨ s.testRunning = true) :
    exec (.filterFirstLevel now l) s = .next s ∧ exec (.keyFall now) s = .next s ∧ exec (.keyRise now) s = .next s := by
  obtain notReady | running := idle
  · exact ⟨exec_idle (by simp [Instr.due, notReady]), exec_idle (by simp [Instr.due, notReady]),
      exec_idle (by simp [Instr.due, notReady])⟩
  · exact ⟨exec_idle (by simp [Instr.due, running]), exec_idle (by simp [Instr.due, running]),
      exec_idle (by simp [Instr.due, running])⟩

/-! ## What is taken -/

theorem exec_filterFirstLevel {b : Int} (up : s.timer.monitor = .up) (none : s.key.level = none) (begun : s.key.levelFrom = some b)
    (ready : b + 20 ≤ now.tick) (live : s.ctl.test.state ≠ .running) :
    exec (.filterFirstLevel now l) s = .next ((s.at now).firstLevelEffect l) :=
  exec_due (c := .filterFirstLevel now l) (by
    simp [Instr.due, up, none, (Keying.filterReady_iff begun).mpr ready, State.testRunning_false live])

theorem exec_keyFall {b : Int} (up : s.timer.monitor = .up) (high : s.key.level = some .high) (begun : s.key.levelFrom = some b)
    (ready : b + 20 ≤ now.tick) (live : s.ctl.test.state ≠ .running) :
    exec (.keyFall now) s = .next (s.at now).keyFallEffect :=
  exec_due (c := .keyFall now) (by
    simp [Instr.due, up, high, (Keying.filterReady_iff begun).mpr ready, State.testRunning_false live])

/-- A fall becomes the reduction in progress, unless the decoder is IDLE (R143, R144). -/
theorem State.decoderFall_eq (fall : Int) (s : State) :
    s.decoderFall fall = { s with line :=
      if s.line.decoder = .idle then s.line
      else { s.line with reduction := some { fall := fall, role := .unsettled, markSeen := false, overSeen := false } } } := by
  unfold State.decoderFall
  split <;> rfl

/-- The decoder woken by the filter's first level (R143). -/
theorem State.wakeDecoder_level (up : s.timer.monitor = .up) (level : s.key.level.isSome = true) :
    s.wakeDecoder = { s with line :=
      if s.line.decoder = .idle ∧ s.ctl.standing ≠ .loading then { s.line with decoder := .hunting } else s.line } := by
  unfold State.wakeDecoder
  by_cases wakes : s.line.decoder = .idle ∧ s.ctl.standing ≠ .loading
  · rw [if_pos ⟨wakes.1, wakes.2, up, level⟩, if_pos wakes]
  · rw [if_neg (fun all => wakes ⟨all.1, all.2.1⟩), if_neg wakes]

end

end Sys2Proof.Machine

namespace Sys2Proof.Proofs
open Sys2Proof.Machine

/-- The first part of O35: runs of samples. -/
theorem runs_count (moment : Nat → Instant) (l other : Level) (s : State) (up : s.timer.monitor = .up)
    (live : s.ctl.test.state ≠ .running) (differs : other ≠ l)
    (before : ∀ r ∈ s.key.run, r.level = other ∧ r.first.tick + 20 ≠ (moment 0).tick)
    (ticks : ∀ i, (moment i).tick = (moment 0).tick + i) :
    let sampled (n : Nat) : State := (List.range n).foldl (fun u i => u.sampleKey (moment i) l) s
    let runs (r : KeyRun) (waiting : List Instr) : State := { s with key := { s.key with run := some r }, pending := waiting }
    let counts (waiting : List Instr) : Prop :=
      (sampled 20).sampleKey (moment 20) l = runs { level := l, first := moment 0 } waiting ∧
      (sampled 20).sampleKey (moment 20) other = runs { level := other, first := moment 20 } waiting
    (∀ n, 0 < n → n ≤ 20 → sampled n = runs { level := l, first := moment 0 } s.pending) ∧
    (∀ n, 0 < n → n < 20 → (sampled n).sampleKey (moment n) other = runs { level := other, first := moment n } s.pending) ∧
    (s.key.level = none → counts (placeByTick (.filterFirstLevel (moment 20) l) s.pending)) ∧
    (s.key.level = some other → l = .low → counts (placeByTick (.keyFall (moment 0)) s.pending)) ∧
    (s.key.level = some other → l = .high → counts (placeByTick (.keyRise (moment 0)) s.pending)) ∧
    (s.key.level = some l → counts s.pending) := by
  intro sampled runs counts
  have still := State.testRunning_false live
  have ran (n : Nat) (some_ : 0 < n) (most : n ≤ 20) : sampled n = runs { level := l, first := moment 0 } s.pending := by
    obtain ⟨k, rfl⟩ : ∃ k, n = k + 1 := ⟨n - 1, by omega⟩
    exact State.sampleKey_run moment l k up still (fun r held => by rw [(before r held).1]; exact differs)
      (fun r held => (before r held).2) ticks (by omega)
  have counted (waiting : List Instr) (event : (filterEvent (moment 20) { level := l, first := moment 0 } s.key.level).elim s.pending
      (fun c => placeByTick c s.pending) = waiting) : counts waiting := by
    have lasted : (moment 0).tick + 20 = (moment 20).tick := by rw [ticks 20]; rfl
    simp only [counts, ran 20 (by omega) (by omega)]
    have sample (x : Level) := State.sampleKey_counts (s := runs { level := l, first := moment 0 } s.pending) (l := x)
      (now := moment 20) up still rfl lasted
    rw [sample l, sample other, KeyRun.next_same, KeyRun.next_other differs]
    exact ⟨congrArg (runs { level := l, first := moment 0 }) event, congrArg (runs { level := other, first := moment 20 }) event⟩
  refine ⟨ran, fun n some_ most => ?_, fun none => counted _ ?_, fun held low => counted _ ?_, fun held high => counted _ ?_,
    fun held => counted _ ?_⟩
  · rw [ran n some_ (by omega), State.sampleKey_quiet (by exact up) (by exact still), KeyRun.next_other differs]
    rintro r ⟨⟩
    dsimp only
    rw [ticks n, Config.filterTicks]
    omega
  · rw [none]; rfl
  · subst low
    rw [held]
    simp [filterEvent, differs]
  · subst high
    rw [held]
    simp [filterEvent, differs]
  · rw [held]
    simp [filterEvent]

/-- Settles O35: the runs of samples, and each edge command by what makes it due. -/
theorem filterLevelsReachTheUnits : Obligations.FilterLevelsReachTheUnits := by
  refine ⟨fun moment l other s up live differs before ticks => runs_count moment l other s up live differs before ticks,
    fun now l s idle => State.sampleKey_idle idle, ?_, fun c before after earlier later => placeByTick_between c earlier later,
    fun now l s young => exec_edges_idle (.inl (Keying.filterReady_young young)), ?_, ?_, ?_, ?_⟩
  · intro peers s
    cases drive : s.key.drive <;> simp [State.keyOnWire, State.keyPulled, drive]
  · intro now l s b up none begun ready live
    rw [exec_filterFirstLevel up none begun ready live, State.firstLevelEffect, State.wakeDecoder_level (by exact up) rfl]
    rfl
  · intro now s b up high begun ready live
    rw [exec_keyFall up high begun ready live]
    rw [State.keyFallEffect, State.decoderFall_eq]
    rfl
  · intro now s b up low begun ready live none
    rw [exec_keyRise up low begun ready live]
    have still : (s.at now).line.reduction = Option.none := none
    simp only [State.keyRiseEffect, State.decoderRise, still]
    rfl
  · intro now l s running
    exact exec_edges_idle (.inr (by simp [State.testRunning, running]))

end Sys2Proof.Proofs
end

section
/-! PROOFS. The comparison of line frames (O40). -/

namespace Sys2Proof.Machine

section
variable {s : State} {f : LineFrame} {o : Frame}

/-! ## The own frame -/

/-- A rebuild touches the Frame Builder only (R88). -/
theorem State.rebuildStale_eq (s : State) : s.rebuildStale = { s with frames := s.rebuildStale.frames } := by
  unfold State.rebuildStale
  split
  · split <;> rfl
  · rfl

theorem State.rebuildStale_stale {g : Frame} (held : s.frames.next = some g) (stale : g.stale = true) :
    s.rebuildStale.frames = { s.frames with
      next := some (frameFor g.n0 .onTime (buildWord g.n0 s) s), latch := some (buildWord g.n0 s)
      rebuilds := bumpSat s.frames.rebuilds } := by
  simp only [State.rebuildStale, held, stale, if_true, State.buildNext]

/-- A rebuild keeps the start of the next frame (R88). -/
theorem State.rebuildStale_next (n0 : Int) :
    (∃ g, s.rebuildStale.frames.next = some g ∧ g.n0 = n0) ↔ ∃ g, s.frames.next = some g ∧ g.n0 = n0 := by
  unfold State.rebuildStale
  split
  next g held =>
    split
    · simp [State.buildNext, held]
    · simp [held]
  next none => simp [none]

theorem FrameBuilder.holding_current {b : FrameBuilder} (held : b.current = some o) (start : o.n0 = f.n0) :
    b.holding f.n0 = some o := by
  simp [FrameBuilder.holding, held, start]

theorem FrameBuilder.holding_next {b : FrameBuilder} (other : ∀ x ∈ b.current, x.n0 ≠ f.n0) :
    b.holding f.n0 = b.next.filter (fun x => decide (x.n0 = f.n0)) := by
  have none : b.current.filter (fun x => decide (x.n0 = f.n0)) = none := by
    cases held : b.current with
    | none => rfl
    | some x => simp [Option.filter_some, other x held]
  simp [FrameBuilder.holding, none]

/-- What is asked of the Frame Builder for a comparison, and the own frame it gives (R92, R125). -/
def State.asked (f : LineFrame) (s : State) : State × Option Frame :=
  if s.timeSet then s.frameToCompare f.n0 else (s, none)

theorem State.asked_unset (unset : s.time.n = none) : s.asked f = (s, none) := if_neg (by simp [State.timeSet, unset])

theorem State.asked_copy (set : s.time.n.isSome = true) (copy : s.ctl.copy = some o) (start : o.n0 = f.n0) :
    s.asked f = (s, some o) := by
  rw [State.asked, if_pos (by exact set), State.frameToCompare, copy]
  exact if_pos start

theorem State.asked_builder (set : s.time.n.isSome = true) (other : ∀ o ∈ s.ctl.copy, o.n0 ≠ f.n0) :
    s.asked f = (s.rebuildStale, s.rebuildStale.frames.holding f.n0) := by
  rw [State.asked, if_pos (by exact set), State.frameToCompare]
  cases copy : s.ctl.copy with
  | none => rfl
  | some o => exact if_neg (other o copy)

/-- Asking touches the Frame Builder only. -/
theorem State.asked_eq (f : LineFrame) (s : State) : (s.asked f).1 = { s with frames := (s.asked f).1.frames } := by
  by_cases set : s.time.n.isSome = true
  · cases copy : s.ctl.copy with
    | none => rw [State.asked_builder set (by simp [copy])]; exact s.rebuildStale_eq
    | some o =>
      by_cases start : o.n0 = f.n0
      · rw [State.asked_copy set copy start]
      · rw [State.asked_builder set (by simp [copy, start])]; exact s.rebuildStale_eq
  · rw [State.asked_unset (by simpa using set)]

/-! ## The comparison -/

theorem State.driveAhead_congr {u : State} (timer : u.timer = s.timer) (time : u.time = s.time) (schedule : u.schedule = s.schedule)
    (n : Int) : u.driveOfCount n = s.driveOfCount n := by
  simp only [State.driveOfCount, State.driveAhead, State.comingCount, State.secondInserted, timer, time, schedule]

/-- The result of a line frame's comparison (R125). -/
def State.comparison (f : LineFrame) (s : State) : Comparison :=
  (s.asked f).2.elim .noFrame (fun o => compareFrames o f (s.driveOfCount f.n0) s.epochTol)

/-- A result recorded as the last comparison (R125). -/
def State.recordComparison (f : LineFrame) (c : Comparison) (s : State) : State :=
  { s with ctl := { s.ctl with lastComparison := some { n0 := f.n0, result := c } } }

/-- The state after a comparison has been recorded, before it is acted on. -/
def State.compared (f : LineFrame) (s : State) : State :=
  { s with
    frames := (s.asked f).1.frames
    ctl := { s.ctl with lastComparison := some { n0 := f.n0, result := s.comparison f } } }

/-- A comparison asks for the own frame and records its result. -/
theorem State.compareLine_eq (f : LineFrame) (s : State) : s.compareLine f = (s.compared f, s.comparison f) := by
  have shape : s.compareLine f =
      ((s.asked f).1.recordComparison f
          ((s.asked f).2.elim .noFrame (fun o => compareFrames o f ((s.asked f).1.driveOfCount f.n0) (s.asked f).1.epochTol)),
        (s.asked f).2.elim .noFrame (fun o => compareFrames o f ((s.asked f).1.driveOfCount f.n0) (s.asked f).1.epochTol)) := by
    unfold State.compareLine State.asked
    dsimp only
    split
    · cases (s.frameToCompare f.n0).2 <;> rfl
    · rfl
  have drive : (s.asked f).1.driveOfCount f.n0 = s.driveOfCount f.n0 := by
    rw [State.asked_eq]; exact State.driveAhead_congr rfl rfl rfl _
  have tol : (s.asked f).1.epochTol = s.epochTol := by rw [State.asked_eq]; rfl
  rw [shape, drive, tol, State.asked_eq]
  rfl

theorem State.handFrame_compares (watches : s.ctl.standing.surveys = true) (later : ∀ n ∈ s.ctl.floor, n < f.n0) :
    s.handFrame f = (s.compared f).actOnComparison f (s.comparison f) := by
  have past : s.ctl.floor.all (fun n => decide (n < f.n0)) = true := by
    cases floor : s.ctl.floor with
    | none => rfl
    | some n => exact decide_eq_true (later n floor)
  rw [State.handFrame, if_pos ⟨watches, past⟩, State.compareLine_eq]

theorem State.handFrame_passes (idle : s.ctl.standing.surveys = false ∨ ∃ n, s.ctl.floor = some n ∧ f.n0 ≤ n) :
    s.handFrame f = s := by
  refine if_neg (fun ⟨watches, later⟩ => ?_)
  obtain other | ⟨n, floor, early⟩ := idle
  · exact absurd (other.symm.trans watches) (by decide)
  · simp only [floor, Option.all_some, decide_eq_true_eq] at later
    omega

/-! ## What a result does -/

@[simp] theorem State.actOnComparison_records (f : LineFrame) (c : Comparison) (s : State) :
    (s.actOnComparison f c).ctl.lastComparison = s.ctl.lastComparison ∧ (s.actOnComparison f c).frames = s.frames := by
  unfold State.actOnComparison
  dsimp only
  repeat' split
  all_goals exact ⟨rfl, rfl⟩

theorem State.actOnComparison_agree (f : LineFrame) : s.actOnComparison f .agree = s.setJoin true := if_pos rfl

theorem State.actOnComparison_joined {c : Comparison} (differs : c ≠ .agree) (join : s.ctl.pendingJoin = true) :
    s.actOnComparison f c = s.setJoin false := by
  rw [State.actOnComparison, if_neg differs, if_pos join]

/-- A disagreement without a pending join, by the standing (R126, R128, R134). -/
theorem State.actOnComparison_alone {c : Comparison} (differs : c ≠ .agree) (join : s.ctl.pendingJoin = false) :
    (s.ctl.standing = .survey .watching → s.cls = .a → s.actOnComparison f c = s.deferByConflict) ∧
      (s.ctl.standing = .survey .watching → s.cls ≠ .a → s.actOnComparison f c =
        { s.setPhase .adopting with line := { (s.setPhase .adopting).line with candidate := some f.n0 } }) ∧
      (s.ctl.standing = .survey .confirming → s.actOnComparison f c = s.deferByConflict) ∧
      ((s.ctl.standing = .survey .adopting ∨ s.ctl.standing = .deferred) → s.actOnComparison f c = s) := by
  rw [State.actOnComparison, if_neg differs, if_neg (by simp [join])]
  refine ⟨fun watching a => ?_, fun watching other => ?_, fun confirming => ?_, fun still => ?_⟩
  · simp only [watching, if_pos a]
  · simp only [watching, if_neg other]
  · simp only [confirming]
  · obtain is | is := still <;> simp only [is]

theorem State.compared_cls (f : LineFrame) (s : State) : (s.compared f).cls = s.cls := rfl

/-! ## Symbols -/

theorem firstDifference_self (xs : List Symbol) (k : Nat) : firstDifference xs xs k = none := by
  induction xs generalizing k with
  | nil => rfl
  | cons x rest ih => rw [firstDifference, if_pos rfl, ih]

/-- The first index at which two lists differ (R125). -/
theorem firstDifference_eq {xs ys : List Symbol} {i : Nat} (same : ∀ j, j < i → xs[j]? = ys[j]?) (differ : xs[i]? ≠ ys[i]?)
    (k : Nat) : firstDifference xs ys k = some (k + i) := by
  induction i generalizing xs ys k with
  | zero =>
    cases xs with
    | nil =>
      cases ys with
      | nil => exact absurd rfl differ
      | cons y ys => rfl
    | cons x xs =>
      cases ys with
      | nil => rfl
      | cons y ys => exact if_neg (by simpa using differ)
  | succ i ih =>
    have first := same 0 (by omega)
    have rest (j : Nat) (before : j < i) := same (j + 1) (by omega)
    cases xs with
    | nil =>
      cases ys with
      | nil => exact absurd rfl differ
      | cons y ys => simp at first
    | cons x xs =>
      cases ys with
      | nil => simp at first
      | cons y ys =>
        have equal : x = y := by simpa using first
        rw [firstDifference, if_pos equal, ih rest differ]
        congr 1; omega

/-- What a comparison finds first (R125). -/
theorem compareFrames_cases (o : Frame) (f : LineFrame) (t0 : Option Int) (tol : Int) :
    let off := match t0 with
               | some t => f.markFall - t
               | none => f.markTicks
    (o.symbols.length ≠ f.symbols.length → compareFrames o f t0 tol = .length) ∧
      (o.symbols.length = f.symbols.length →
        (∀ i, (∀ j, j < i → o.symbols[j]? = f.symbols[j]?) → o.symbols[i]? ≠ f.symbols[i]? →
          compareFrames o f t0 tol = .symbol i) ∧
        (o.symbols = f.symbols →
          (-tol ≤ off → off ≤ tol → compareFrames o f t0 tol = .agree) ∧
          ((off < -tol ∨ tol < off) → compareFrames o f t0 tol = .markOffset (off.tdiv 10)))) := by
  intro off
  refine ⟨fun length => if_pos length, fun length => ⟨fun i same differ => ?_, fun equal => ⟨fun least most => ?_, fun outside => ?_⟩⟩⟩
  · unfold compareFrames
    rw [if_neg (by simp [length]), firstDifference_eq same differ, Nat.zero_add]
  · have within : ¬ tol < (off.natAbs : Int) := by rw [natAbs_le_iff]; omega
    unfold compareFrames
    rw [if_neg (by simp [length]), equal, firstDifference_self]
    exact if_neg within
  · have beyond : tol < (off.natAbs : Int) := by rw [natAbs_le_iff]; omega
    unfold compareFrames
    rw [if_neg (by simp [length]), equal, firstDifference_self]
    exact if_pos beyond

/-! ## The drive instant of a count -/

section
variable {m n : Int} {p : PastSecond}

theorem State.driveOfCount_held (set : s.time.n = some n) (past : m ≤ n)
    (found : s.timer.past.find? (fun p => p.count == some m) = some p) : s.driveOfCount m = some p.t0 := by
  simp only [State.driveOfCount, set, if_neg (Int.not_lt.mpr past), found]

theorem State.driveOfCount_back (set : s.time.n = some n) (past : m ≤ n) (none : ∀ p ∈ s.timer.past, p.count ≠ some m)
    (back : s.timer.past[(n - m).toNat]? = some p) (unset : p.count = Option.none) : s.driveOfCount m = some p.t0 := by
  have notFound : s.timer.past.find? (fun p => p.count == some m) = Option.none :=
    List.find?_eq_none.mpr (fun p mem => by simpa using none p mem)
  simp only [State.driveOfCount, set, if_neg (Int.not_lt.mpr past), notFound, back]
  simp [Option.filter_some, unset]

theorem State.driveOfCount_ahead {d : Int} (set : s.time.n = some n) (ahead : n < m) (next : s.timer.nextDrive = some d) :
    s.driveOfCount m = some (d + 10000000 * secondsAhead (advanceOf n s.secondInserted s.schedule) s.schedule m) := by
  simp only [State.driveOfCount, set, if_pos ahead, State.driveAhead, next, State.comingCount, Option.map_some]
  rfl

theorem secondsAhead_none {entries : List Entry} (none : committedLeap entries = none) (coming : Int × LeapStep) (m : Int) :
    secondsAhead coming entries m = m - coming.1 := by
  simp only [secondsAhead, none]

theorem secondsAhead_leap {entries : List Entry} {e : Entry} (held : committedLeap entries = some e) (coming : Int × LeapStep) (m : Int) :
    secondsAhead coming entries m =
      if coming.2 = .plain ∧ coming.1 < e.instant ∧ e.instant ≤ m then
        m - coming.1 + (if e.kind = .leapInsert then 1 else -1)
      else m - coming.1 := by
  simp only [secondsAhead, held]

/-- The seconds to a count that a committed insertion stands before (R45). -/
theorem secondsAhead_insert {entries : List Entry} {e : Entry} (held : committedLeap entries = some e) (kind : e.kind = .leapInsert)
    (at_ : e.instant = m) {inserted : Bool} (ahead : n < m) (waits : n + 1 < m ∨ inserted = false) :
    secondsAhead (advanceOf n inserted entries) entries m = m - n := by
  rw [secondsAhead_leap held]
  by_cases next : n + 1 < m
  · rw [advanceOf_early held (.inl ⟨kind, by omega⟩), if_pos ⟨rfl, by rw [at_]; exact next, by omega⟩, if_pos kind]
    omega
  · have now : inserted = false := waits.resolve_left next
    rw [now, advanceOf_insert held kind (by omega)]
    rfl

/-- The seconds to a count that a committed deletion stands before (R46). -/
theorem secondsAhead_delete {entries : List Entry} {e : Entry} (held : committedLeap entries = some e) (kind : e.kind = .leapDelete)
    (at_ : e.instant = m) (inserted : Bool) (ahead : n + 2 ≤ m) :
    secondsAhead (advanceOf n inserted entries) entries m = m - (n + 2) := by
  rw [secondsAhead_leap held]
  by_cases due : e.instant = n + 2
  · rw [advanceOf_delete held kind due]
    rfl
  · rw [advanceOf_early held (.inr ⟨kind, due⟩), if_pos ⟨rfl, by dsimp only; omega, by omega⟩, if_neg (by simp [kind])]
    dsimp only
    omega

end

end

end Sys2Proof.Machine
end

section
/-! PROOFS. O40 from the comparison's parts. -/

namespace Sys2Proof.Machine

section
variable {s : State} {f : LineFrame} {o : Frame}

/-- A frame that the answer of the Frame Builder holds with the start asked for (R92). -/
theorem Option.filter_start {next : Option Frame} {n0 : Int} (held : ∃ g, next = some g ∧ g.n0 = n0) :
    ∃ g, next = some g ∧ g.n0 = n0 ∧ next.filter (fun x => decide (x.n0 = n0)) = some g := by
  obtain ⟨g, rfl, start⟩ := held
  exact ⟨g, rfl, start, by simp [Option.filter_some, start]⟩

theorem State.comparison_own (own : (s.asked f).2 = some o) :
    s.comparison f = compareFrames o f (s.driveOfCount f.n0) s.epochTol := by
  rw [State.comparison, own]; rfl

theorem State.comparison_none (none : (s.asked f).2 = Option.none) : s.comparison f = .noFrame := by
  rw [State.comparison, none]; rfl

/-- The own frame of a comparison, where one is held, and where it stands after asking (R92, R125). -/
theorem State.asked_own (set : s.time.n.isSome = true)
    (held : (∃ o, s.ctl.copy = some o ∧ o.n0 = f.n0) ∨ (∃ o, s.frames.current = some o ∧ o.n0 = f.n0) ∨
      ∃ o, s.frames.next = some o ∧ o.n0 = f.n0) :
    ∃ o, (s.asked f).2 = some o ∧ o.n0 = f.n0 ∧
      ((s.ctl.copy = some o ∧ (s.asked f).1.frames = s.frames) ∨
        ((∀ o ∈ s.ctl.copy, o.n0 ≠ f.n0) ∧ (s.asked f).1.frames.current = some o) ∨
        ((∀ o ∈ s.ctl.copy, o.n0 ≠ f.n0) ∧ (∀ o ∈ s.frames.current, o.n0 ≠ f.n0) ∧ (s.asked f).1.frames.next = some o)) := by
  by_cases inCopy : ∃ o, s.ctl.copy = some o ∧ o.n0 = f.n0
  · obtain ⟨o, copy, start⟩ := inCopy
    rw [State.asked_copy set copy start]
    exact ⟨o, rfl, start, .inl ⟨copy, rfl⟩⟩
  have notCopy : ∀ o ∈ s.ctl.copy, o.n0 ≠ f.n0 := fun o copy start => inCopy ⟨o, copy, start⟩
  rw [State.asked_builder set notCopy]
  have sameCurrent : s.rebuildStale.frames.current = s.frames.current := by simp
  by_cases inCurrent : ∃ o, s.frames.current = some o ∧ o.n0 = f.n0
  · obtain ⟨o, current, start⟩ := inCurrent
    have current' := sameCurrent.trans current
    exact ⟨o, FrameBuilder.holding_current current' start, start, .inr (.inl ⟨notCopy, current'⟩)⟩
  have notCurrent : ∀ o ∈ s.frames.current, o.n0 ≠ f.n0 := fun o current start => inCurrent ⟨o, current, start⟩
  have inNext := (State.rebuildStale_next f.n0).mpr ((held.resolve_left inCopy).resolve_left inCurrent)
  obtain ⟨g, next, start, passes⟩ := Option.filter_start inNext
  refine ⟨g, ?_, start, .inr (.inr ⟨notCopy, notCurrent, next⟩)⟩
  rw [FrameBuilder.holding_next (by rw [sameCurrent]; exact notCurrent)]
  exact passes

theorem State.asked_noFrame (set : s.time.n.isSome = true) (notCopy : ∀ o ∈ s.ctl.copy, o.n0 ≠ f.n0)
    (notCurrent : ∀ o ∈ s.frames.current, o.n0 ≠ f.n0) (notNext : ∀ o ∈ s.frames.next, o.n0 ≠ f.n0) :
    (s.asked f).2 = none := by
  rw [State.asked_builder set notCopy]
  dsimp only
  rw [FrameBuilder.holding_next (by simpa using notCurrent)]
  cases next : s.rebuildStale.frames.next with
  | none => rfl
  | some g =>
    have other : g.n0 ≠ f.n0 := fun start => by
      obtain ⟨g', next', start'⟩ := (State.rebuildStale_next f.n0).mp ⟨g, next, start⟩
      exact notNext g' next' start'
    simp [Option.filter_some, other]

end

end Sys2Proof.Machine

namespace Sys2Proof.Proofs
open Sys2Proof.Machine

/-- The second part of O40: the drive instant of a count. -/
theorem driveOfCount_cases (s : State) (m n : Int) (set : s.time.n = some n) :
    (m ≤ n → ∀ p, s.timer.past.find? (fun p => p.count == some m) = some p → s.driveOfCount m = some p.t0) ∧
    (m ≤ n → (∀ p ∈ s.timer.past, p.count ≠ some m) → ∀ p, s.timer.past[(n - m).toNat]? = some p → p.count = none →
      s.driveOfCount m = some p.t0) ∧
    (n < m → ∀ d, s.timer.nextDrive = some d →
      (committedLeap s.schedule = none → s.driveOfCount m = some (d + 10000000 * (m - (n + 1)))) ∧
      (∀ e, committedLeap s.schedule = some e → e.kind = .leapInsert → e.instant = m →
        (n + 1 < m ∨ ∀ p ∈ s.timer.past.head?, p.leap ≠ .inserted) → s.driveOfCount m = some (d + 10000000 * (m - n))) ∧
      (∀ e, committedLeap s.schedule = some e → e.kind = .leapDelete → e.instant = m → n + 2 ≤ m →
        s.driveOfCount m = some (d + 10000000 * (m - (n + 2))))) := by
  refine ⟨fun past p found => State.driveOfCount_held set past found,
    fun past none p back unset => State.driveOfCount_back set past none back unset, fun ahead d next => ?_⟩
  rw [State.driveOfCount_ahead set ahead next]
  refine ⟨fun none => ?_, fun e held kind at_ waits => ?_, fun e held kind at_ far => ?_⟩
  · rw [secondsAhead_none none, advanceOf_plain none]
  · have notYet : n + 1 < m ∨ s.secondInserted = false := by
      refine waits.imp_right (fun none => ?_)
      rw [← Bool.not_eq_true, State.secondInserted, Option.any_eq_true]
      rintro ⟨p, head, is⟩
      exact none p head (beq_iff_eq.mp is)
    rw [secondsAhead_insert held kind at_ ahead notYet]
  · rw [secondsAhead_delete held kind at_ _ far]

/-- Settles O40: the own frame asked for, the tests in order, and what the result does by the standing. -/
theorem comparisonsMoveTheStanding : Obligations.ComparisonsMoveTheStanding := by
  refine ⟨?_, driveOfCount_cases, fun f s => ⟨State.handFrame_passes, ?_⟩⟩
  · intro f s watches later t result notCopy notCurrent asked held
    have handed := State.handFrame_compares watches later
    have records : t.ctl.lastComparison = some { n0 := f.n0, result := s.comparison f } := by
      simp only [t, handed, State.actOnComparison_records]; rfl
    have frames : t.frames = (s.asked f).1.frames := by
      simp only [t, handed, State.actOnComparison_records]; rfl
    have results {c : Comparison} (is : s.comparison f = c) : result c := by
      simp only [result]; rw [records, is]
    refine ⟨fun unset => ?_, fun set other => ?_, fun set noCopy noCurrent noNext => ?_, fun set one => ?_⟩
    · have none := State.asked_unset (f := f) unset
      exact ⟨results (State.comparison_none (by rw [none])), by rw [frames, none]⟩
    · rw [State.asked_builder set other] at frames
      refine ⟨⟨fun fresh => ?_, fun g next stale => ?_⟩, ?_⟩
      · rw [frames, State.rebuildStale_fresh fresh]
      · rw [frames, State.rebuildStale_stale next stale]; rfl
      · rw [frames]; simp
    · exact results (State.comparison_none (State.asked_noFrame set noCopy noCurrent noNext))
    · obtain ⟨o, own, start, place⟩ := State.asked_own set one
      refine ⟨o, ⟨start, by rw [frames]; exact place⟩, ?_⟩
      intro off tol
      obtain ⟨length, rest⟩ := compareFrames_cases o f (s.driveOfCount f.n0) s.epochTol
      have compares := State.comparison_own own
      refine ⟨fun differs => results (compares.trans (length differs)), fun same => ?_⟩
      obtain ⟨symbols, offset⟩ := rest same
      refine ⟨fun i before differs => results (compares.trans (symbols i before differs)), fun equal => ?_⟩
      obtain ⟨agree, markOffset⟩ := offset equal
      exact ⟨fun least most => results (compares.trans (agree least most)),
        fun outside => results (compares.trans (markOffset outside))⟩
  · intro watches later t agreed deferred same
    have handed := State.handFrame_compares watches later
    have records : t.ctl.lastComparison = some { n0 := f.n0, result := s.comparison f } := by
      simp only [t, handed, State.actOnComparison_records]; rfl
    have agrees : agreed ↔ s.comparison f = .agree := by
      simp only [agreed]; rw [records]; simp
    have defers (is : (s.compared f).actOnComparison f (s.comparison f) = (s.compared f).deferByConflict) : deferred := by
      simp only [deferred, t, handed, is]
      exact ⟨rfl, rfl, rfl, rfl, rfl, rfl⟩
    refine ⟨fun agree => ?_, fun differs join => ?_, fun differs join => ⟨fun watching a => ?_, fun watching other => ?_,
      fun confirming => ?_, fun still => ?_⟩, by simp [t]⟩
    · simp only [same, t, handed, agrees.mp agree, State.actOnComparison_agree]
      exact ⟨rfl, rfl, rfl, rfl⟩
    · have is := State.actOnComparison_joined (s := s.compared f) (f := f) (fun agree => differs (agrees.mpr agree)) join
      simp only [same, t, handed, is]
      exact ⟨rfl, rfl, rfl, rfl⟩
    all_goals
      obtain ⟨atA, adopts, confirms, stays⟩ := State.actOnComparison_alone (s := s.compared f) (f := f)
        (fun agree => differs (agrees.mpr agree)) join
    · exact defers (atA watching a)
    · simp only [t, handed, adopts watching other]
      exact ⟨rfl, trivial, join, rfl⟩
    · exact defers (confirms confirming)
    · simp only [same, t, handed, stays still]
      exact ⟨join, rfl, rfl, rfl⟩

end Sys2Proof.Proofs
end

section
/-!
PROOFS. The accepted pulse and its label (R28, R31), the ways of the ACQUIRE streak and of the tests in LOCKED, and the leap kinds
that used pulses offer and count (O48).
-/

namespace Sys2Proof.Machine

section
variable {now : Instant} {s : State} {pe : PulseEpoch} {r : RefRecord} {last : StreakPulse}

/-! ## The accepted pulse -/

/-- The label that the rules give a pulse accepted now (R31). -/
def State.labelNow (now : Instant) (s : State) : PulseLabel := pulseLabel s.load.params.site.qMin now.tick s.ref.waiting

/-- The state in which the rule of the reference's state handles a pulse accepted now (R28, R31). -/
def State.accepted (now : Instant) (s : State) : State := (s.at now).acceptPulse (s.labelNow now) (now.tick - 10)

theorem exec_secInPulse (accepted : PulseAccepted now s) (epoch : s.pulseEpoch (now.tick - 10) = some pe) :
    exec (.secInPulse now) s = .next ((s.accepted now).handlePulse (s.labelNow now) pe) := by
  have spaced : (s.at now).ref.tooSoon (pulseTime (s.at now).tick) = false := by
    unfold RefUnit.tooSoon
    split
    next p held => exact decide_eq_false (not_lt.mpr (accepted.spaced p held))
    · rfl
  have same : (s.at now).pulseEpoch (pulseTime (s.at now).tick) = some pe := epoch
  have effect : (s.at now).secInEffect = (s.accepted now).handlePulse (s.labelNow now) pe := by
    unfold State.secInEffect
    simp only [spaced, same]
    rfl
  have answered : exec (.secInPulse now) s = .next (s.at now).secInEffect :=
    exec_due (c := .secInPulse now) (by simp [Instr.due, accepted.up])
  rw [answered, effect]

theorem GoodLabel.label (good : GoodLabel now r s) : s.labelNow now = .good r := by
  obtain ⟨time, waits, lower, upper⟩ := good.waits
  simp [State.labelNow, pulseLabel, waits, lower, upper, good.quality]

theorem State.labelNow_low {w : WaitingRecord} (waits : s.ref.waiting = some w) (lower : 500000 ≤ now.tick - w.time)
    (upper : now.tick - w.time ≤ 9500000) (low : w.record.quality < s.load.params.site.qMin) :
    s.labelNow now = .low w.record := by
  have window : Config.labelFrom ≤ now.tick - w.time ∧ now.tick - w.time ≤ Config.labelTo := ⟨lower, upper⟩
  simp only [State.labelNow, pulseLabel, waits]
  rw [if_pos window, if_neg (by omega)]

theorem State.labelNow_none (none : s.ref.waiting = none ∨
    ∃ w, s.ref.waiting = some w ∧ (now.tick - w.time < 500000 ∨ 9500000 < now.tick - w.time)) :
    s.labelNow now = .unlabelled := by
  obtain none | ⟨w, waits, outside⟩ := none
  · simp [State.labelNow, pulseLabel, none]
  · have window : ¬ (Config.labelFrom ≤ now.tick - w.time ∧ now.tick - w.time ≤ Config.labelTo) :=
      show ¬ (500000 ≤ now.tick - w.time ∧ now.tick - w.time ≤ 9500000) by omega
    simp only [State.labelNow, pulseLabel, waits]
    rw [if_neg window]

theorem State.accepted_ref (now : Instant) (s : State) : (s.accepted now).ref = { s.ref with
    prevPulse := some (now.tick - 10)
    pulses := { tick := now.tick - 10, missing := (s.labelNow now).missing s.ref.unlabelledRun } :: s.ref.pulses.take 3
    waiting := if (s.labelNow now).record.isSome then none else s.ref.waiting
    lastLabel := if (s.labelNow now).record.isSome then (s.labelNow now).record else s.ref.lastLabel } := by
  unfold State.accepted State.acceptPulse
  cases s.labelNow now <;> rfl

theorem State.accepted_counters (now : Instant) (s : State) : (s.accepted now).maint.counters =
    match s.labelNow now with
    | .good _ => s.maint.counters.addPulseGood
    | .low _ => s.maint.counters.addPulseRejected
    | .unlabelled => s.maint.counters := by
  unfold State.accepted State.acceptPulse
  cases s.labelNow now <;> rfl

@[simp] theorem State.accepted_timer (now : Instant) (s : State) : (s.accepted now).timer = s.timer := by simp [State.accepted]

@[simp] theorem State.accepted_time (now : Instant) (s : State) : (s.accepted now).time = s.time := by simp [State.accepted]

@[simp] theorem State.accepted_schedule (now : Instant) (s : State) : (s.accepted now).schedule = s.schedule := by simp [State.accepted]

@[simp] theorem State.accepted_frames (now : Instant) (s : State) : (s.accepted now).frames = s.frames := by simp [State.accepted]

@[simp] theorem State.accepted_key (now : Instant) (s : State) : (s.accepted now).key = s.key := by simp [State.accepted]

@[simp] theorem State.accepted_line (now : Instant) (s : State) : (s.accepted now).line = s.line := by simp [State.accepted]

@[simp] theorem State.accepted_ctl (now : Instant) (s : State) : (s.accepted now).ctl = s.ctl := by simp [State.accepted]

@[simp] theorem State.accepted_load (now : Instant) (s : State) : (s.accepted now).load = s.load := by simp [State.accepted]

@[simp] theorem State.accepted_tick (now : Instant) (s : State) : (s.accepted now).tick = now.tick := by simp [State.accepted]

@[simp] theorem State.accepted_state (now : Instant) (s : State) : (s.accepted now).ref.state = s.ref.state := by
  rw [State.accepted_ref]

/-- The keyer's own count of the epoch a pulse is attributed to (R28, R37). -/
theorem State.ownCountFor_handed {own : Option Int} {n : Int}
    (counts : (pe.since = some 0 ∧ s.time.n = own) ∨ (pe.since = none ∧ s.comingCount.map Prod.fst = own)) :
    s.ownCountFor (handed n pe) = own := by
  obtain ⟨since, counts⟩ | ⟨since, counts⟩ := counts
  · simp [State.ownCountFor, handed, since, counts]
  · simp [State.ownCountFor, handed, since, counts]

theorem pulseEpoch_tick {t : Int} (epoch : s.pulseEpoch t = some pe) : pe.tick = t := by
  unfold State.pulseEpoch at epoch
  repeat' split at epoch
  all_goals cases epoch
  all_goals rfl

/-! ## The ACQUIRE streak -/

theorem followsOn_iff {n : Int} {leap : LeapStep} :
    followsOn last n leap = true ↔ n = last.n + 1 ∨ (leap = .inserted ∧ n = last.n) ∨ (leap = .deleted ∧ n = last.n + 2) := by
  simp [followsOn, or_assoc]

theorem spacedOn_iff {t : Int} : spacedOn last t = true ↔ 9990000 ≤ t - last.tick ∧ t - last.tick ≤ 10010000 := decide_eq_true_iff

theorem State.acquirePulse_first (first : s.ref.streakLast = none) : s.acquirePulse r pe = (s.beginStreak r pe).leapOffer r := by
  simp [State.acquirePulse, first]

theorem State.acquirePulse_grows (held : s.ref.streakLast = some last) (follows : followsOn last r.n pe.leap = true)
    (spaced : spacedOn last pe.tick = true) (short : s.ref.streak ≠ 3) :
    s.acquirePulse r pe = ({ s with ref := { s.ref with
      streak := s.ref.streak + 1, streakLast := some { n := r.n, tick := pe.tick }, acquireFrom := some s.tick } } : State).leapOffer r := by
  simp [State.acquirePulse, held, follows, spaced, short]

theorem State.acquirePulse_completes (held : s.ref.streakLast = some last) (follows : followsOn last r.n pe.leap = true)
    (spaced : spacedOn last pe.tick = true) (fourth : s.ref.streak = 3) :
    s.acquirePulse r pe = (s.completeAcquire r.n pe (refError pe.tick pe.epoch r.corrNs)).leapOffer r := by
  simp [State.acquirePulse, held, follows, spaced, fourth]

theorem State.acquirePulse_late (held : s.ref.streakLast = some last) (follows : followsOn last r.n pe.leap = true)
    (spaced : spacedOn last pe.tick = false) : s.acquirePulse r pe = (s.beginStreak r pe).leapOffer r := by
  simp [State.acquirePulse, held, follows, spaced]

theorem State.acquirePulse_conflict (held : s.ref.streakLast = some last) (follows : followsOn last r.n pe.leap = false) :
    s.acquirePulse r pe = ((s.count Counters.addCountConflict).beginStreak r pe).leapOffer r := by
  simp [State.acquirePulse, held, follows]

/-! ## LOCKED -/

/-- LOCKED left for another state is no class A, so that the schedule stands (R51, R70). -/
theorem State.leftLocked_schedule {before : TimeClass} (left : s.ref.state ≠ .locked) :
    (s.leftLocked before).schedule = s.schedule ∧ (s.leftLocked before).frames = s.frames := by
  have unclassed (u : State) (left : u.ref.state ≠ .locked) :
      (u.classChanged before).schedule = u.schedule ∧ (u.classChanged before).frames = u.frames := by
    have notA : u.cls ≠ .a := by
      unfold State.cls timeClass
      split
      · exact TimeClass.noConfusion
      · rw [if_neg left]
        split <;> exact TimeClass.noConfusion
    unfold State.classChanged
    rw [if_neg (fun h => notA h.2)]
    split <;> exact ⟨rfl, rfl⟩
  unfold State.leftLocked
  dsimp only
  split
  · simpa using unclassed (s.raise .timeAged) (by simpa using left)
  · exact unclassed _ left

theorem State.lockedToAcquire_ref (s : State) : s.lockedToAcquire.ref = s.ref.lockedToAcquire s.tick := by
  simp [State.lockedToAcquire]

theorem State.lockedToAcquire_schedule (s : State) :
    s.lockedToAcquire.schedule = s.schedule ∧ s.lockedToAcquire.frames = s.frames :=
  State.leftLocked_schedule (s := { s with ref := s.ref.lockedToAcquire s.tick }) (before := s.cls) RefState.noConfusion

/-- An outlier counted (R38). -/
def State.outlierCounted (s : State) : State := { s with
  ref := { s.ref with outlierStreak := s.ref.outlierStreak + 1, conflictStreak := 0 }
  maint := { s.maint with counters := s.maint.counters.addPulseRejected } }

/-- A count conflict counted (R37). -/
def State.conflictCounted (s : State) : State := { s with
  ref := { s.ref with conflictStreak := s.ref.conflictStreak + 1, outlierStreak := 0 }
  maint := { s.maint with counters := s.maint.counters.addCountConflict } }

theorem State.outlierPulse_stays (few : s.ref.outlierStreak ≠ 3) : s.outlierPulse = s.outlierCounted :=
  if_neg (show ¬ s.ref.outlierStreak + 1 = 4 by omega)

theorem State.outlierPulse_fourth (fourth : s.ref.outlierStreak = 3) : s.outlierPulse = s.outlierCounted.lockedToAcquire :=
  if_pos (show s.ref.outlierStreak + 1 = 4 by omega)

theorem State.conflictPulse_stays (few : s.ref.conflictStreak ≠ 2) : s.conflictPulse = s.conflictCounted :=
  if_neg (show ¬ s.ref.conflictStreak + 1 = 3 by omega)

theorem State.conflictPulse_third (third : s.ref.conflictStreak = 2) : s.conflictPulse = s.conflictCounted.lockedToAcquire :=
  if_pos (show s.ref.conflictStreak + 1 = 3 by omega)

theorem State.outlierPulse_schedule (s : State) :
    s.outlierPulse.schedule = s.schedule ∧ s.outlierPulse.frames = s.frames ∧
      s.outlierPulse.maint.counters = s.maint.counters.addPulseRejected := by
  by_cases fourth : s.ref.outlierStreak = 3
  · rw [State.outlierPulse_fourth fourth]
    simp [State.lockedToAcquire_schedule, State.outlierCounted]
  · rw [State.outlierPulse_stays fourth]
    exact ⟨rfl, rfl, rfl⟩

theorem State.conflictPulse_schedule (s : State) :
    s.conflictPulse.schedule = s.schedule ∧ s.conflictPulse.frames = s.frames ∧
      s.conflictPulse.maint.counters = s.maint.counters.addCountConflict := by
  by_cases third : s.ref.conflictStreak = 2
  · rw [State.conflictPulse_third third]
    simp [State.lockedToAcquire_schedule, State.conflictCounted]
  · rw [State.conflictPulse_stays third]
    exact ⟨rfl, rfl, rfl⟩

theorem State.lockedGood_conflict (differs : s.ownCountFor (handed r.n pe) ≠ some r.n) :
    s.lockedGood r pe = ({ s with ref := { s.ref with unlabelledRun := 0 } } : State).conflictPulse :=
  if_pos differs

theorem State.lockedGood_outlier (own : s.ownCountFor (handed r.n pe) = some r.n)
    (beyond : s.outlier < ((refError pe.tick pe.epoch r.corrNs).natAbs : Int)) :
    s.lockedGood r pe = ({ s with ref := { s.ref with unlabelledRun := 0 } } : State).outlierPulse :=
  (if_neg (not_not_intro own)).trans (if_pos beyond)

/-- The state in which a used pulse of LOCKED with a good label counts its leap kind and makes its offer (R37, R41, R42, R50). -/
def State.sampledGood (r : RefRecord) (pe : PulseEpoch) (s : State) : State :=
  let u := ({ s with ref := { s.ref with unlabelledRun := 0 } } : State).samplePulse (refError pe.tick pe.epoch r.corrNs)
  { u with time := { u.time with age := u.time.age.map (fun _ => 0) } }

theorem State.lockedGood_sample (own : s.ownCountFor (handed r.n pe) = some r.n)
    (inside : ¬ s.outlier < ((refError pe.tick pe.epoch r.corrNs).natAbs : Int)) :
    s.lockedGood r pe = ((s.sampledGood r pe).countNone r).leapOffer r :=
  (if_neg (not_not_intro own)).trans (if_neg inside)

/-- An error beyond OUTLIER, to either side (R37). -/
theorem State.beyond_outlier_iff {e : Int} :
    s.outlier < (e.natAbs : Int) ↔ e < -(10 * (s.load.params.site.outlier : Int)) ∨ 10 * (s.load.params.site.outlier : Int) < e := by
  unfold State.outlier
  omega

/-! ## Leap kinds -/

theorem State.leapOffer_none (idle : ¬ (r.leapKind = 1 ∨ r.leapKind = 2) ∨ s.time.n = none) : s.leapOffer r = s := by
  refine if_neg fun ⟨kind, set⟩ => ?_
  obtain other | unset := idle
  · exact other kind
  · simp [State.timeSet, unset] at set

theorem State.leapOffer_refused (kind : r.leapKind = 1 ∨ r.leapKind = 2) (set : s.time.n.isSome = true)
    (bad : ¬ (monthEnd r.leapDay = true ∧ r.n < (r.leapDay + 1) * 86400)) : s.leapOffer r = s.count Counters.addLeapRefused :=
  (if_pos ⟨kind, set⟩).trans (if_neg bad)

/-- The offer that a record's leap kind and day make (R41). -/
def RefRecord.offer (r : RefRecord) : Offer :=
  { instant := (r.leapDay + 1) * 86400, kind := if r.leapKind = 1 then .leapInsert else .leapDelete, newOffset := none
    source := .ref }

theorem State.leapOffer_offers (kind : r.leapKind = 1 ∨ r.leapKind = 2) (set : s.time.n.isSome = true)
    (day : monthEnd r.leapDay = true ∧ r.n < (r.leapDay + 1) * 86400) : s.leapOffer r = s.offer r.offer :=
  (if_pos ⟨kind, set⟩).trans (if_pos day)

end

end Sys2Proof.Machine
end

section
/-! PROOFS. The leap kinds of used pulses: what they offer, refuse, count and cancel (O48). -/

namespace Sys2Proof.Machine

section
variable {s : State} {r : RefRecord}

/-- Into an empty list an offer that passes its tests comes as its entry (R65). -/
theorem State.placeOffer_empty (o : Offer) (empty : s.schedule = []) : (s.placeOffer o).schedule = [o.entry] := by
  have inserted : (s.insertOffer o).schedule = [o.entry] := by
    unfold State.insertOffer
    rw [if_pos (by rw [empty]; decide), State.setSchedule_schedule, empty]
    rfl
  unfold State.placeOffer
  rw [if_neg (by simp [empty])]
  split
  · simpa [empty] using inserted
  · exact inserted

/-- The second after a day that ends a month is one a leap may take effect at (R41, R62). -/
theorem leapInstantOk_of_day {d : Int} (day : monthEnd d = true) : leapInstantOk ((d + 1) * 86400) = true := by
  have second : secondOfDay ((d + 1) * 86400) = 0 := by
    unfold secondOfDay
    omega
  have before : dayOf ((d + 1) * 86400) - 1 = d := by
    unfold dayOf
    omega
  simp [leapInstantOk, second, before, day]

theorem RefRecord.offer_isLeap (r : RefRecord) : r.offer.kind.isLeap = true := by
  unfold RefRecord.offer
  dsimp only
  split <;> rfl

theorem State.leapOffer_empty {n : Int} (kind : r.leapKind = 1 ∨ r.leapKind = 2) (set : s.time.n = some n)
    (day : monthEnd r.leapDay = true ∧ r.n < (r.leapDay + 1) * 86400) (later : n < (r.leapDay + 1) * 86400)
    (within : (r.leapDay + 1) * 86400 ≤ 3155760000) (empty : s.schedule = []) :
    (s.leapOffer r).schedule = [r.offer.entry] := by
  have tested : s.offer r.offer = s.placeOffer r.offer := by
    unfold State.offer
    rw [set]
    dsimp only
    rw [if_neg (fun h => Source.noConfusion h.1), if_neg, if_pos r.offer_isLeap, if_pos (show leapInstantOk r.offer.instant = true from leapInstantOk_of_day day.1)]
    exact not_or.mpr ⟨not_le.mpr later, not_lt.mpr within⟩
  rw [State.leapOffer_offers kind (by rw [set]; rfl) day, tested, State.placeOffer_empty _ empty]

/-! ## The none-run -/

theorem State.countNone_other (other : 3 < r.leapKind) : s.countNone r = s := by
  unfold State.countNone
  rw [if_neg (by omega), if_neg (by omega)]

theorem State.countNone_leap (leap : r.leapKind = 1 ∨ r.leapKind = 2) :
    s.countNone r = { s with ref := { s.ref with noneRun := 0 } } := by
  unfold State.countNone
  rw [if_neg (by omega), if_pos leap]

theorem State.countNone_counts (no : r.leapKind = 0 ∨ r.leapKind = 3) (few : s.ref.noneRun ≠ 59) :
    s.countNone r = { s with ref := { s.ref with noneRun := s.ref.noneRun + 1 } } := by
  unfold State.countNone
  rw [if_pos no, if_neg (by omega)]

theorem State.countNone_cancels (no : r.leapKind = 0 ∨ r.leapKind = 3) (last : s.ref.noneRun = 59) :
    s.countNone r = ({ s with ref := { s.ref with noneRun := 0 } } : State).cancelRefLeaps := by
  unfold State.countNone
  rw [if_pos no, if_pos (by omega)]

theorem State.cancelRefLeaps_schedule (s : State) : s.cancelRefLeaps.schedule = s.schedule.filter (fun e =>
    decide (¬ (e.kind ≠ .offset ∧ e.source = .ref ∧ e.committed = false))) := by
  rw [State.cancelRefLeaps, State.setSchedule_schedule]
  exact List.filter_congr fun e _ => by cases e.kind <;> cases e.source <;> cases e.committed <;> rfl

end

/-- What a pulse that makes no offer leaves of the schedule, the frames and the time (R41). -/
structure State.UnofferedFrom (s u : State) : Prop where
  schedule : u.schedule = s.schedule
  frames : u.frames = s.frames
  n : u.time.n = s.time.n
  origin : u.time.origin = s.time.origin
  load : u.load = s.load

theorem State.UnofferedFrom.spelled {s u : State} (same : s.UnofferedFrom u) :
    u.schedule = s.schedule ∧ u.frames = s.frames ∧ u.time.n = s.time.n ∧ u.time.origin = s.time.origin ∧ u.load = s.load :=
  ⟨same.schedule, same.frames, same.n, same.origin, same.load⟩

section
variable {now : Instant} {s : State} {pe : PulseEpoch} {r : RefRecord} {last : StreakPulse}

/-- A pulse of ACQUIRE that is not the fourth of its streak makes its offer with the schedule as it was (R33, R41). -/
theorem State.acquirePulse_offers (short : s.ref.streak ≠ 3) (acquire : s.ref.state = .acquire) :
    ∃ u, s.UnofferedFrom u ∧ u.ref.state = .acquire ∧ s.acquirePulse r pe = u.leapOffer r := by
  rcases held : s.ref.streakLast with _ | last
  · refine ⟨_, ?_, ?_, State.acquirePulse_first held⟩
    · exact ⟨rfl, rfl, rfl, rfl, rfl⟩
    · rfl
  cases follows : followsOn last r.n pe.leap
  case false =>
    refine ⟨_, ?_, ?_, State.acquirePulse_conflict held follows⟩
    · exact ⟨rfl, rfl, rfl, rfl, rfl⟩
    · rfl
  cases spaced : spacedOn last pe.tick
  case false =>
    refine ⟨_, ?_, ?_, State.acquirePulse_late held follows spaced⟩
    · exact ⟨rfl, rfl, rfl, rfl, rfl⟩
    · rfl
  refine ⟨_, ?_, ?_, State.acquirePulse_grows held follows spaced short⟩
  · exact ⟨rfl, rfl, rfl, rfl, rfl⟩
  · exact acquire

theorem State.completeAcquire_ref (n : Int) (pe : PulseEpoch) (e : Int) (s : State) :
    (s.completeAcquire n pe e).ref = s.ref.enterLocked := by
  unfold State.completeAcquire
  dsimp only
  repeat' split
  all_goals simp

/-- A pulse that LOCKED refuses as an outlier leaves the schedule and the none-run (R38, R41). -/
theorem State.outlierPulse_unoffered (s : State) :
    s.UnofferedFrom s.outlierPulse ∧ (s.outlierPulse.ref.state = .locked → s.outlierPulse.ref.noneRun = s.ref.noneRun) := by
  refine ⟨⟨s.outlierPulse_schedule.1, s.outlierPulse_schedule.2.1, ?_, ?_, ?_⟩, ?_⟩
  · simp
  · simp
  · simp
  · by_cases fourth : s.ref.outlierStreak = 3
    · rw [State.outlierPulse_fourth fourth, State.lockedToAcquire_ref]
      exact fun h => RefState.noConfusion h
    · rw [State.outlierPulse_stays fourth]
      exact fun _ => rfl

theorem State.conflictPulse_unoffered (s : State) :
    s.UnofferedFrom s.conflictPulse ∧ (s.conflictPulse.ref.state = .locked → s.conflictPulse.ref.noneRun = s.ref.noneRun) := by
  refine ⟨⟨s.conflictPulse_schedule.1, s.conflictPulse_schedule.2.1, ?_, ?_, ?_⟩, ?_⟩
  · simp
  · simp
  · simp
  · by_cases third : s.ref.conflictStreak = 2
    · rw [State.conflictPulse_third third, State.lockedToAcquire_ref]
      exact fun h => RefState.noConfusion h
    · rw [State.conflictPulse_stays third]
      exact fun _ => rfl

theorem State.accepted_own {own : Option Int} {n : Int}
    (counts : (pe.since = some 0 ∧ s.time.n = own) ∨ (pe.since = none ∧ s.comingCount.map Prod.fst = own)) :
    (s.accepted now).ownCountFor (handed n pe) = own := by
  have coming : (s.accepted now).comingCount = s.comingCount := by
    simp [State.comingCount, State.secondInserted]
  exact State.ownCountFor_handed (by rw [State.accepted_time, coming]; exact counts)

end

end Sys2Proof.Machine

namespace Sys2Proof.Proofs

open Sys2Proof.Machine

/-- Settles O48, by the offer of a record, the none-run, and the cases of a pulse by the state of the reference. -/
theorem leapKindsOfferAndCancel : Obligations.LeapKindsOfferAndCancel := by
  refine ⟨?_, ?_, ?_⟩
  · intro r s kindOk dayOk
    refine ⟨State.leapOffer_none, fun kind set bad => State.leapOffer_refused kind set bad,
      fun kind set day => State.leapOffer_offers kind set day, ?_, ?_⟩
    · intro n kind set day later within empty
      rw [State.leapOffer_empty (.inl kind) set day later within empty]
      simp [RefRecord.offer, Offer.entry, kind]
    · intro n kind set day later within empty
      rw [State.leapOffer_empty (.inr kind) set day later within empty]
      simp [RefRecord.offer, Offer.entry, kind]
  · intro r s
    refine ⟨State.countNone_other, State.countNone_leap, fun no => ⟨State.countNone_counts no, fun last => ?_⟩⟩
    rw [State.countNone_cancels no last]
    exact ⟨by simp, State.cancelRefLeaps_schedule _⟩
  · intro now s pe r accepted epoch good
    refine ⟨_, exec_secInPulse accepted epoch, ?_⟩
    rw [good.label]
    have tick : pe.tick = now.tick - 10 := pulseEpoch_tick epoch
    intro same
    refine ⟨?_, ?_, ?_, ?_⟩
    · intro outside
      have begun : (s.accepted now).handlePulse (.good r) pe = (s.accepted now).beginStreak r pe := by
        obtain noref | holdover := outside
        · simp [State.handlePulse, noref]
        · simp [State.handlePulse, holdover]
      simp [same, begun]
    · intro acquire short
      have handled : (s.accepted now).handlePulse (.good r) pe = (s.accepted now).acquirePulse r pe := by
        simp [State.handlePulse, acquire]
      rw [handled]
      obtain ⟨u, unoffered, state, offers⟩ := State.acquirePulse_offers (s := s.accepted now) (r := r) (pe := pe)
        (by rw [State.accepted_ref]; exact short) (by simpa using acquire)
      exact ⟨u, by simpa [same] using unoffered.spelled, state, offers⟩
    · intro acquire last held fourth follows least most
      have handled : (s.accepted now).handlePulse (.good r) pe = (s.accepted now).acquirePulse r pe := by
        simp [State.handlePulse, acquire]
      rw [handled, State.acquirePulse_completes (by rw [State.accepted_ref]; exact held) (followsOn_iff.mpr follows)
        (spacedOn_iff.mpr (by rw [tick]; exact ⟨least, most⟩)) (by rw [State.accepted_ref]; exact fourth)]
      refine ⟨_, ?_, ?_, rfl⟩
      · rw [State.completeAcquire_ref]
        rfl
      · rw [State.completeAcquire_ref]
        rfl
    · intro locked own counts e within
      have handled : (s.accepted now).handlePulse (.good r) pe = (s.accepted now).lockedGood r pe := by
        simp [State.handlePulse, locked]
      have ownCount := State.accepted_own (now := now) (n := r.n) counts
      have beyond : (s.accepted now).outlier < ((refError pe.tick pe.epoch r.corrNs).natAbs : Int) ↔ ¬ within := by
        rw [State.beyond_outlier_iff, State.accepted_load, tick]
        simp only [within, e]
        omega
      rw [handled]
      refine ⟨?_, ?_⟩
      · intro counted inside
        refine ⟨(s.accepted now).sampledGood r pe, ?_, ?_, ?_,
          State.lockedGood_sample (by rw [ownCount, counted]) (by rw [beyond]; exact not_not_intro inside)⟩
        · simp [same, State.sampledGood]
        · simp [State.sampledGood, locked]
        · simp [State.sampledGood, State.samplePulse, State.holdRef, State.accepted_ref]
      · intro refused
        by_cases counted : own = some r.n
        · rw [State.lockedGood_outlier (by rw [ownCount, counted]) (beyond.mpr (refused.resolve_left (not_not_intro counted)))]
          obtain ⟨unoffered, run⟩ := State.outlierPulse_unoffered
            { s.accepted now with ref := { (s.accepted now).ref with unlabelledRun := 0 } }
          exact ⟨by simpa [same] using unoffered.spelled, by simpa [State.accepted_ref] using run⟩
        · rw [State.lockedGood_conflict (by rw [ownCount]; exact counted)]
          obtain ⟨unoffered, run⟩ := State.conflictPulse_unoffered
            { s.accepted now with ref := { (s.accepted now).ref with unlabelledRun := 0 } }
          exact ⟨by simpa [same] using unoffered.spelled, by simpa [State.accepted_ref] using run⟩

end Sys2Proof.Proofs
end

section
/-! PROOFS. The attribution of pulses, the pulses that come too soon, and those that build or break the ACQUIRE streak (O44). -/

namespace Sys2Proof.Machine

section
variable {now : Instant} {s : State} {pe : PulseEpoch} {r : RefRecord} {last : StreakPulse}

/-! ## Attribution -/

theorem State.pulseEpoch_none {t : Int} (idle : s.timer.nextEpoch = none) : s.pulseEpoch t = none := by
  unfold State.pulseEpoch
  rw [idle]

theorem State.pulseEpoch_present {t next : Int} {p : PastSecond} {rest : List PastSecond} (coming : s.timer.nextEpoch = some next)
    (past : s.timer.past = p :: rest) (nearer : t - p.epoch < next - t) :
    s.pulseEpoch t = some { tick := t, epoch := p.epoch, since := some 0, leap := p.leap } := by
  unfold State.pulseEpoch
  rw [coming, past]
  exact if_neg (not_le.mpr nearer)

/-- How the coming epoch takes a leap (R40, R45, R46): plainly while UNSET. -/
def State.comingLeap (s : State) : LeapStep := (s.comingCount.map Prod.snd).getD .plain

theorem State.pulseEpoch_coming {t next : Int} {p : PastSecond} {rest : List PastSecond} (coming : s.timer.nextEpoch = some next)
    (past : s.timer.past = p :: rest) (nearer : next - t ≤ t - p.epoch) :
    s.pulseEpoch t = some { tick := t, epoch := next, since := none, leap := s.comingLeap } := by
  unfold State.pulseEpoch
  rw [coming, past]
  exact if_pos nearer

theorem State.comingLeap_unset (unset : s.time.n = none) : s.comingLeap = .plain := by
  simp [State.comingLeap, State.comingCount, unset]

theorem State.comingLeap_none (none : committedLeap s.schedule = none) : s.comingLeap = .plain := by
  unfold State.comingLeap State.comingCount
  cases s.time.n with
  | none => rfl
  | some n => simp [advanceOf_plain none]

/-- The leap of an advance: an insertion once, in the second before its instant, a deletion two before it (R45, R46). -/
theorem advanceOf_leap_iff {entries : List Entry} {e : Entry} (held : committedLeap entries = some e) (n : Int) (inserted : Bool) :
    ((advanceOf n inserted entries).2 = .inserted ↔ e.kind = .leapInsert ∧ n + 1 = e.instant ∧ inserted = false) ∧
    ((advanceOf n inserted entries).2 = .deleted ↔ e.kind = .leapDelete ∧ n + 2 = e.instant) := by
  unfold advanceOf
  rw [held]
  dsimp only
  split
  next insert => simp [insert.1, insert.2.1, insert.2.2]
  next other =>
    split
    next delete => simp [delete.1, delete.2]
    next none => exact ⟨by simpa using other, by simpa using none⟩

theorem State.comingLeap_iff {n : Int} {e : Entry} {p : PastSecond} {rest : List PastSecond} (past : s.timer.past = p :: rest)
    (set : s.time.n = some n) (held : committedLeap s.schedule = some e) :
    (s.comingLeap = .inserted ↔ e.kind = .leapInsert ∧ n + 1 = e.instant ∧ p.leap ≠ .inserted) ∧
    (s.comingLeap = .deleted ↔ e.kind = .leapDelete ∧ n + 2 = e.instant) := by
  have inserted : s.secondInserted = false ↔ p.leap ≠ .inserted := by
    simp [State.secondInserted, past]
  have leap : s.comingLeap = (advanceOf n s.secondInserted s.schedule).2 := by
    simp [State.comingLeap, State.comingCount, set]
  rw [leap, ← inserted]
  exact advanceOf_leap_iff held n _

/-! ## The pulse too soon -/

theorem exec_secInPulse_soon {p : Int} (up : s.timer.monitor = .up) (held : s.ref.prevPulse = some p)
    (soon : now.tick - 10 - p < 9990000) :
    exec (.secInPulse now) s = .next ((s.at now).count Counters.addPulseRejected) := by
  have tooSoon : (s.at now).ref.tooSoon (pulseTime (s.at now).tick) = true := by
    unfold RefUnit.tooSoon
    rw [show (s.at now).ref.prevPulse = some p from held]
    exact decide_eq_true_iff.mpr soon
  have effect : (s.at now).secInEffect = (s.at now).count Counters.addPulseRejected := if_pos tooSoon
  have answered : exec (.secInPulse now) s = .next (s.at now).secInEffect :=
    exec_due (c := .secInPulse now) (by simp [Instr.due, up])
  rw [answered, effect]

/-! ## The streak -/

/-- A streak of `k` pulses, of which the one just accepted is the last (R33, R34). -/
structure State.StreakOf (now : Instant) (s : State) (r : RefRecord) (k : Nat) (t : State) : Prop where
  state : t.ref.state = .acquire
  streak : t.ref.streak = k
  last : t.ref.streakLast = some { n := r.n, tick := now.tick - 10 }
  acquireFrom : t.ref.acquireFrom = some now.tick
  waiting : t.ref.waiting = none
  lastLabel : t.ref.lastLabel = some r
  time : t.time = s.time
  timer : t.timer = s.timer
  ctl : t.ctl = s.ctl
  key : t.key = s.key
  pulses : t.maint.counters.pulsesGood = bumpWrap s.maint.counters.pulsesGood

theorem State.beginStreak_streakOf (good : GoodLabel now r s) (tick : pe.tick = now.tick - 10) :
    State.StreakOf now s r 1 ((s.accepted now).beginStreak r pe) where
  state := rfl
  streak := rfl
  last := by simp [State.beginStreak, tick]
  acquireFrom := by simp [State.beginStreak]
  waiting := by simp [State.beginStreak, State.accepted_ref, good.label, PulseLabel.record]
  lastLabel := by simp [State.beginStreak, State.accepted_ref, good.label, PulseLabel.record]
  time := by simp
  timer := by simp
  ctl := by simp
  key := by simp
  pulses := by simp [State.accepted_counters, good.label, Counters.addPulseGood]

theorem State.StreakOf.conflict (good : GoodLabel now r s) (tick : pe.tick = now.tick - 10) :
    State.StreakOf now s r 1 (((s.accepted now).count Counters.addCountConflict).beginStreak r pe) := by
  have begun := State.beginStreak_streakOf good tick
  exact ⟨begun.state, begun.streak, begun.last, begun.acquireFrom, begun.waiting, begun.lastLabel, begun.time, begun.timer,
    begun.ctl, begun.key, begun.pulses⟩

theorem State.StreakOf.grows (good : GoodLabel now r s) (tick : pe.tick = now.tick - 10) (acquire : s.ref.state = .acquire) :
    State.StreakOf now s r (s.ref.streak + 1) { s.accepted now with ref := { (s.accepted now).ref with
      streak := (s.accepted now).ref.streak + 1, streakLast := some { n := r.n, tick := pe.tick }
      acquireFrom := some (s.accepted now).tick } } := by
  have begun := State.beginStreak_streakOf good tick
  exact ⟨by simpa using acquire, by simp [State.accepted_ref], begun.last, begun.acquireFrom, begun.waiting, begun.lastLabel,
    begun.time, begun.timer, begun.ctl, begun.key, begun.pulses⟩

@[simp] theorem State.leapOffer_counts (r : RefRecord) (s : State) :
    (s.leapOffer r).maint.counters.besidesOffers = s.maint.counters.besidesOffers := by
  unfold State.leapOffer
  dsimp only
  split
  · split
    · exact State.offer_counts _ _
    · rfl
  · rfl

theorem State.StreakOf.leapOffer {k : Nat} {u : State} (streak : State.StreakOf now s r k u) :
    State.StreakOf now s r k (u.leapOffer r) := by
  have counted : (u.leapOffer r).maint.counters.pulsesGood = u.maint.counters.pulsesGood :=
    show (u.leapOffer r).maint.counters.besidesOffers.pulsesGood = _ by rw [State.leapOffer_counts]; rfl
  constructor <;> simp [counted, streak.state, streak.streak, streak.last, streak.acquireFrom, streak.waiting, streak.lastLabel,
    streak.time, streak.timer, streak.ctl, streak.key, streak.pulses]

/-! ## Pulses that are no good label -/

/-- A pulse without a good label outside LOCKED (R32, R33): in ACQUIRE it breaks the streak. -/
theorem State.handlePulse_unused {label : PulseLabel} (unused : ∀ r, label ≠ .good r) (unlocked : s.ref.state ≠ .locked) :
    s.handlePulse label pe = if s.ref.state = .acquire then s.breakStreak else s := by
  unfold State.handlePulse
  rcases state : s.ref.state with _ | _ | _ | _
  · cases label with
    | good r => exact absurd rfl (unused r)
    | low r => rfl
    | unlabelled => rfl
  · cases label with
    | good r => exact absurd rfl (unused r)
    | low r => rfl
    | unlabelled => rfl
  · exact absurd state unlocked
  · cases label with
    | good r => exact absurd rfl (unused r)
    | low r => rfl
    | unlabelled => rfl

theorem State.accepted_maint_unlabelled (label : s.labelNow now = .unlabelled) : (s.accepted now).maint = s.maint := by
  unfold State.accepted
  rw [label]
  rfl

/-- What the handling of a pulse leaves of the receiver (R28, R30). -/
theorem State.handlePulse_received (label : PulseLabel) (pe : PulseEpoch) (s : State) (unlocked : s.ref.state ≠ .locked) :
    (s.handlePulse label pe).ref.prevPulse = s.ref.prevPulse ∧ (s.handlePulse label pe).ref.prevSeq = s.ref.prevSeq := by
  have broken : (if s.ref.state = .acquire then s.breakStreak else s).ref.prevPulse = s.ref.prevPulse ∧
      (if s.ref.state = .acquire then s.breakStreak else s).ref.prevSeq = s.ref.prevSeq := by
    split <;> exact ⟨rfl, rfl⟩
  cases label with
  | good r =>
    rcases state : s.ref.state with _ | _ | _ | _
    · simp [State.handlePulse, state, State.beginStreak]
    · have handled : s.handlePulse (.good r) pe = s.acquirePulse r pe := by simp [State.handlePulse, state]
      rw [handled]
      unfold State.acquirePulse
      repeat' split
      all_goals simp [State.completeAcquire_ref, RefUnit.enterLocked, RefUnit.clearLocked, State.beginStreak, State.count]
    · exact absurd state unlocked
    · simp [State.handlePulse, state, State.beginStreak]
  | low r => rwa [State.handlePulse_unused (fun _ => PulseLabel.noConfusion) unlocked]
  | unlabelled => rwa [State.handlePulse_unused (fun _ => PulseLabel.noConfusion) unlocked]

end

end Sys2Proof.Machine

namespace Sys2Proof.Proofs

open Sys2Proof.Machine

/-- Settles O44, by the nearest epoch, the pulse too soon, and the label of a pulse accepted outside LOCKED. -/
theorem pulsesBuildTheAcquireStreak : Obligations.PulsesBuildTheAcquireStreak := by
  refine ⟨?_, ?_, ?_⟩
  · intro s t
    refine ⟨State.pulseEpoch_none, fun next p rest coming past => ⟨State.pulseEpoch_present coming past, fun nearer => ?_⟩⟩
    exact ⟨s.comingLeap, State.pulseEpoch_coming coming past nearer, State.comingLeap_unset,
      fun n e set held => State.comingLeap_iff past set held, State.comingLeap_none⟩
  · intro now s p up held soon
    exact exec_secInPulse_soon up held soon
  · intro now s pe accepted epoch unlocked
    have tick : pe.tick = now.tick - 10 := pulseEpoch_tick epoch
    have still : (s.accepted now).ref.state ≠ .locked := by simpa using unlocked
    obtain ⟨prevPulse, prevSeq⟩ := State.handlePulse_received (s.labelNow now) pe (s.accepted now) still
    refine ⟨_, exec_secInPulse accepted epoch, ?_, ?_, ?_, ?_⟩
    · rw [prevPulse, State.accepted_ref]
    · rw [prevSeq, State.accepted_ref]
    · simp
    intro begun kept
    have streak {r : RefRecord} {k : Nat} (is : State.StreakOf now s r k ((s.accepted now).handlePulse (s.labelNow now) pe)) :
        begun r k :=
      ⟨is.state, is.streak, is.last, is.acquireFrom, is.waiting, is.lastLabel, is.time, is.timer, is.ctl, is.key, is.pulses⟩
    have unused (other : ∀ r, s.labelNow now ≠ .good r) : (s.accepted now).handlePulse (s.labelNow now) pe =
        if s.ref.state = .acquire then (s.accepted now).breakStreak else s.accepted now := by
      rw [State.handlePulse_unused other still, State.accepted_state]
    have keeps (other : ∀ r, s.labelNow now ≠ .good r) : kept := by
      simp only [kept, unused other]
      split <;> simp
    refine ⟨?_, ?_, ?_, ?_⟩
    · intro r good outside
      have handled : (s.accepted now).handlePulse (s.labelNow now) pe = (s.accepted now).beginStreak r pe := by
        rw [good.label]
        obtain noref | holdover := outside
        · simp [State.handlePulse, noref]
        · simp [State.handlePulse, holdover]
      exact ⟨streak (by rw [handled]; exact State.beginStreak_streakOf good tick), by simp [kept, handled]⟩
    · intro r good acquire
      have handled : (s.accepted now).handlePulse (s.labelNow now) pe = (s.accepted now).acquirePulse r pe := by
        rw [good.label]
        simp [State.handlePulse, acquire]
      have first := (State.beginStreak_streakOf good tick).leapOffer
      refine ⟨?_, ?_⟩
      · intro noLast
        exact streak (by rw [handled, State.acquirePulse_first (by rw [State.accepted_ref]; exact noLast)]; exact first)
      · intro last held follows spaced
        have heldNow : (s.accepted now).ref.streakLast = some last := by rw [State.accepted_ref]; exact held
        have followed : followsOn last r.n pe.leap = true ↔ follows := followsOn_iff
        have spacing : spacedOn last pe.tick = true ↔ spaced := by rw [spacedOn_iff, tick]
        have conflicts (u : State) : (u.leapOffer r).maint.counters.countConflicts = u.maint.counters.countConflicts :=
          show (u.leapOffer r).maint.counters.besidesOffers.countConflicts = _ by rw [State.leapOffer_counts]; rfl
        refine ⟨?_, ?_, ?_⟩
        · intro yes near short
          refine streak ?_
          rw [handled, State.acquirePulse_grows heldNow (followed.mpr yes) (spacing.mpr near)
            (by rw [State.accepted_ref]; exact short)]
          exact (State.StreakOf.grows good tick acquire).leapOffer
        · intro yes far
          have late := State.acquirePulse_late (s := s.accepted now) heldNow (followed.mpr yes)
            (Bool.not_eq_true _ ▸ mt spacing.mp far)
          refine ⟨streak (by rw [handled, late]; exact first), ?_⟩
          rw [handled, late, conflicts]
          simp [State.beginStreak, State.accepted_counters, good.label, Counters.addPulseGood]
        · intro no
          have conflict := State.acquirePulse_conflict (s := s.accepted now) (pe := pe) heldNow
            (Bool.not_eq_true _ ▸ mt followed.mp no)
          refine ⟨streak (by rw [handled, conflict]; exact (State.StreakOf.conflict good tick).leapOffer), ?_⟩
          rw [handled, conflict, conflicts]
          simp [State.beginStreak, State.count, State.accepted_counters, good.label, Counters.addPulseGood,
            Counters.addCountConflict, bumpSat]
    · intro none
      have label := State.labelNow_none none
      have other : ∀ r, s.labelNow now ≠ .good r := fun r => by rw [label]; exact PulseLabel.noConfusion
      have ref := State.accepted_ref now s
      rw [label] at ref
      have maint := State.accepted_maint_unlabelled label
      refine ⟨keeps other, ?_⟩
      rw [unused other]
      split
      next acquire => simp [State.breakStreak, ref, maint, acquire, PulseLabel.record]
      next idle => simp [ref, maint, idle, PulseLabel.record]
    · intro w waits lower upper low
      have label := State.labelNow_low waits lower upper low
      have other : ∀ r, s.labelNow now ≠ .good r := fun r => by rw [label]; exact PulseLabel.noConfusion
      have ref := State.accepted_ref now s
      have counters := State.accepted_counters now s
      rw [label] at ref counters
      refine ⟨keeps other, ?_⟩
      rw [unused other]
      split
      next acquire => simp [State.breakStreak, ref, counters, acquire, PulseLabel.record, Counters.addPulseRejected, bumpSat]
      next idle => simp [ref, counters, idle, PulseLabel.record, Counters.addPulseRejected, bumpSat]

end Sys2Proof.Proofs
end

section
/-! PROOFS. The tests of pulses in LOCKED (O46). -/

namespace Sys2Proof.Machine

section
variable {now : Instant} {s : State} {pe : PulseEpoch} {r : RefRecord}

/-- What accepting a pulse has recorded (R28, R31), which its handling leaves. -/
def RefUnit.received (r : RefUnit) : Option Int × List AcceptedPulse × Option WaitingRecord × Option RefRecord :=
  (r.prevPulse, r.pulses, r.waiting, r.lastLabel)

theorem State.outlierPulse_received (s : State) : s.outlierPulse.ref.received = s.ref.received := by
  by_cases fourth : s.ref.outlierStreak = 3
  · rw [State.outlierPulse_fourth fourth, State.lockedToAcquire_ref]
    rfl
  · rw [State.outlierPulse_stays fourth]
    rfl

theorem State.conflictPulse_received (s : State) : s.conflictPulse.ref.received = s.ref.received := by
  by_cases third : s.ref.conflictStreak = 2
  · rw [State.conflictPulse_third third, State.lockedToAcquire_ref]
    rfl
  · rw [State.conflictPulse_stays third]
    rfl

/-- The leap kind of a sample changes nothing of the reference but the none-run (R42). -/
theorem State.countNone_ref (r : RefRecord) (s : State) :
    (s.countNone r).ref = { s.ref with noneRun := (s.countNone r).ref.noneRun } := by
  unfold State.countNone
  repeat' split
  all_goals simp

theorem State.leapOffer_ref (r : RefRecord) (s : State) : (s.leapOffer r).ref = s.ref := by simp

theorem State.lockedGood_received (r : RefRecord) (pe : PulseEpoch) (s : State) :
    (s.lockedGood r pe).ref.received = s.ref.received := by
  by_cases own : s.ownCountFor (handed r.n pe) = some r.n
  · by_cases beyond : s.outlier < ((refError pe.tick pe.epoch r.corrNs).natAbs : Int)
    · rw [State.lockedGood_outlier own beyond, State.outlierPulse_received]
      rfl
    · rw [State.lockedGood_sample own beyond, State.leapOffer_ref, State.countNone_ref]
      rfl
  · rw [State.lockedGood_conflict own, State.conflictPulse_received]
    rfl

theorem State.outlierPulse_run (fresh : s.ref.unlabelledRun = 0) : s.outlierPulse.ref.unlabelledRun = 0 := by
  by_cases fourth : s.ref.outlierStreak = 3
  · rw [State.outlierPulse_fourth fourth, State.lockedToAcquire_ref]
    rfl
  · rw [State.outlierPulse_stays fourth]
    exact fresh

theorem State.conflictPulse_run (fresh : s.ref.unlabelledRun = 0) : s.conflictPulse.ref.unlabelledRun = 0 := by
  by_cases third : s.ref.conflictStreak = 2
  · rw [State.conflictPulse_third third, State.lockedToAcquire_ref]
    rfl
  · rw [State.conflictPulse_stays third]
    exact fresh

theorem State.lockedGood_run (r : RefRecord) (pe : PulseEpoch) (s : State) : (s.lockedGood r pe).ref.unlabelledRun = 0 := by
  by_cases own : s.ownCountFor (handed r.n pe) = some r.n
  · by_cases beyond : s.outlier < ((refError pe.tick pe.epoch r.corrNs).natAbs : Int)
    · rw [State.lockedGood_outlier own beyond, State.outlierPulse_run rfl]
    · rw [State.lockedGood_sample own beyond, State.leapOffer_ref, State.countNone_ref]
      rfl
  · rw [State.lockedGood_conflict own, State.conflictPulse_run rfl]

/-- The state with its run of unlabelled pulses replaced (R38). -/
def State.withRun (k : Nat) (s : State) : State := { s with ref := { s.ref with unlabelledRun := k } }

/-- The correction that the last label leaves for an unlabelled pulse (R38). -/
def RefUnit.lastCorrection (r : RefUnit) : Int := r.lastLabel.elim 0 RefRecord.corrNs

theorem State.lockedUnlabelled_outlier (short : s.ref.unlabelledRun < 10)
    (beyond : s.outlier < ((refError pe.tick pe.epoch s.ref.lastCorrection).natAbs : Int)) :
    s.lockedUnlabelled pe = (s.withRun (s.ref.unlabelledRun + 1)).outlierPulse := by
  unfold State.lockedUnlabelled
  rw [if_pos short]
  unfold RefUnit.lastCorrection at beyond
  cases held : s.ref.lastLabel with
  | none => exact if_pos (by rw [held] at beyond; exact beyond)
  | some r => exact if_pos (by rw [held] at beyond; exact beyond)

theorem State.lockedUnlabelled_sample (short : s.ref.unlabelledRun < 10)
    (inside : ¬ s.outlier < ((refError pe.tick pe.epoch s.ref.lastCorrection).natAbs : Int)) :
    s.lockedUnlabelled pe =
      (s.withRun (s.ref.unlabelledRun + 1)).samplePulse (refError pe.tick pe.epoch s.ref.lastCorrection) := by
  unfold State.lockedUnlabelled
  rw [if_pos short]
  unfold RefUnit.lastCorrection at inside ⊢
  cases held : s.ref.lastLabel with
  | none => exact if_neg (by rw [held] at inside; exact inside)
  | some r => exact if_neg (by rw [held] at inside; exact inside)

theorem State.lockedUnlabelled_past (long : 10 ≤ s.ref.unlabelledRun) : s.lockedUnlabelled pe = s.lockedLow :=
  if_neg (not_lt.mpr long)

theorem State.lockedUnlabelled_received (pe : PulseEpoch) (s : State) :
    (s.lockedUnlabelled pe).ref.received = s.ref.received := by
  by_cases short : s.ref.unlabelledRun < 10
  · by_cases beyond : s.outlier < ((refError pe.tick pe.epoch s.ref.lastCorrection).natAbs : Int)
    · rw [State.lockedUnlabelled_outlier short beyond, State.outlierPulse_received]
      rfl
    · rw [State.lockedUnlabelled_sample short beyond]
      rfl
  · rw [State.lockedUnlabelled_past (not_lt.mp short)]
    rfl

theorem State.lockedUnlabelled_schedule (pe : PulseEpoch) (s : State) : (s.lockedUnlabelled pe).schedule = s.schedule := by
  by_cases short : s.ref.unlabelledRun < 10
  · by_cases beyond : s.outlier < ((refError pe.tick pe.epoch s.ref.lastCorrection).natAbs : Int)
    · rw [State.lockedUnlabelled_outlier short beyond, (State.outlierPulse_schedule _).1]
      rfl
    · rw [State.lockedUnlabelled_sample short beyond]
      rfl
  · rw [State.lockedUnlabelled_past (not_lt.mp short)]
    rfl

/-- The handling of a pulse in LOCKED leaves what was received, the count and the line (R37, R38). -/
theorem State.handleLocked_keeps (label : PulseLabel) (pe : PulseEpoch) (locked : s.ref.state = .locked) :
    (s.handlePulse label pe).ref.received = s.ref.received ∧ (s.handlePulse label pe).time.n = s.time.n ∧
      (s.handlePulse label pe).key = s.key := by
  cases label with
  | good r =>
    have handled : s.handlePulse (.good r) pe = s.lockedGood r pe := by simp [State.handlePulse, locked]
    rw [handled]
    exact ⟨State.lockedGood_received r pe s, by simp, by simp⟩
  | low r =>
    have handled : s.handlePulse (.low r) pe = s.lockedLow := by simp [State.handlePulse, locked]
    rw [handled]
    exact ⟨rfl, rfl, rfl⟩
  | unlabelled =>
    have handled : s.handlePulse .unlabelled pe = s.lockedUnlabelled pe := by simp [State.handlePulse, locked]
    rw [handled]
    exact ⟨State.lockedUnlabelled_received pe s, by simp, by simp⟩

end

end Sys2Proof.Machine

namespace Sys2Proof.Proofs

open Sys2Proof.Machine

/-- Settles O46, by the label of the pulse and the tests in their order. -/
theorem lockedPulsesAreTested : Obligations.LockedPulsesAreTested := by
  intro now s pe accepted epoch locked
  have tick : pe.tick = now.tick - 10 := pulseEpoch_tick epoch
  have still : (s.accepted now).ref.state = .locked := by simpa using locked
  have answered := exec_secInPulse accepted epoch
  obtain ⟨received, n, key⟩ := State.handleLocked_keeps (s.labelNow now) pe still
  have acceptedRef := State.accepted_ref now s
  have counters := State.accepted_counters now s
  generalize u_is : (s.accepted now).handlePulse (s.labelNow now) pe = t at answered received n key
  simp only [RefUnit.received, Prod.mk.injEq, acceptedRef] at received
  obtain ⟨prevPulse, pulses, waiting, lastLabel⟩ := received
  refine ⟨t, answered, by rw [n, State.accepted_time], by rw [key, State.accepted_key], prevPulse, ?_⟩
  intro c plus beyond kept samples leaves outlier
  have keptAs {m : Bool} (missing : (s.labelNow now).missing s.ref.unlabelledRun = m) : kept m := by
    simp only [kept, pulses, missing]
    rfl
  have left {v : RefUnit} (is : t.ref = v.lockedToAcquire now.tick) : leaves := by
    simp only [leaves, is]
    exact ⟨rfl, rfl, rfl, rfl, rfl, rfl, rfl, rfl, rfl⟩
  have refused {k : Nat} (is : t = ((s.accepted now).withRun k).outlierPulse) :
      outlier (s.accepted now).maint.counters.pulsesRejected ∧ (s.ref.outlierStreak ≠ 3 → t.ref.unlabelledRun = k) := by
    obtain ⟨schedule, -, counted⟩ := ((s.accepted now).withRun k).outlierPulse_schedule
    have stays (few : s.ref.outlierStreak ≠ 3) : t = ((s.accepted now).withRun k).outlierCounted :=
      is.trans (State.outlierPulse_stays (show (s.accepted now).ref.outlierStreak ≠ 3 by rw [acceptedRef]; exact few))
    refine ⟨⟨?_, ?_, ?_, ?_, ?_⟩, ?_⟩
    · rw [is]
      simp [State.withRun]
    · rw [is, schedule]
      simp [State.withRun]
    · rw [is, counted]
      rfl
    · intro few
      simp [stays few, State.outlierCounted, State.withRun, acceptedRef, locked]
    · intro fourth
      refine left (v := ((s.accepted now).withRun k).outlierCounted.ref) ?_
      have full : ((s.accepted now).withRun k).ref.outlierStreak = 3 :=
        show (s.accepted now).ref.outlierStreak = 3 by rw [acceptedRef]; exact fourth
      rw [is, State.outlierPulse_fourth full, State.lockedToAcquire_ref]
      simp [State.outlierCounted, State.withRun]
    · intro few
      simp [stays few, State.outlierCounted, State.withRun]
  have beyond_iff {e : Int} : (s.accepted now).outlier < (e.natAbs : Int) ↔ beyond e := by
    rw [State.beyond_outlier_iff, State.accepted_load]
  refine ⟨?_, ?_, ?_⟩
  · intro r own good counts e
    have label := good.label
    rw [label] at waiting lastLabel counters
    have handled : t = (s.accepted now).lockedGood r pe := by
      rw [← u_is, label]
      simp [State.handlePulse, locked]
    have ownCount := State.accepted_own (now := now) (n := r.n) counts
    have refusedBefore : (s.accepted now).maint.counters.pulsesRejected = c.pulsesRejected := by rw [counters]; rfl
    have beyond_e : (s.accepted now).outlier < ((refError pe.tick pe.epoch r.corrNs).natAbs : Int) ↔ beyond e := by
      rw [tick]
      exact beyond_iff
    refine ⟨by rw [handled, State.lockedGood_run], waiting, lastLabel, keptAs (by rw [label]; rfl), ?_, ?_, ?_⟩
    · intro counted inside
      have is := handled.trans (State.lockedGood_sample (by rw [ownCount, counted]) (by rwa [beyond_e]))
      have ref := State.countNone_ref r ((s.accepted now).sampledGood r pe)
      refine ⟨⟨?_, ?_, ?_, ?_, ?_⟩, ?_⟩
      · simp [is, State.sampledGood, State.samplePulse, State.holdRef, tick, e]
      · rw [is, State.leapOffer_ref, ref]
        exact still
      · rw [is, State.leapOffer_ref, ref]
        rfl
      · rw [is, State.leapOffer_ref, ref]
        rfl
      · rw [is, State.leapOffer_ref, ref]
        rfl
      · simp [is, State.sampledGood]
    · intro counted out
      rw [← refusedBefore]
      exact (refused (k := 0) (handled.trans (State.lockedGood_outlier (by rw [ownCount, counted]) (beyond_e.mpr out)))).1
    · intro differs
      have is : t = ((s.accepted now).withRun 0).conflictPulse :=
        handled.trans (State.lockedGood_conflict (by rw [ownCount]; exact differs))
      obtain ⟨schedule, -, counted⟩ := ((s.accepted now).withRun 0).conflictPulse_schedule
      refine ⟨?_, ?_, ?_, ?_, ?_⟩
      · rw [is]
        simp [State.withRun]
      · rw [is, schedule]
        simp [State.withRun]
      · rw [is, counted]
        simp [State.withRun, counters, Counters.addCountConflict, Counters.addPulseGood, plus, c, bumpSat]
      · intro few
        have stays : t = ((s.accepted now).withRun 0).conflictCounted :=
          is.trans (State.conflictPulse_stays (show (s.accepted now).ref.conflictStreak ≠ 2 by rw [acceptedRef]; exact few))
        simp [stays, State.conflictCounted, State.withRun, acceptedRef, locked]
      · intro third
        refine left (v := ((s.accepted now).withRun 0).conflictCounted.ref) ?_
        have full : ((s.accepted now).withRun 0).ref.conflictStreak = 2 :=
          show (s.accepted now).ref.conflictStreak = 2 by rw [acceptedRef]; exact third
        rw [is, State.conflictPulse_third full, State.lockedToAcquire_ref]
        simp [State.conflictCounted, State.withRun]
  · intro w waits lower upper low
    have label := State.labelNow_low waits lower upper low
    rw [label] at waiting lastLabel counters
    have handled : t = (s.accepted now).lockedLow := by
      rw [← u_is, label]
      simp [State.handlePulse, locked]
    refine ⟨?_, ?_, ?_, ?_, keptAs (by rw [label]; rfl), waiting, lastLabel, ?_, ?_, ?_, ?_, ?_⟩
    all_goals simp [handled, State.lockedLow, acceptedRef, locked, counters, Counters.addPulseRejected, plus, bumpSat, c]
  · intro none
    have label := State.labelNow_none none
    have maint := State.accepted_maint_unlabelled label
    rw [label] at waiting lastLabel
    have handled : t = (s.accepted now).lockedUnlabelled pe := by
      rw [← u_is, label]
      simp [State.handlePulse, locked]
    have run : (s.accepted now).ref.unlabelledRun = s.ref.unlabelledRun := by rw [acceptedRef]
    refine ⟨waiting, lastLabel, ?_, ?_, ?_⟩
    · rw [handled, State.lockedUnlabelled_schedule, State.accepted_schedule]
    · intro long
      have is := handled.trans (State.lockedUnlabelled_past (by rwa [run]))
      refine ⟨?_, ?_, ?_, ?_, keptAs (by simp [label, PulseLabel.missing, long]), ?_, ?_, ?_, ?_⟩
      all_goals simp [is, State.lockedLow, acceptedRef, locked, maint]
    · intro corr corrected short e
      have correction : (s.accepted now).ref.lastCorrection = corr := by
        have last : (s.accepted now).ref.lastLabel = s.ref.lastLabel := by
          rw [acceptedRef, label]
          rfl
        unfold RefUnit.lastCorrection
        rw [last]
        obtain ⟨none, zero⟩ | ⟨r, held, is⟩ := corrected
        · rw [none, zero]
          rfl
        · rw [held, is]
          rfl
      have beyond_e : (s.accepted now).outlier <
          ((refError pe.tick pe.epoch (s.accepted now).ref.lastCorrection).natAbs : Int) ↔ beyond e := by
        rw [correction, tick]
        exact beyond_iff
      refine ⟨keptAs (by simp [label, PulseLabel.missing, short]), ?_, ?_⟩
      · intro inside
        have is := handled.trans (State.lockedUnlabelled_sample (by rwa [run]) (by rwa [beyond_e]))
        refine ⟨⟨?_, ?_, ?_, ?_, ?_⟩, ?_, ?_, ?_⟩
        all_goals simp [is, State.samplePulse, State.holdRef, State.withRun, tick, correction, e, locked, run, maint]
      · intro out
        have is := handled.trans (State.lockedUnlabelled_outlier (by rwa [run]) (beyond_e.mpr out))
        obtain ⟨counts, runs⟩ := refused is
        rw [maint] at counts
        rw [run] at runs
        exact ⟨counts, runs⟩

end Sys2Proof.Proofs
end

section
/-! PROOFS. The judgement of an own epoch's reference window, and the entry into HOLDOVER (O47). -/

namespace Sys2Proof.Machine

section
variable {now : Instant} {s : State} {before : TimeClass}

theorem State.raise_cls (k : AlarmKind) (s : State) : (s.raise k).cls = s.cls := by
  apply State.cls_congr <;> simp

/-- Away from LOCKED the class is not A (R51). -/
theorem State.cls_unlocked (left : s.ref.state ≠ .locked) : s.cls ≠ .a := by
  unfold State.cls timeClass
  split
  · exact TimeClass.noConfusion
  · rw [if_neg left]
    split <;> exact TimeClass.noConfusion

theorem State.cls_locked (locked : s.ref.state = .locked) (set : s.time.n.isSome = true) : s.cls = .a := by
  unfold State.cls timeClass
  obtain ⟨n, held⟩ := Option.isSome_iff_exists.mp set
  rw [held]
  exact if_pos locked

theorem State.cls_unset (unset : s.time.n = none) : s.cls = .u := by
  unfold State.cls timeClass
  rw [unset]

/-- The class change at a loss of LOCKED takes DEFERRED to SURVEY, and no other standing (R51, R134). -/
theorem State.classChanged_left (left : s.ref.state ≠ .locked) :
    (before = .a → (s.cls = .b ∨ s.cls = .c) → s.ctl.standing = .deferred →
      (s.classChanged before).ctl.standing = .survey .watching) ∧
    (s.ctl.standing ≠ .deferred → s.classChanged before = s) := by
  have notA := State.cls_unlocked left
  unfold State.classChanged
  rw [if_neg (fun h => notA h.2)]
  refine ⟨?_, ?_⟩
  · intro was falls deferred
    rw [if_pos ⟨was, falls, deferred⟩]
    exact s.enterSurvey_ctl.1
  · intro other
    rw [if_neg (fun h => other h.2.2)]

theorem State.leftLocked_standing (left : s.ref.state ≠ .locked) :
    (before = .a → (s.cls = .b ∨ s.cls = .c) → s.ctl.standing = .deferred →
      (s.leftLocked before).ctl.standing = .survey .watching) ∧
    (s.ctl.standing ≠ .deferred → (s.leftLocked before).ctl.standing = s.ctl.standing) := by
  unfold State.leftLocked
  dsimp only
  split
  · obtain ⟨falls, stays⟩ := State.classChanged_left (s := s.raise .timeAged) (before := before) (by simpa using left)
    rw [State.raise_cls] at falls
    refine ⟨by simpa using falls, fun other => ?_⟩
    rw [stays (by simpa using other)]
    simp
  · obtain ⟨falls, stays⟩ := State.classChanged_left (s := s) (before := before) left
    exact ⟨falls, fun other => by rw [stays other]⟩

theorem State.leftLocked_cls (before : TimeClass) (s : State) : (s.leftLocked before).cls = s.cls := by
  apply State.cls_congr <;> simp

theorem State.lockedToHoldover_ref (s : State) : s.lockedToHoldover.ref = s.ref.lockedToHoldover := by
  simp [State.lockedToHoldover]

theorem State.lockedToHoldover_holds (s : State) : s.lockedToHoldover.holds .refLost = true :=
  State.Signals.holds (State.Signals.leftLocked (.refl _) s.cls) (State.raise_holds .refLost _)

/-- LOCKED left for HOLDOVER takes DEFERRED to SURVEY when the class falls (R51, R134). -/
theorem State.lockedToHoldover_standing (locked : s.ref.state = .locked) :
    (s.ctl.standing = .deferred → (s.lockedToHoldover.cls = .b ∨ s.lockedToHoldover.cls = .c) →
      s.lockedToHoldover.ctl.standing = .survey .watching) ∧
    (s.ctl.standing ≠ .deferred → s.lockedToHoldover.ctl.standing = s.ctl.standing) := by
  obtain ⟨falls, stays⟩ := State.leftLocked_standing (before := s.cls)
    (s := ({ s with ref := s.ref.lockedToHoldover } : State).raise .refLost) (by simp [RefUnit.lockedToHoldover])
  have cls : s.lockedToHoldover.cls = (({ s with ref := s.ref.lockedToHoldover } : State).raise .refLost).cls :=
    State.leftLocked_cls _ _
  refine ⟨?_, ?_⟩
  · intro deferred fell
    have set : s.time.n.isSome = true := by
      rcases unset : s.time.n with _ | n
      · rw [State.cls_unset (by simpa [State.lockedToHoldover] using unset)] at fell
        simp at fell
      · rfl
    exact falls (State.cls_locked locked set) (cls ▸ fell) (by simpa using deferred)
  · intro other
    exact (stays (by simpa using other)).trans (by simp)

/-! ## The window -/

theorem exec_refWindowClose {p : PastSecond} (up : s.timer.monitor = .up) (locked : s.ref.state = .locked) (mem : p ∈ s.timer.past)
    (closes : p.epoch + 5000000 = now.tick) (fresh : p.refJudged = false) :
    exec (.refWindowClose now) s = .next (s.at now).windowEffect := by
  have closing : p.epoch + Config.halfWindow = now.tick := closes
  have due : s.timer.past.any (windowDue now.tick) = true :=
    List.any_eq_true.mpr ⟨p, mem, by simp [windowDue, fresh, closing]⟩
  exact exec_due (c := .refWindowClose now) (by simp [Instr.due, up, locked, due])

theorem secondMissing_iff {e : Int} {pulses : List AcceptedPulse} : secondMissing e pulses = true ↔
    (∀ q ∈ pulses, ¬ (e - 5000000 ≤ q.tick ∧ q.tick < e + 5000000)) ∨
      ∃ q ∈ pulses, (e - 5000000 ≤ q.tick ∧ q.tick < e + 5000000) ∧ q.missing = true := by
  have half : Config.halfWindow = 5000000 := rfl
  simp [secondMissing, half, and_assoc]

/-- The seconds whose window closes now, marked as judged (R39). -/
def State.judged (s : State) : State := { s with timer := { s.timer with
  past := s.timer.past.map (fun p => if windowDue s.tick p then { p with refJudged := true } else p) } }

theorem State.windowEffect_present (there : secondMissing (s.tick - Config.halfWindow) s.ref.pulses = false) :
    s.windowEffect = s.judged := if_neg (Bool.not_eq_true _ ▸ there)

theorem State.windowEffect_missing (missing : secondMissing (s.tick - Config.halfWindow) s.ref.pulses = true)
    (few : s.ref.missingStreak ≠ 2) :
    s.windowEffect = { s.judged with ref := { s.ref with missingStreak := s.ref.missingStreak + 1 } } :=
  (if_pos missing).trans (if_neg (show ¬ s.ref.missingStreak + 1 = 3 by omega))

theorem State.windowEffect_third (missing : secondMissing (s.tick - Config.halfWindow) s.ref.pulses = true)
    (third : s.ref.missingStreak = 2) : s.windowEffect = s.judged.lockedToHoldover :=
  (if_pos missing).trans (if_pos (show s.ref.missingStreak + 1 = 3 by omega))

theorem State.windowEffect_timer (s : State) : s.windowEffect.timer = s.judged.timer := by
  unfold State.windowEffect
  dsimp only
  split
  · split
    · simp [State.judged]
    · rfl
  · rfl

/-- No window that closes now is left unjudged (R39). -/
theorem State.judged_past {q : PastSecond} (mem : q ∈ s.judged.timer.past) (closes : q.epoch + 5000000 = s.tick) :
    q.refJudged = true := by
  obtain ⟨p, -, rfl⟩ := List.mem_map.mp mem
  split
  · rfl
  next idle =>
    rw [if_neg idle] at closes
    have closing : p.epoch + Config.halfWindow = s.tick := closes
    simpa [windowDue, closing] using idle

end

end Sys2Proof.Machine

namespace Sys2Proof.Proofs

open Sys2Proof.Machine

/-- Settles O47, by the pulses in the window and the missing streak. -/
theorem threeMissingSecondsEnterHoldover : Obligations.ThreeMissingSecondsEnterHoldover := by
  intro now s p up locked mem closes fresh
  refine ⟨_, exec_refWindowClose up locked mem closes fresh, ?_⟩
  intro inside missing
  have at_epoch : now.tick - Config.halfWindow = p.epoch := show now.tick - 5000000 = p.epoch by omega
  have missed : secondMissing ((s.at now).tick - Config.halfWindow) (s.at now).ref.pulses = true ↔ missing := by
    change secondMissing (now.tick - Config.halfWindow) s.ref.pulses = true ↔ missing
    rw [at_epoch]
    exact secondMissing_iff
  refine ⟨?_, ?_, ?_, ?_, ?_, ?_, ?_, ?_⟩
  · intro there
    rw [State.windowEffect_present (Bool.not_eq_true _ ▸ mt missed.mp there)]
    exact ⟨rfl, rfl, rfl, rfl⟩
  · intro missing few
    rw [State.windowEffect_missing (missed.mpr missing) few]
    exact ⟨rfl, rfl, rfl⟩
  · intro missing third
    rw [State.windowEffect_third (missed.mpr missing) third, State.lockedToHoldover_ref]
    exact ⟨rfl, rfl, rfl, rfl, rfl, State.lockedToHoldover_holds _, State.lockedToHoldover_standing (s := (s.at now).judged) locked⟩
  · intro q past same
    rw [State.windowEffect_timer] at past
    exact State.judged_past past (by rw [same]; exact closes)
  · rw [State.windowEffect_timer]
    rfl
  · rw [State.windowEffect_timer]
    rfl
  · simp
  · simp

end Sys2Proof.Proofs
end

section
/-! PROOFS. The receiver on TREC_IN and the checks of a complete record (O43). -/

namespace Sys2Proof.Machine

section
variable {now : Instant} {s : State}

/-! ## TREC_IN -/

theorem State.onRecordLine_down (now : Instant) (e : RecordLineEvent) (down : s.timer.monitor = .down) : s.onRecordLine now e = s := by
  unfold State.onRecordLine
  rw [down]
  exact if_neg Monitor.noConfusion

theorem State.onRecordLine_start (up : s.timer.monitor = .up) (between : s.ref.trec.bits = none) :
    s.onRecordLine now .startBit = s.startBit now := by
  simp [State.onRecordLine, up, between]

theorem State.startBit_late {e : Int} (held : s.ref.trec.byteEnd = some e) (late : e + 50000 < now.tick) :
    s.startBit now = (s.queue (.recordByteGap now e)).setRecordLine { RecordLine.idle with bits := some [] } := by
  unfold State.startBit
  rw [held]
  exact if_pos (show 50000 < now.tick - e by omega)

theorem State.startBit_next (soon : ∀ e ∈ s.ref.trec.byteEnd, now.tick ≤ e + 50000) :
    s.startBit now = s.setRecordLine { s.ref.trec with bits := some [] } := by
  unfold State.startBit
  split
  next e held => exact if_neg (not_lt.mpr (show now.tick - e ≤ 50000 by have := soon e held; omega))
  · rfl

/-- The eight data bits of a byte, least significant first, spell it (R184). -/
theorem serialByte_bits (b : Byte) : serialByte ((List.range 8).map b.getLsbD) = b := by
  have spelt : ∀ b : Byte, serialByte ((List.range 8).map b.getLsbD) = b := by decide
  exact spelt b

/-- The bits of a byte, each at its moment, are shifted in (R29, R184). -/
theorem State.onRecordLine_byte {moments : List Instant} (b : Byte) (up : s.timer.monitor = .up) (begun : s.ref.trec.bits = some [])
    (eight : moments.length = 8) :
    (moments.zip (List.range 8)).foldl
      (fun s x => s.onRecordLine x.1 (.bit (if b.getLsbD x.2 then .high else .low))) s =
      s.setRecordLine { s.ref.trec with bits := some ((List.range 8).map b.getLsbD) } := by
  have level (x : Instant × Nat) : ((if b.getLsbD x.2 then Level.high else .low) == .high) = b.getLsbD x.2 := by
    cases b.getLsbD x.2 <;> rfl
  have bits : (moments.zip (List.range 8)).map (fun x => b.getLsbD x.2) = (List.range 8).map b.getLsbD := by
    calc (moments.zip (List.range 8)).map (fun x => b.getLsbD x.2)
        = ((moments.zip (List.range 8)).map Prod.snd).map b.getLsbD := List.map_map.symm
      _ = (List.range 8).map b.getLsbD := by rw [List.map_snd_zip (by simp [eight])]
  rw [State.onRecordLine_shifts Prod.fst (fun x => if b.getLsbD x.2 then .high else .low) _ up begun (by simp [eight])]
  simp only [level, bits, List.nil_append]

theorem State.onRecordLine_stop {bits : List Bool} (stop : Level) (up : s.timer.monitor = .up) (held : s.ref.trec.bits = some bits)
    (eight : bits.length = 8) :
    s.onRecordLine now (.bit stop) = if stop = .high then s.recordByte now (serialByte bits) else s.lowStopBit now := by
  simp [State.onRecordLine, up, held, eight]

theorem State.lowStopBit_hunting (hunting : s.ref.trec.record = []) : s.lowStopBit now = s.setRecordLine RecordLine.idle := by
  unfold State.lowStopBit
  rw [if_pos hunting]

theorem State.lowStopBit_inside (inside : s.ref.trec.record ≠ []) :
    s.lowStopBit now = (s.queue (.recordLowStopBit now)).setRecordLine RecordLine.idle := by
  unfold State.lowStopBit
  rw [if_neg inside]

theorem State.recordByte_other {b : Byte} (hunting : s.ref.trec.record = []) (other : b ≠ 0xC3#8) :
    s.recordByte now b = s.setRecordLine RecordLine.idle := by
  simp [State.recordByte, hunting, other]

theorem State.recordByte_start {b : Byte} (hunting : s.ref.trec.record = []) (start : b = 0xC3#8) :
    s.recordByte now b =
      (s.queue (.recordStart now)).setRecordLine { bits := none, record := [b], byteEnd := some now.tick } := by
  simp [State.recordByte, hunting, start]

theorem State.recordByte_inside {b : Byte} (inside : s.ref.trec.record ≠ []) (short : s.ref.trec.record.length ≠ 15) :
    s.recordByte now b =
      s.setRecordLine { bits := none, record := s.ref.trec.record ++ [b], byteEnd := some now.tick } := by
  simp [State.recordByte, inside, short]

theorem State.recordByte_last {b : Byte} (whole : s.ref.trec.record.length = 15) :
    s.recordByte now b = (s.queue (.referenceRecord now (s.ref.trec.record ++ [b]))).setRecordLine RecordLine.idle := by
  simp [State.recordByte, whole]

/-! ## The commands of a record -/

theorem exec_recordStart (up : s.timer.monitor = .up) (hunting : s.ref.assembling = false) :
    exec (.recordStart now) s = .next { s.at now with ref := { s.ref with assembling := true } } :=
  exec_due (c := .recordStart now) (by simp [Instr.due, up, hunting])

theorem exec_recordByteGap {e : Int} (up : s.timer.monitor = .up) (inside : s.ref.assembling = true) (late : e + 50000 < now.tick) :
    exec (.recordByteGap now e) s = .next (s.at now).abandonRecord := by
  have gap : Config.byteGap < now.tick - e := show 50000 < now.tick - e by omega
  exact exec_due (c := .recordByteGap now e) (by simp [Instr.due, up, inside, gap])

theorem exec_recordByteGap_soon {e : Int} (soon : now.tick ≤ e + 50000) : exec (.recordByteGap now e) s = .next s := by
  have gap : ¬ Config.byteGap < now.tick - e := show ¬ 50000 < now.tick - e by omega
  exact exec_idle (c := .recordByteGap now e) (by simp [Instr.due, gap])

theorem exec_recordLowStopBit (up : s.timer.monitor = .up) (inside : s.ref.assembling = true) :
    exec (.recordLowStopBit now) s = .next (s.at now).abandonRecord :=
  exec_due (c := .recordLowStopBit now) (by simp [Instr.due, up, inside])

theorem exec_recordStale {w : WaitingRecord} (up : s.timer.monitor = .up) (waits : s.ref.waiting = some w)
    (stale : w.time + 9500000 = now.tick) : exec (.recordStale now) s = .next (s.at now).dropWaiting := by
  have due : w.time + Config.labelTo = now.tick := stale
  exact exec_due (c := .recordStale now) (by simp [Instr.due, up, waits, due])

theorem exec_referenceRecord {bytes : List Byte} (up : s.timer.monitor = .up) (inside : s.ref.assembling = true)
    (whole : bytes.length = 16) (start : bytes.head? = some 0xC3#8) :
    exec (.referenceRecord now bytes) s = .next ((s.at now).recordEffect bytes) :=
  exec_due (c := .referenceRecord now bytes) (by simp [Instr.due, up, inside, whole, start])

/-! ## The checks of a record -/

/-- A bad record counts one in RECORDS_BAD, and the receiver hunts again (R29, R30). -/
theorem State.recordEffect_bad {bytes : List Byte} (bad : crc16 bytes ≠ 0#16 ∨ byteAt bytes 1 ≠ 1) :
    s.recordEffect bytes = s.abandonRecord := by
  unfold State.recordEffect
  by_cases crc : crc16 bytes = 0#16
  · exact (if_neg (not_not_intro crc)).trans (if_pos (bad.resolve_left (not_not_intro crc)))
  · exact if_pos crc

theorem State.recordEffect_good {bytes : List Byte} (crc : crc16 bytes = 0#16) (kind : byteAt bytes 1 = 1) :
    s.recordEffect bytes =
      let u := ({ s with ref := { s.ref with assembling := false } } : State).compareSeq (recordSeq bytes)
      if countInRange (readRecord bytes).n then u.acceptRecord (readRecord bytes) else u.count Counters.addRecordBad :=
  (if_neg (not_not_intro crc)).trans (if_neg (not_not_intro kind))

/-- The sequence comparison keeps the number and counts a gap where the step is not one (R30). -/
theorem State.compareSeq_eq {seq gaps : Nat}
    (follows : (s.ref.prevSeq = none ∨ s.ref.prevSeq = some ((seq + 65535) % 65536)) → gaps = s.maint.counters.recordGaps)
    (jumps : ∀ p, s.ref.prevSeq = some p → seq ≠ (p + 1) % 65536 → gaps = bumpSat s.maint.counters.recordGaps)
    (range : ∀ p, s.ref.prevSeq = some p → p < 65536) :
    s.compareSeq seq = { s with
      ref := { s.ref with prevSeq := some seq }
      maint := { s.maint with counters := { s.maint.counters with recordGaps := gaps } } } := by
  unfold State.compareSeq
  rcases prev : s.ref.prevSeq with _ | p
  · rw [follows (.inl prev)]
  · have inRange := range p prev
    by_cases next : seq = (p + 1) % 65536
    · have before : p = (seq + 65535) % 65536 := by omega
      rw [follows (.inr (by rw [prev, before]))]
      simp only [if_pos next]
    · rw [jumps p prev next]
      simp only [if_neg next]
      rfl

/-- An accepted record waits to label a pulse; leap kind 3 and a record still waiting are counted (R30, R31). -/
theorem State.acceptRecord_eq (r : RefRecord) (s : State) : s.acceptRecord r = { s with
    ref := { s.ref with waiting := some { record := r, time := s.tick } }
    maint := { s.maint with counters := { s.maint.counters with
      leapRefused := if r.leapKind = 3 then bumpSat s.maint.counters.leapRefused else s.maint.counters.leapRefused
      recordsBad := if s.ref.waiting.isSome then bumpSat s.maint.counters.recordsBad else s.maint.counters.recordsBad } } } := by
  unfold State.acceptRecord
  by_cases three : r.leapKind = 3
  · cases waits : s.ref.waiting <;> simp [three, waits, State.count, State.dropWaiting, Counters.addLeapRefused, Counters.addRecordBad]
  · cases waits : s.ref.waiting <;> simp [three, waits, State.count, State.dropWaiting, Counters.addRecordBad]

theorem beInt_two (bytes : List Byte) (i : Nat) : beInt bytes i 2 =
    (byteAt bytes i : Int) * 256 + byteAt bytes (i + 1) - if 128 ≤ byteAt bytes i then 65536 else 0 := by
  have high := byteAt_lt bytes i
  have low := byteAt_lt bytes (i + 1)
  have small : (byteAt bytes i * 256 + byteAt bytes (i + 1)) % 65536 = byteAt bytes i * 256 + byteAt bytes (i + 1) := by omega
  have whole : 2 ^ (8 * 2) = 65536 := rfl
  have half : 2 ^ (8 * 2 - 1) = 32768 := rfl
  unfold beInt signedOf
  rw [beNat_two, whole, half, small]
  split <;> split <;> omega

end

end Sys2Proof.Machine

namespace Sys2Proof.Proofs

open Sys2Proof.Machine

/-- Settles O43, by the events on the pin, the commands that abandon a record, and the checks of a complete one in order. -/
theorem recordsAreReceivedAndChecked : Obligations.RecordsAreReceivedAndChecked := by
  refine ⟨fun now e s => State.onRecordLine_down now e, ⟨?_, ?_, ?_⟩, ?_, ?_⟩
  · intro start s up between begun
    have began := State.onRecordLine_start (now := start) up between
    refine ⟨fun e held late => ?_, fun soon => ?_⟩
    · exact began.trans (State.startBit_late held late)
    · simp only [begun, List.append_nil]
      exact began.trans (State.startBit_next soon)
  · intro s moments last b stop up begun eight shifted t record ends
    have byte : shifted = s.setRecordLine { s.ref.trec with bits := some ((List.range 8).map b.getLsbD) } :=
      State.onRecordLine_byte b up begun eight
    have stopped : t = if stop = .high then shifted.recordByte last b else shifted.lowStopBit last := by
      have bits : shifted.ref.trec.bits = some ((List.range 8).map b.getLsbD) := by rw [byte]; rfl
      have monitor : shifted.timer.monitor = .up := by rw [byte]; exact up
      simp only [t, State.onRecordLine_stop stop monitor bits (by simp), serialByte_bits]
    have held : shifted.ref.trec.record = record := by rw [byte]; rfl
    have plain {l : RecordLine} (is : t = s.setRecordLine l) : ends l [] := by
      simp only [ends, is, List.append_nil]
      rfl
    have sends {c : Instr} {l : RecordLine} (is : t = (s.queue c).setRecordLine l) : ends l [c] := is
    have high (is : stop = .high) : t = shifted.recordByte last b := by rw [stopped, if_pos is]
    have low (is : stop = .low) : t = shifted.lowStopBit last := by rw [stopped, is]; rfl
    refine ⟨?_, ?_, ?_, ?_, ?_, ?_⟩
    · intro is hunting
      refine plain ?_
      rw [low is, State.lowStopBit_hunting (held.trans hunting), byte]
      rfl
    · intro is inside
      refine sends ?_
      rw [low is, State.lowStopBit_inside (held ▸ inside), byte]
      rfl
    · intro is hunting other
      refine plain ?_
      rw [high is, State.recordByte_other (held.trans hunting) other, byte]
      rfl
    · intro is hunting start
      refine sends ?_
      rw [high is, State.recordByte_start (held.trans hunting) start, byte]
      rfl
    · intro is inside short
      refine plain ?_
      rw [high is, State.recordByte_inside (held ▸ inside) (held ▸ short), held, byte]
      rfl
    · intro is whole
      refine sends ?_
      rw [high is, State.recordByte_last (by rw [held]; exact whole), held, byte]
      rfl
  · intro start i
    unfold serialBitEnd
    omega
  · intro bad
    refine ⟨?_, ?_, ?_⟩
    · intro now s up
      exact ⟨exec_recordStart up, fun inside => exec_idle (c := .recordStart now) (by simp [Instr.due, inside])⟩
    · intro now s e up inside
      exact ⟨exec_recordByteGap up inside, exec_recordByteGap_soon, exec_recordLowStopBit up inside⟩
    · intro now s w up waits stale
      exact exec_recordStale up waits stale
  · intro now s bytes up inside whole start at_ seq n corr plus c ends
    have answered := exec_referenceRecord (now := now) up inside whole start
    have closes {ref : RefUnit} {counters : Counters} (is : (s.at now).recordEffect bytes = { s.at now with
        ref := { ref with assembling := false }, maint := { s.maint with counters := counters } }) : ends ref counters :=
      answered.trans (congrArg _ is)
    refine ⟨?_, ?_⟩
    · intro bad
      exact closes (State.recordEffect_bad bad)
    · intro crc kind gaps follows jumps range
      have sequence : recordSeq bytes = seq := beNat_two bytes 12
      have count : (readRecord bytes).n = n := by
        have value : beNat bytes 2 4 = n := by
          change (((0 * 256 + at_ 2) * 256 + at_ 3) * 256 + at_ 4) * 256 + at_ 5 = n
          omega
        exact congrArg Nat.cast value
      have compared : ({ s.at now with ref := { s.ref with assembling := false } } : State).compareSeq seq = _ :=
        State.compareSeq_eq follows jumps range
      have effect := State.recordEffect_good (s := s.at now) crc kind
      rw [sequence, show (s.at now).ref = s.ref from rfl, compared] at effect
      refine ⟨?_, ?_⟩
      · intro past
        refine closes (effect.trans ((if_neg ?_).trans rfl))
        rw [countInRange_iff, count]
        exact fun h => absurd h.2 (not_le.mpr (show (3155759999 : Int) < n by omega))
      · intro inRange
        have taken : countInRange (readRecord bytes).n = true := by
          rw [countInRange_iff, count]
          exact ⟨Int.natCast_nonneg n, show (n : Int) ≤ 3155759999 by omega⟩
        have fields : readRecord bytes = { n := n, quality := at_ 6 % 16, leapKind := at_ 7, leapDay := at_ 8 * 256 + at_ 9, corrNs := corr } := by
          have day : (beNat bytes 8 2 : Int) = at_ 8 * 256 + at_ 9 := by rw [beNat_two]; exact Int.natCast_add _ _
          have correction : beInt bytes 10 2 = corr := beInt_two bytes 10
          rw [← count, ← day, ← correction]
          rfl
        refine closes (effect.trans ((if_pos taken).trans ((State.acceptRecord_eq _ _).trans ?_)))
        rw [fields]
        rfl

end Sys2Proof.Proofs
end

section
/-! PROOFS. The fourth pulse of a streak (O45). -/

namespace Sys2Proof.Machine

section
variable {now : Instant} {s : State} {pe : PulseEpoch} {r : RefRecord} {n e own : Int}

/-! ## The samples and steps held -/

theorem State.setTime_heldRef (n : Int) (origin : Origin) (s : State) : (s.setTime n origin).timer.heldRef = s.timer.heldRef := by
  simp [State.setTime, State.setN]

/-- A count difference taken at once leaves the samples and the step held (R52). -/
theorem State.applyCountReset_held (d : Int) (s : State) :
    (s.applyCountReset d).timer.heldRef = s.timer.heldRef ∧ (s.applyCountReset d).timer.heldStep = s.timer.heldStep := by
  have shifted : (s.shiftCount d).timer.heldRef = s.timer.heldRef ∧ (s.shiftCount d).timer.heldStep = s.timer.heldStep := by
    unfold State.shiftCount
    split
    · simp [State.setN]
    · exact ⟨rfl, rfl⟩
  unfold State.applyCountReset
  split
  · exact ⟨rfl, rfl⟩
  · simpa using shifted

theorem State.handWhileUnset_heldSamples (h : HandedCount) (s : State) :
    (s.handWhileUnset h).1.timer.heldRef = s.timer.heldRef ∧ (s.handWhileUnset h).1.timer.heldStep = s.timer.heldStep := by
  unfold State.handWhileUnset
  repeat' split
  all_goals simp [State.setTime_heldRef]

/-! ## LOCKED with the time SET -/

/-- LOCKED entered with the time SET: the origin REF and the class change (R35, R50, R70). -/
def State.lockedSet (s : State) : State := (({ s with ref := s.ref.enterLocked } : State).setOrigin .ref).classChanged s.cls

theorem State.lockedSet_cls (set : s.time.n = some n) : (({ s with ref := s.ref.enterLocked } : State).setOrigin .ref).cls = .a :=
  State.cls_locked rfl (by rw [show (({ s with ref := s.ref.enterLocked } : State).setOrigin .ref).time.n = s.time.n from rfl, set]; rfl)

theorem State.lockedSet_eq (set : s.time.n = some n) (unlocked : s.ref.state ≠ .locked) :
    s.lockedSet = (let u := (({ s with ref := s.ref.enterLocked } : State).setOrigin .ref).removeLineEntries
      if s.ctl.standing = .survey .adopting then u.setPhase .watching else u) := by
  refine (if_pos ⟨State.cls_unlocked unlocked, State.lockedSet_cls set⟩).trans ?_
  simp [State.setOrigin]

theorem State.lockedSet_schedule (set : s.time.n = some n) (unlocked : s.ref.state ≠ .locked) :
    s.lockedSet.schedule = s.schedule.filter (fun x => decide (x.source = .line → x.committed = true)) := by
  have removed : (({ s with ref := s.ref.enterLocked } : State).setOrigin .ref).removeLineEntries.schedule =
      s.schedule.filter (fun x => decide (x.source = .line → x.committed = true)) := by
    rw [State.removeLineEntries, State.setSchedule_schedule]
    exact List.filter_congr fun x _ => by cases x.source <;> cases x.committed <;> rfl
  rw [State.lockedSet_eq set unlocked]
  dsimp only
  split
  · simpa using removed
  · exact removed

theorem State.lockedSet_standing (set : s.time.n = some n) (unlocked : s.ref.state ≠ .locked) (other : s.ctl.standing ≠ .survey .adopting) :
    s.lockedSet.ctl.standing = s.ctl.standing := by
  rw [State.lockedSet_eq set unlocked]
  simp [other, State.setOrigin]

theorem State.lockedSet_time (s : State) : s.lockedSet.time = { s.time with origin := some .ref, age := some 0 } := by
  simp [State.lockedSet, State.setOrigin]

theorem State.lockedSet_ref (s : State) : s.lockedSet.ref = s.ref.enterLocked := by
  simp [State.lockedSet, State.setOrigin]

@[simp] theorem State.lockedSet_frame (s : State) :
    s.lockedSet.timer = s.timer ∧ s.lockedSet.key = s.key ∧ s.lockedSet.ctl.floor = s.ctl.floor ∧ s.lockedSet.load = s.load := by
  simp [State.lockedSet, State.setOrigin]

/-! ## The completion of ACQUIRE -/

/-- LOCKED entered with the time UNSET: off the line the completion error is a held step (R36). -/
def State.lockedUnset (e : Int) (s : State) : State :=
  if s.ctl.standing = .active then { s with ref := s.ref.enterLocked } else ({ s with ref := s.ref.enterLocked } : State).holdStep e

theorem State.lockedUnset_time (e : Int) (s : State) : (s.lockedUnset e).time = s.time := by
  unfold State.lockedUnset
  split <;> rfl

theorem State.lockedUnset_heldStep (e : Int) (s : State) :
    (s.lockedUnset e).timer.heldStep = if s.ctl.standing = .active then s.timer.heldStep else some e := by
  unfold State.lockedUnset
  split <;> rfl

theorem State.completeAcquire_unset (unset : s.time.n = none) :
    s.completeAcquire n pe e = ((s.lockedUnset e).handWhileUnset (handed n pe)).1 := by
  unfold State.completeAcquire State.lockedUnset
  simp [State.timeSet, unset]

theorem State.handWhileUnset_present (present : pe.since = some 0) (range : countInRange n = true) :
    (s.handWhileUnset (handed n pe)).1 = s.setTime n .ref := by
  simp [State.handWhileUnset, handed, present, range]

theorem State.handWhileUnset_coming (coming : pe.since = none) (range : countInRange n = true) :
    (s.handWhileUnset (handed n pe)).1 =
      { s with time := { s.time with pendingSet := some { count := n, epoch := pe.epoch, origin := .ref } } } := by
  simp [State.handWhileUnset, handed, coming, range]

/-- The pending re-set that a completion while ACTIVE leaves: its two parts where they are any, and none without either (R53). -/
def resetLeft (difference e outlier : Int) : Option PendingReset :=
  let r : PendingReset :=
    { difference := if difference = 0 then none else some difference
      phase := if (e.natAbs : Int) ≤ outlier then none else some e }
  if r.difference = none ∧ r.phase = none then none else some r

theorem State.completeAcquire_active (set : s.time.n = some n) (counts : s.ownCountFor (handed r.n pe) = some own)
    (active : s.ctl.standing = .active) : s.completeAcquire r.n pe e =
      { s.lockedSet with time := { s.lockedSet.time with pendingReset := resetLeft (r.n - own) e s.outlier } } := by
  have same : ({ s with ref := s.ref.enterLocked } : State).ownCountFor (handed r.n pe) = some own := counts
  have outlier : ((({ s with ref := s.ref.enterLocked } : State).setOrigin .ref).classChanged s.cls).outlier = s.outlier := by
    simp [State.outlier, State.setOrigin]
  unfold State.completeAcquire
  simp only [State.timeSet, set, Option.isSome_some, if_true, active, beq_self_eq_true, same, outlier]
  rfl

theorem State.completeAcquire_idle (set : s.time.n = some n) (counts : s.ownCountFor (handed r.n pe) = some own)
    (idle : s.ctl.standing ≠ .active) :
    s.completeAcquire r.n pe e = (s.lockedSet.dropPendingReset.holdStep e).applyCountReset (r.n - own) := by
  have same : ({ s with ref := s.ref.enterLocked } : State).ownCountFor (handed r.n pe) = some own := counts
  unfold State.completeAcquire
  simp only [State.timeSet, set, Option.isSome_some, if_true, beq_iff_eq, idle, if_false, same]
  rfl

theorem State.completeAcquire_held (n : Int) (pe : PulseEpoch) (e : Int) (s : State) :
    (s.completeAcquire n pe e).timer.heldRef = s.timer.heldRef := by
  unfold State.completeAcquire
  dsimp only
  split
  · split
    · simp [State.setOrigin]
    · rw [(State.applyCountReset_held _ _).1]
      simp [State.holdStep, State.setOrigin, State.dropPendingReset]
  · rw [(State.handWhileUnset_heldSamples _ _).1]
    split <;> rfl

/-- A count difference taken at once gives the sum, and leaves N when the sum is out of its range (R52). -/
theorem State.applyCountReset_n {d : Int} (set : s.time.n = some n) :
    (0 ≤ n + d → n + d ≤ 3155759999 → (s.applyCountReset d).time.n = some (n + d)) ∧
    ((n + d < 0 ∨ 3155759999 < n + d) → (s.applyCountReset d).time.n = some n) := by
  refine ⟨fun least most => ?_, fun outside => by rw [State.applyCountReset_outside set outside, set]⟩
  by_cases zero : d = 0
  · rw [zero, State.applyCountReset_zero, add_zero, set]
  · have shifts := State.shiftsTo_inside set least most
    have applied : s.applyCountReset d = (s.shiftCount d).resetApplied := if_neg (by simp [zero, shifts])
    rw [applied]
    simp [State.shiftCount_time shifts]

/-! ## The schedule at class A -/

/-- Whether a LINE entry of the list is committed (R70). -/
def Entry.OwnOrCommitted (x : Entry) : Prop := x.source = .line → x.committed = true

/-- A leap offer of the reference brings no LINE entry and uncommits none (R63 to R65). -/
theorem State.leapOffer_entries (held : ∀ x ∈ s.schedule, x.OwnOrCommitted) : ∀ x ∈ (s.leapOffer r).schedule, x.OwnOrCommitted := by
  intro x mem
  unfold State.leapOffer at mem
  dsimp only at mem
  split at mem
  · split at mem
    · obtain old | rfl | ⟨y, old, rfl, -⟩ := State.mem_offer mem
      · exact held x old
      · exact fun line => Source.noConfusion line
      · intro line
        rw [mergeEntry_committed]
        obtain own | offered := mergeEntry_source s.load.params.standardOffset _ y
        · exact held y old (own ▸ line)
        · exact Source.noConfusion (offered.symm.trans line)
    · exact held x (by simpa using mem)
  · exact held x mem

theorem State.lockedSet_entries (set : s.time.n = some n) (unlocked : s.ref.state ≠ .locked) :
    ∀ x ∈ s.lockedSet.schedule, x.OwnOrCommitted := by
  intro x mem
  rw [State.lockedSet_schedule set unlocked] at mem
  have own : x.source = .line → x.committed = true := of_decide_eq_true (List.mem_filter.mp mem).2
  exact own

/-- At class A a count difference taken at once leaves no LINE entry that is not committed (R70, R75). -/
theorem State.applyCountReset_entries {d : Int} (held : ∀ x ∈ s.schedule, x.OwnOrCommitted) (locked : s.cls = .a) :
    ∀ x ∈ (s.applyCountReset d).schedule, x.OwnOrCommitted := by
  unfold State.applyCountReset
  split
  · exact held
  next shifts =>
    obtain ⟨n', taken⟩ := Option.ne_none_iff_exists'.mp (not_or.mp shifts).2
    intro x mem line
    obtain ⟨-, -, own⟩ := State.shiftCount_entries taken x (by simpa using mem)
    exact absurd line (own locked)

end

end Sys2Proof.Machine

namespace Sys2Proof.Proofs

open Sys2Proof.Machine

/-- Settles O45: the completion of ACQUIRE while UNSET, while SET off the line and while ACTIVE, and the offer that follows it. -/
theorem fourthPulseLocks : Obligations.FourthPulseLocks := by
  intro now s pe r last accepted epoch good acquire fourth held follows least most lower upper
  have tick : pe.tick = now.tick - 10 := pulseEpoch_tick epoch
  have acceptedRef := State.accepted_ref now s
  have handled : (s.accepted now).handlePulse (s.labelNow now) pe = (s.accepted now).acquirePulse r pe := by
    rw [good.label]
    simp [State.handlePulse, acquire]
  have answered := exec_secInPulse accepted epoch
  rw [handled, State.acquirePulse_completes (by rw [acceptedRef]; exact held) (followsOn_iff.mpr follows)
    (spacedOn_iff.mpr (by rw [tick]; exact ⟨least, most⟩)) (by rw [acceptedRef]; exact fourth), tick] at answered
  have unlocked : (s.accepted now).ref.state ≠ .locked := by simp [acquire]
  have set_iff : (s.accepted now).time = s.time := State.accepted_time now s
  have ctl : (s.accepted now).ctl = s.ctl := State.accepted_ctl now s
  have own_of {own : Int} (counts : (pe.since = some 0 ∧ s.time.n = some own) ∨
      (pe.since = none ∧ s.comingCount.map Prod.fst = some own)) :
      (s.accepted now).ownCountFor (handed r.n pe) = some own := State.accepted_own counts
  have outlier : (s.accepted now).outlier = 10 * (s.load.params.site.outlier : Int) := by simp [State.outlier]
  have timer : (s.accepted now).timer = s.timer := State.accepted_timer now s
  have key : (s.accepted now).key = s.key := State.accepted_key now s
  have schedule : (s.accepted now).schedule = s.schedule := State.accepted_schedule now s
  generalize s.accepted now = u at answered unlocked set_iff ctl own_of outlier timer key schedule
  generalize e_is : refError (now.tick - 10) pe.epoch r.corrNs = e at answered
  have ref := State.completeAcquire_ref r.n pe e u
  have heldRef := State.completeAcquire_held r.n pe e u
  have drive : (u.completeAcquire r.n pe e).key.drive = u.key.drive := by simp
  generalize c_is : u.completeAcquire r.n pe e = c at answered ref heldRef drive
  have t_ref : (c.leapOffer r).ref = u.ref.enterLocked := (State.leapOffer_ref r c).trans ref
  have t_time : (c.leapOffer r).time = c.time := by simp
  have t_timer : (c.leapOffer r).timer = c.timer := by simp
  have t_ctl : (c.leapOffer r).ctl = c.ctl := by simp
  have classA {m : Int} (set : c.time.n = some m) : (c.leapOffer r).cls = .a :=
    State.cls_locked (by rw [t_ref]; rfl) (by rw [t_time, set]; rfl)
  refine ⟨_, answered, by rw [t_ref]; rfl, by rw [t_ref]; rfl, by rw [t_ref]; rfl, by rw [t_ref]; rfl, by rw [t_ref]; rfl,
    by rw [t_ref]; rfl, by rw [t_ref]; rfl, by rw [t_ref]; rfl, by rw [t_ref]; rfl, ?_, by rw [t_timer, heldRef, timer], ?_⟩
  · rw [show (c.leapOffer r).key = c.key by simp, drive, key]
  rw [t_time, t_timer, t_ctl]
  intro e' active setNow
  refine ⟨?_, ?_⟩
  · intro unset
    have completed := State.completeAcquire_unset (s := u) (n := r.n) (pe := pe) (e := e) (by rw [set_iff]; exact unset)
    rw [c_is] at completed
    have heldStep := (State.handWhileUnset_heldSamples (handed r.n pe) (u.lockedUnset e)).2
    rw [← completed, State.lockedUnset_heldStep, ctl, timer] at heldStep
    have range : countInRange r.n = true := countInRange_iff.mpr ⟨lower, upper⟩
    refine ⟨?_, ?_, ?_, ?_⟩
    · intro idle
      rw [heldStep, if_neg idle]
    · intro active
      rw [heldStep, if_pos active]
    · intro present
      rw [State.handWhileUnset_present present range] at completed
      have time := State.setTime_time r.n .ref (u.lockedUnset e)
      rw [← completed] at time
      have n : c.time.n = some r.n := by rw [time]
      exact ⟨⟨n, by rw [time], by rw [time]; rfl, classA n⟩, by rw [time]⟩
    · intro coming
      rw [State.handWhileUnset_coming coming range] at completed
      rw [completed, State.lockedUnset_time, set_iff]
      exact ⟨unset, rfl⟩
  · intro n own set counts
    have ownCount := own_of (own := own) (counts.imp_left fun h => ⟨h.1, by rw [set, h.2]⟩)
    have setU : u.time.n = some n := by rw [set_iff]; exact set
    have listed : u.lockedSet.schedule = s.schedule.filter (fun x => decide (x.source = .line → x.committed = true)) := by
      rw [State.lockedSet_schedule setU unlocked, schedule]
    have offerless (kind1 : r.leapKind ≠ 1) (kind2 : r.leapKind ≠ 2) : c.leapOffer r = c :=
      State.leapOffer_none (.inl (not_or.mpr ⟨kind1, kind2⟩))
    by_cases onLine : active
    · have completed := State.completeAcquire_active (e := e) setU ownCount (by rw [ctl]; exact onLine)
      rw [c_is] at completed
      have time := State.lockedSet_time u
      have counted : c.time.n = some n := by rw [completed, time]; exact setU
      have left : c.time.pendingReset = resetLeft (r.n - own) e u.outlier := by rw [completed]
      refine ⟨by rw [completed, time], by rw [completed, time], classA counted, ?_, ?_, fun idle => absurd onLine idle, ?_⟩
      · exact State.leapOffer_entries (by rw [completed]; exact State.lockedSet_entries setU unlocked)
      · intro _ kind1 kind2
        rw [offerless kind1 kind2, completed]
        exact listed
      · intro _
        have other : u.ctl.standing ≠ .survey .adopting := by
          rw [ctl, show s.ctl.standing = .active from onLine]
          exact Standing.noConfusion
        refine ⟨counted, ?_, ?_, ?_⟩
        · rw [completed, (State.lockedSet_frame u).1, timer]
        · rw [completed, State.lockedSet_standing setU unlocked other, ctl]
          exact onLine
        · intro within
          have bounded : (e.natAbs : Int) ≤ 10 * (s.load.params.site.outlier : Int) ↔ within := by
            simp only [within, e']
            omega
          rw [left, outlier]
          have zero (same : own = r.n) : r.n - own = 0 := by omega
          have nonzero (differs : own ≠ r.n) : ¬ r.n - own = 0 := by omega
          unfold resetLeft
          refine ⟨?_, ?_, ?_, ?_⟩
          · intro same small
            rw [if_pos (zero same), if_pos (bounded.mpr small)]
            rfl
          · intro same large
            rw [if_pos (zero same), if_neg (mt bounded.mp large)]
            rfl
          · intro differs small
            rw [if_neg (nonzero differs), if_pos (bounded.mpr small)]
            rfl
          · intro differs large
            rw [if_neg (nonzero differs), if_neg (mt bounded.mp large)]
            rfl
    · have completed := State.completeAcquire_idle (e := e) setU ownCount (by rw [ctl]; exact onLine)
      rw [c_is] at completed
      generalize before : u.lockedSet.dropPendingReset.holdStep e = v at completed
      have vTime : v.time = { u.time with origin := some .ref, age := some 0, pendingReset := none } := by
        rw [← before]
        simp [State.holdStep, State.dropPendingReset, State.lockedSet_time]
      have vSet : v.time.n = some n := by rw [vTime]; exact setU
      have vRef : v.ref = u.ref.enterLocked := by rw [← before]; exact State.lockedSet_ref u
      have vSchedule : v.schedule = u.lockedSet.schedule := by rw [← before]; rfl
      have held := State.applyCountReset_held (r.n - own) v
      have sameTime : c.time.origin = v.time.origin ∧ c.time.age = v.time.age ∧ c.time.pendingReset = v.time.pendingReset := by
        rw [completed]
        simp
      have applied (zero : own = r.n) : c = v := by rw [completed, zero, sub_self, State.applyCountReset_zero]
      have classV : v.cls = .a := State.cls_locked (by rw [vRef]; rfl) (by rw [vSet]; rfl)
      have entriesV : ∀ x ∈ v.schedule, x.OwnOrCommitted := by rw [vSchedule]; exact State.lockedSet_entries setU unlocked
      obtain ⟨inside, outside⟩ := State.applyCountReset_n (d := r.n - own) vSet
      rw [← completed] at inside outside
      obtain ⟨m, setC⟩ : ∃ m, c.time.n = some m := by
        by_cases range : 0 ≤ n + (r.n - own) ∧ n + (r.n - own) ≤ 3155759999
        · exact ⟨_, inside range.1 range.2⟩
        · exact ⟨_, outside (by omega)⟩
      refine ⟨by rw [sameTime.1, vTime], by rw [sameTime.2.1, vTime], classA setC, ?_, ?_, ?_, fun yes => absurd yes onLine⟩
      · exact State.leapOffer_entries (by rw [completed]; exact State.applyCountReset_entries entriesV classV)
      · intro same kind1 kind2
        rw [offerless kind1 kind2, applied (same.resolve_left onLine), vSchedule]
        exact listed
      · intro _
        refine ⟨by rw [completed, held.2, ← before]; rfl, by rw [sameTime.2.2, vTime], ?_, ?_, ?_⟩
        · intro same
          rw [applied same]
          refine ⟨vSet, ?_⟩
          rw [← before]
          exact (State.lockedSet_frame u).2.2.1.trans (by rw [ctl])
        · exact inside
        · exact outside

end Sys2Proof.Proofs
end

section
/-! PROOFS. The lamps of a repetition, and its bits on the pins (O55). -/

namespace Sys2Proof.Machine

section
variable {now : Instant} {s : State}

/-! ## Words and bits -/

/-- A word's bits are those it is spelled from, bit 7 first (R188). -/
theorem wordOfBits_bits (b7 b6 b5 b4 b3 b2 b1 b0 : Bool) :
    let w := wordOfBits [b7, b6, b5, b4, b3, b2, b1, b0]
    w.getLsbD 7 = b7 ∧ w.getLsbD 6 = b6 ∧ w.getLsbD 5 = b5 ∧ w.getLsbD 4 = b4 ∧ w.getLsbD 3 = b3 ∧ w.getLsbD 2 = b2 ∧
      w.getLsbD 1 = b1 ∧ w.getLsbD 0 = b0 := by
  have spelled : ∀ b7 b6 b5 b4 b3 b2 b1 b0 : Bool,
      let w := wordOfBits [b7, b6, b5, b4, b3, b2, b1, b0]
      w.getLsbD 7 = b7 ∧ w.getLsbD 6 = b6 ∧ w.getLsbD 5 = b5 ∧ w.getLsbD 4 = b4 ∧ w.getLsbD 3 = b3 ∧ w.getLsbD 2 = b2 ∧
        w.getLsbD 1 = b1 ∧ w.getLsbD 0 = b0 := by decide
  exact spelled b7 b6 b5 b4 b3 b2 b1 b0

theorem bitsOf_byte (b : Byte) : bitsOf 8 b.toNat = (List.range 8).map (fun i => b.getLsbD (7 - i)) := by
  have spelled : ∀ b : Byte, bitsOf 8 b.toNat = (List.range 8).map (fun i => b.getLsbD (7 - i)) := by decide
  exact spelled b

theorem LampWords.bits_eq (w : LampWords) : w.bits = (List.range 8).map (fun i => w.reference.getLsbD (7 - i)) ++
    (List.range 8).map (fun i => w.standing.getLsbD (7 - i)) ++ (List.range 8).map (fun i => w.alarm.getLsbD (7 - i)) := by
  simp only [LampWords.bits, bitsOf_byte]

/-- The bits of a repetition in the order they are shifted out (R180). -/
theorem LampWords.bits_at (w : LampWords) {i : Nat} (inside : i < 8) :
    w.bits[i]? = some (w.reference.getLsbD (7 - i)) ∧ w.bits[8 + i]? = some (w.standing.getLsbD (7 - i)) ∧
      w.bits[16 + i]? = some (w.alarm.getLsbD (7 - i)) := by
  rw [LampWords.bits_eq]
  refine ⟨?_, ?_, ?_⟩
  · rw [List.append_assoc, List.getElem?_append_left (by simpa using inside)]
    simp [inside]
  · rw [List.append_assoc, List.getElem?_append_right (by simp), List.getElem?_append_left (by simp; omega)]
    simp [inside]
  · rw [List.getElem?_append_right (by simp)]
    simp [inside]

theorem LampWords.bits_length (w : LampWords) : w.bits.length = 24 := by
  rw [LampWords.bits_eq]
  rfl

/-! ## The pins -/

theorem LampWords.pins_bit (w : LampWords) {k past : Nat} (bit : k < 24) (first : 4 * k ≤ past) (last : past < 4 * k + 4) :
    w.pins past = { clock := if past < 4 * k + 2 then .low else .high
                    data := if w.bits[k]? = some true then .high else .low, latch := .low } := by
  have inside : past < Config.latchAfter := show past < 96 by omega
  have which : past / Config.statClock = k := show past / 4 = k by omega
  have half : Config.statClockLow ≤ past % Config.statClock ↔ ¬ past < 4 * k + 2 :=
    show 2 ≤ past % 4 ↔ ¬ past < 4 * k + 2 by omega
  have held : w.bits[k]? = some (w.bits.getD k false) := by
    have short : k < w.bits.length := by rw [w.bits_length]; exact bit
    simp [List.getD, List.getElem?_eq_getElem short]
  refine (if_pos inside).trans ?_
  rw [which, held]
  have clock : levelOf (Config.statClockLow ≤ past % Config.statClock) = if past < 4 * k + 2 then .low else .high := by
    by_cases low : past < 4 * k + 2
    · rw [if_pos low, decide_eq_false (by rw [half]; exact not_not_intro low)]
      rfl
    · rw [if_neg low, decide_eq_true (half.mpr low)]
      rfl
  rw [clock]
  cases w.bits.getD k false <;> rfl

theorem LampWords.pins_latch (w : LampWords) {past : Nat} (after : 96 ≤ past) :
    w.pins past = { clock := .low, data := .low, latch := if past < 100 then .high else .low } := by
  refine (if_neg (show ¬ past < 96 by omega)).trans ?_
  by_cases pulse : past < 100
  · rw [if_pos pulse, decide_eq_true (show past < Config.latchAfter + Config.statClock from pulse)]
    rfl
  · rw [if_neg pulse, decide_eq_false (show ¬ past < Config.latchAfter + Config.statClock from pulse)]
    rfl

/-! ## The repetition -/

theorem exec_statusRepetition (loaded : s.load.phase = .done) (due : s.maint.nextRepetition = some now.clk) :
    exec (.statusRepetition now) s = .next (s.at now).repetitionEffect :=
  exec_due (c := .statusRepetition now) (by simp [Instr.due, State.loaded, loaded, due])

theorem State.blinkOn_iff : s.blinkOn = true ↔ s.maint.groupCount < 2 := decide_eq_true_iff

theorem Standing.isSurvey_iff {st : Standing} : st.isSurvey = true ↔
    st = .survey .watching ∨ st = .survey .adopting ∨ st = .survey .confirming := by
  cases st with
  | survey phase => cases phase <;> simp [Standing.isSurvey]
  | _ => simp [Standing.isSurvey]

theorem State.surveyLamp_iff : s.surveyLamp = true ↔ s.ctl.standing = .survey .watching ∨
    ((s.ctl.standing = .survey .adopting ∨ s.ctl.standing = .survey .confirming) ∧ s.maint.groupCount < 2) := by
  simp only [State.surveyLamp, Bool.or_eq_true, Bool.and_eq_true, beq_iff_eq, Standing.isSurvey_iff, State.blinkOn_iff]
  tauto

theorem State.activeLamp_iff : s.activeLamp = true ↔
    s.ctl.standing = .active ∧ (s.time.pendingReset = none ∨ s.maint.groupCount < 2) := by
  simp [State.activeLamp, State.blinkOn_iff]

theorem State.faultedLamp_iff : s.faultedLamp = true ↔
    s.ctl.standing = .faultedDrive ∨ (s.ctl.standing = .faultedOsc ∧ s.maint.groupCount < 2) := by
  simp [State.faultedLamp, State.blinkOn_iff]

theorem State.selftestLamp_iff : s.selftestLamp = true ↔ (s.ctl.test.state = .idle ∧ s.ctl.test.result = .fail) ∨
    (s.ctl.test.state ≠ .idle ∧ s.maint.groupCount < 2) := by
  unfold State.selftestLamp
  split
  next idle => simp [idle]
  next busy => simp [busy, State.blinkOn_iff]

end

end Sys2Proof.Machine

namespace Sys2Proof.Proofs

open Sys2Proof.Machine

/-- Settles O55, by the bits of each word, the bits in the order they are shifted out, and the pins of a bit and of the latch pulse. -/
theorem repetitionsShowTheLamps : Obligations.RepetitionsShowTheLamps := by
  refine ⟨?_, ?_, ?_⟩
  · intro now s loaded due
    refine ⟨s.lampWords, exec_statusRepetition loaded due, ?_⟩
    intro on held lamp
    have holds (k : AlarmKind) : s.holds k = true ↔ held k := State.holds_iff
    refine ⟨?_, ?_, ?_, s.lampWords.bits_length, fun i inside => s.lampWords.bits_at inside⟩
    · obtain ⟨b7, b6, b5, b4, b3, b2, b1, b0⟩ := wordOfBits_bits (s.ref.state == .noref) (s.ref.state == .acquire && s.blinkOn)
        (s.ref.state == .locked) (s.ref.state == .holdover) (s.cls == .a) (s.cls == .b) (s.cls == .c) (s.timer.source == .line)
      simp only [lamp, State.lampWords, State.referenceWord, b7, b6, b5, b4, b3, b2, b1, b0, Bool.and_eq_true, beq_iff_eq,
        State.blinkOn_iff, on]
      trivial
    · obtain ⟨b7, b6, b5, b4, b3, b2, b1, b0⟩ := wordOfBits_bits s.surveyLamp s.activeLamp (s.ctl.standing == .deferred)
        (s.ctl.standing == .standby) s.faultedLamp s.selftestLamp s.ctl.pendingJoin false
      simp only [lamp, State.lampWords, State.standingWord, b7, b6, b5, b4, b3, b2, b1, b0, State.surveyLamp_iff,
        State.selftestLamp_iff, State.activeLamp_iff, State.faultedLamp_iff, beq_iff_eq, on]
      trivial
    · obtain ⟨b7, b6, b5, b4, b3, b2, b1, b0⟩ := wordOfBits_bits s.maint.alertN (s.holds .refLost || s.holds .timeAged)
        (s.holds .conflict || s.holds .yielded || s.holds .peerTiming || s.holds .lineStuck)
        (s.holds .driveFault || s.holds .oscLost) (s.holds .schedFull || s.holds .configDefaults || s.holds .configClamped)
        (decide (0 < s.maint.rescueStretch)) (decide (0 < s.maint.peerStretch)) s.blinkOn
      simp only [lamp, State.lampWords, State.alarmWord, b7, b6, b5, b4, b3, b2, b1, b0, Bool.or_eq_true, or_assoc,
        decide_eq_true_eq, holds, State.blinkOn_iff, on]
      trivial
  · intro w k past
    exact ⟨w.pins_bit, w.pins_latch⟩
  · intro m clk
    refine ⟨fun idle => ?_, fun r begun => ⟨?_, fun before => ?_, fun after => ?_⟩⟩
    · simp [Maintenance.statPins, Maintenance.registers, idle]
    · simp [Maintenance.statPins, begun]
    · exact Maintenance.registers_before fun q held => by
        obtain rfl := Option.some.inj (begun.symm.trans held)
        exact before
    · exact Maintenance.registers_after begun after

end Sys2Proof.Proofs
end

section
/-! PROOFS. The calendar's conversions undo each other, and rule instants stand where the rule names (O21). -/

namespace Sys2Proof.Machine

/-! ## Days and years -/

theorem leapYear_iff {y : Int} : leapYear y = true ↔ y % 4 = 0 := decide_eq_true_iff

/-- The year of a day is a leap one exactly in the first 366 days of the four-year period (R54). -/
theorem yearOf_leap_iff (d : Int) : yearOf d % 4 = 0 ↔ quadDay d < 366 := by
  unfold yearOf yearOffset quadDay
  split <;> omega

theorem dayOfYear_range (d : Int) : 1 ≤ dayOfYear d ∧ dayOfYear d ≤ if yearOf d % 4 = 0 then 366 else 365 := by
  simp only [yearOf_leap_iff]
  unfold dayOfYear quadDay
  split <;> omega

/-- The inverse calendar undoes the conversion of a day (R54, R57). -/
theorem dayNumber_of_day (d : Int) : dayNumber (yearOf d) (dayOfYear d) = d := by
  unfold dayNumber yearOf dayOfYear yearOffset quadDay
  split <;> omega

/-- The conversion undoes the inverse calendar on a day of year within its year (R54, R57). -/
theorem yearOf_dayNumber {y doy : Int} (first : 1 ≤ doy) (last : doy ≤ if y % 4 = 0 then 366 else 365) :
    yearOf (dayNumber y doy) = y := by
  unfold dayNumber yearOf yearOffset quadDay
  split at last <;> split <;> omega

theorem weekdayOf_range (d : Int) : 1 ≤ weekdayOf d ∧ weekdayOf d ≤ 7 := by
  unfold weekdayOf
  omega

/-- The months of a year: 28 to 31 days each, within the year (R55). -/
theorem month_range (leap : Bool) {month : Nat} (first : 1 ≤ month) (last : month ≤ 12) :
    28 ≤ monthLength leap month ∧ 1 ≤ monthStart leap month ∧
      monthStart leap month + monthLength leap month - 1 ≤ if leap then 366 else 365 := by
  have every : ∀ leap : Bool, ∀ month < 13, 1 ≤ month → 28 ≤ monthLength leap month ∧ 1 ≤ monthStart leap month ∧
      monthStart leap month + monthLength leap month - 1 ≤ if leap then 366 else 365 := by decide
  exact every leap month (by omega) first

/-! ## Rule instants -/

section
variable {rule : OffsetRule} {y : Int}

/-- The day a rule names in a year (R58). -/
def ruleDay (rule : OffsetRule) (y : Int) : Int :=
  dayNumber y (monthStart (leapYear y) rule.month) + ruleDayOfMonth rule y - 1

theorem ruleInstant_eq (range : RuleInRange rule) :
    ruleInstant rule y % 86400 = 60 * (rule.minute : Int) ∧ dayOf (ruleInstant rule y) = ruleDay rule y := by
  have minute := range.minute
  have instant : ruleInstant rule y = ruleDay rule y * 86400 + 60 * (rule.minute : Int) := rfl
  unfold dayOf
  omega

/-- A rule of ordinal 1 to 4 names the first day of its weekday in that week of the month (R58). -/
theorem ruleDay_week (range : RuleInRange rule) (week : rule.ordinal ≠ 5) :
    let first := dayNumber y (monthStart (leapYear y) rule.month)
    weekdayOf (ruleDay rule y) = rule.weekday ∧ first + 7 * ((rule.ordinal : Int) - 1) ≤ ruleDay rule y ∧
      ruleDay rule y < first + 7 * (rule.ordinal : Int) := by
  intro first
  obtain ⟨lower, upper⟩ := range.weekday
  have day : ruleDay rule y = first + (1 + ((rule.weekday : Int) - weekdayOf first + 7) % 7 + 7 * ((rule.ordinal : Int) - 1)) - 1 := by
    simp only [ruleDay, ruleDayOfMonth, if_neg week, first]
  rw [day]
  unfold weekdayOf
  omega

/-- A rule of ordinal 5 names the last day of its weekday in the month (R58). -/
theorem ruleDay_last (range : RuleInRange rule) (last : rule.ordinal = 5) :
    let first := dayNumber y (monthStart (leapYear y) rule.month)
    let length := monthLength (leapYear y) rule.month
    weekdayOf (ruleDay rule y) = rule.weekday ∧ first + length - 7 ≤ ruleDay rule y ∧ ruleDay rule y < first + length := by
  intro first length
  obtain ⟨lower, upper⟩ := range.weekday
  have day : ruleDay rule y =
      first + (length - (weekdayOf (first + length - 1) - (rule.weekday : Int) + 7) % 7) - 1 := by
    simp only [ruleDay, ruleDayOfMonth, if_pos last, first, length]
  rw [day]
  unfold weekdayOf
  omega

/-- A day of a month of a year lies in that year (R54, R55). -/
theorem yearOf_month {d : Int} {month : Nat} (first : 1 ≤ month) (last : month ≤ 12)
    (lower : dayNumber y (monthStart (leapYear y) month) ≤ d)
    (upper : d < dayNumber y (monthStart (leapYear y) month) + monthLength (leapYear y) month) : yearOf d = y := by
  obtain ⟨-, start, finish⟩ := month_range (leapYear y) first last
  simp only [leapYear_iff] at finish
  have numbered (doy : Int) : dayNumber y doy = dayNumber y 0 + doy := by
    unfold dayNumber
    omega
  rw [numbered] at lower upper
  have day : d = dayNumber y (d - dayNumber y 0) := by
    rw [numbered]
    omega
  rw [day]
  exact yearOf_dayNumber (by omega) (by omega)

end

end Sys2Proof.Machine

namespace Sys2Proof.Proofs

open Sys2Proof.Machine

/-- Settles O21, by the two conversions and the day a rule names in its month. -/
theorem calendarAndRuleInstantsAgree : Obligations.CalendarAndRuleInstantsAgree := by
  refine ⟨?_, ?_⟩
  · intro d
    obtain ⟨first, last⟩ := dayOfYear_range d
    obtain ⟨monday, sunday⟩ := weekdayOf_range d
    exact ⟨dayNumber_of_day d, first, last, by unfold weekdayOf; omega, monday, sunday⟩
  · intro rule y range _ _ t day first
    obtain ⟨january, december⟩ := range.month
    obtain ⟨ordinal, -⟩ := range.ordinal
    obtain ⟨days, -, -⟩ := month_range (leapYear y) january december
    obtain ⟨minute, named⟩ := ruleInstant_eq (y := y) range
    have named : day = ruleDay rule y := named
    obtain ⟨weekday, least, most, week, last⟩ : weekdayOf day = rule.weekday ∧ first ≤ day ∧
        day < first + monthLength (leapYear y) rule.month ∧
        (rule.ordinal ≠ 5 → first + 7 * ((rule.ordinal : Int) - 1) ≤ day ∧ day < first + 7 * (rule.ordinal : Int)) ∧
        (rule.ordinal = 5 → first + monthLength (leapYear y) rule.month - 7 ≤ day) := by
      rw [named]
      by_cases five : rule.ordinal = 5
      · obtain ⟨weekday, least, most⟩ := ruleDay_last (y := y) range five
        exact ⟨weekday, by omega, most, fun other => absurd five other, fun _ => least⟩
      · obtain ⟨weekday, least, most⟩ := ruleDay_week (y := y) range five
        have few := range.ordinal
        exact ⟨weekday, by omega, by omega, fun _ => ⟨least, most⟩, fun is => absurd is five⟩
    exact ⟨minute, weekday, least, most, yearOf_month january december least most, week, last⟩

end Sys2Proof.Proofs
end

section
/-! PROOFS. The notice word: its fields, its segments, its latch and its assembly (O24). -/

namespace Sys2Proof.Machine

/-! ## The fields of a word -/

/-- A word whose fields above the check are `high` (R15, R16). -/
def checkedWord (high : Nat) : BitVec 32 := BitVec.ofNat 32 (high + noticeCheck (BitVec.ofNat 32 high))

theorem noticeCheck_lt (word : BitVec 32) : noticeCheck word < 8 := Nat.mod_lt _ (by decide)

theorem checkedWord_toNat {high : Nat} (small : high < 4294967296) (clear : high % 8 = 0) :
    (checkedWord high).toNat = high + noticeCheck (BitVec.ofNat 32 high) := by
  have check := noticeCheck_lt (BitVec.ofNat 32 high)
  unfold checkedWord
  rw [BitVec.toNat_ofNat]
  exact Nat.mod_eq_of_lt (show _ < 4294967296 by omega)

/-- The check of a word is over the bits above it, and so holds (R16). -/
theorem checkedWord_check {high : Nat} (small : high < 4294967296) (clear : high % 8 = 0) :
    (checkedWord high).toNat % 8 = noticeCheck (checkedWord high) := by
  have check := noticeCheck_lt (BitVec.ofNat 32 high)
  have above : (checkedWord high).toNat / 8 = (BitVec.ofNat 32 high).toNat / 8 := by
    rw [checkedWord_toNat small clear, BitVec.toNat_ofNat, Nat.mod_eq_of_lt (show high < 2 ^ 32 from small)]
    omega
  have same : noticeCheck (checkedWord high) = noticeCheck (BitVec.ofNat 32 high) := by
    unfold noticeCheck
    rw [above]
  rw [same, checkedWord_toNat small clear]
  omega

/-- The segments of a word spell it (R14, R156). -/
theorem wordOfSegments_segments (word : BitVec 32) :
    wordOfSegments ((List.range 4).map (fun k => BitVec.ofNat 8 (segmentOf word k))) = word := by
  have small := word.isLt
  have byte (k : Nat) : (BitVec.ofNat 8 (segmentOf word k)).toNat = segmentOf word k := by
    rw [BitVec.toNat_ofNat]
    exact Nat.mod_eq_of_lt (Nat.mod_lt _ (by decide))
  have spelled : beNat ((List.range 4).map (fun k => BitVec.ofNat 8 (segmentOf word k))) 0 4 =
      ((segmentOf word 0 * 256 + segmentOf word 1) * 256 + segmentOf word 2) * 256 + segmentOf word 3 := by
    rw [← byte 0, ← byte 1, ← byte 2, ← byte 3]
    change (((0 * 256 + _) * 256 + _) * 256 + _) * 256 + _ = _
    rw [Nat.zero_mul, Nat.zero_add]
    rfl
  have segments : segmentOf word 0 = word.toNat / 16777216 % 256 ∧ segmentOf word 1 = word.toNat / 65536 % 256 ∧
      segmentOf word 2 = word.toNat / 256 % 256 ∧ segmentOf word 3 = word.toNat / 1 % 256 := ⟨rfl, rfl, rfl, rfl⟩
  apply BitVec.eq_of_toNat_eq
  rw [wordOfSegments, spelled, BitVec.toNat_ofNat]
  omega

/-! ## The word of an entry -/

section
variable {n0 : Int} {e : Entry}

/-- The fields of an entry's word above the check (R15). -/
def noticeFields (n0 : Int) (e : Entry) : Nat :=
  e.kind.code * 1073741824 + frameSymbols.lowBits7 (e.newOffset.getD 0) * 8388608 +
    (dayOf e.instant - dayOf n0).toNat * 16384 + (secondOfDay e.instant / 60).toNat * 8

theorem wordOf_eq (n0 : Int) (e : Entry) : wordOf n0 e = checkedWord (noticeFields n0 e) := rfl

/-- What the fields of an entry's word are, each within its width (R15). -/
theorem noticeFields_parts (near : n0 / 86400 ≤ e.instant / 86400) (within : e.instant / 86400 - n0 / 86400 ≤ 511)
    (minute : e.instant % 60 = 0) : ∃ off days minutes : Nat, off < 128 ∧ (off : Int) = e.newOffset.getD 0 % 128 ∧ days < 512 ∧
      minutes ≤ 1439 ∧ e.instant = (n0 / 86400 + days) * 86400 + 60 * minutes ∧
      noticeFields n0 e = e.kind.code * 1073741824 + off * 8388608 + days * 16384 + minutes * 8 := by
  refine ⟨_, _, _, ?_, ?_, ?_, ?_, ?_, rfl⟩
  all_goals simp only [frameSymbols.lowBits7, dayOf, secondOfDay]
  all_goals omega

theorem EntryKind.code_range (k : EntryKind) : 1 ≤ k.code ∧ k.code ≤ 3 := by cases k <;> decide

theorem kindOfWord_code {word : BitVec 32} (k : EntryKind) (code : word.toNat / 1073741824 = k.code) : kindOfWord word = some k := by
  have shifted : word.toNat / 2 ^ 30 = k.code := code
  unfold kindOfWord
  rw [shifted]
  cases k <;> rfl

/-- Seven bits of two's complement read back (R12). -/
theorem signedOf_seven {v : Nat} {q : Int} (low : ((v % 128 : Nat) : Int) = q % 128) (least : -48 ≤ q) (most : q ≤ 56) :
    signedOf 7 v = q := by
  unfold signedOf
  have whole : 2 ^ 7 = 128 := rfl
  have half : 2 ^ (7 - 1) = 64 := rfl
  rw [whole, half]
  split <;> omega

/-- The Line Reader makes of an entry's word the offer of that entry (R157). -/
theorem offerOfWord_wordOf (safe : EntrySafe e) (near : n0 / 86400 ≤ e.instant / 86400)
    (within : e.instant / 86400 - n0 / 86400 ≤ 511) : offerOfWord n0 (wordOf n0 e) =
      some { instant := e.instant, kind := e.kind, newOffset := e.newOffset, source := .line } := by
  obtain ⟨off, days, minutes, offSmall, offIs, daysSmall, minutesSmall, instant, fields⟩ := noticeFields_parts near within safe.minute
  obtain ⟨code, code'⟩ := e.kind.code_range
  have small : noticeFields n0 e < 4294967296 := by omega
  have clear : noticeFields n0 e % 8 = 0 := by omega
  have check := checkedWord_check small clear
  have value := checkedWord_toNat small clear
  have low := noticeCheck_lt (BitVec.ofNat 32 (noticeFields n0 e))
  rw [← wordOf_eq] at check value
  generalize wordOf n0 e = word at check value
  have minuteField : word.toNat / 2 ^ 3 % 2 ^ 11 = minutes := show word.toNat / 8 % 2048 = minutes by omega
  have dayField : word.toNat / 2 ^ 14 % 2 ^ 9 = days := show word.toNat / 16384 % 512 = days by omega
  have kind := kindOfWord_code (word := word) e.kind (by omega)
  have offset : (if e.kind = .offset then some (signedOf 7 (word.toNat / 2 ^ 23)) else none) = e.newOffset := by
    by_cases change : e.kind = .offset
    · obtain ⟨q, held, least, most⟩ := safe.offset change
      have field : ((word.toNat / 2 ^ 23 % 128 : Nat) : Int) = q % 128 := by
        rw [held] at offIs
        change ((word.toNat / 8388608 % 128 : Nat) : Int) = q % 128
        change (off : Int) = q % 128 at offIs
        omega
      rw [if_pos change, signedOf_seven field least most, held]
    · rw [if_neg change, safe.leap (by cases held : e.kind <;> simp_all [EntryKind.isLeap])]
  unfold offerOfWord
  dsimp only
  rw [minuteField, dayField, if_neg (by omega), kind]
  simp only [Option.map_some, offset]
  rw [instant]
  rfl

end

/-! ## The word of a frame -/

section
variable {n0 : Int} {s : State} {f : LineFrame}

theorem noticeWordFor_none {entries : List Entry} (over_ : ∀ e ∈ entries, e.instant ≤ n0) : noticeWordFor n0 entries = 0#32 := by
  have idle : entries.find? (fun e => decide (n0 < e.instant)) = none :=
    List.find?_eq_none.mpr fun e mem => by simpa using over_ e mem
  simp [noticeWordFor, noticeEntry, idle]

theorem noticeEntry_first {pre post : List Entry} {e : Entry} (past : ∀ x ∈ pre, x.instant ≤ n0) (ahead : n0 < e.instant) :
    noticeEntry n0 (pre ++ e :: post) = if dayOf e.instant - dayOf n0 ≤ 511 then some e else none := by
  have first : (pre ++ e :: post).find? (fun e => decide (n0 < e.instant)) = some e :=
    List.find?_eq_some_iff_append.mpr ⟨by simpa using ahead, pre, post, rfl, fun x mem => by simpa using past x mem⟩
  unfold noticeEntry
  rw [first]

theorem segmentIndex_eq (n0 : Int) : (segmentIndex n0 : Int) = n0 % 86400 / 60 % 4 := by
  unfold segmentIndex minuteOfDay secondOfDay
  omega

theorem buildWord_fresh (fresh : n0 % 86400 / 60 % 4 = 0 ∨ s.frames.latch = none) : buildWord n0 s = noticeWordFor n0 s.schedule := by
  unfold buildWord
  split
  next w held =>
    refine if_pos ?_
    have segment := segmentIndex_eq n0
    rw [held] at fresh
    have start := fresh.resolve_right (by simp)
    omega
  · rfl

theorem buildWord_latched {w : BitVec 32} (inside : n0 % 86400 / 60 % 4 ≠ 0) (held : s.frames.latch = some w) : buildWord n0 s = w := by
  unfold buildWord
  rw [held]
  refine if_neg ?_
  have segment := segmentIndex_eq n0
  omega

/-! ## The assembly -/

/-- The notice assembly replaced. -/
def State.withNotice (a : Option NoticeAssembly) (s : State) : State := { s with line := { s.line with notice := a } }

theorem State.noticeFrame_refused (other : ¬ (s.cls ≠ .a ∧ (lineSegmentIndex f.symbols : Int) = f.n0 % 86400 / 60 % 4)) :
    s.noticeFrame f = s.withNotice none := by
  refine if_pos ?_
  rw [← segmentIndex_eq] at other
  by_cases locked : s.cls = .a
  · exact .inl locked
  · exact .inr fun same => other ⟨locked, by rw [same]⟩

/-- What an accepted frame's segment does by its index (R156). -/
theorem State.noticeFrame_accepted (free : s.cls ≠ .a) (own : (lineSegmentIndex f.symbols : Int) = f.n0 % 86400 / 60 % 4) :
    s.noticeFrame f =
      let segment : Byte := BitVec.ofNat 8 (lineSegment f.symbols)
      if lineSegmentIndex f.symbols = 0 then s.withNotice (some { cycleStart := f.n0, segments := [segment] })
      else s.line.notice.elim (s.withNotice none) (fun a =>
        if a.segments.length = lineSegmentIndex f.symbols ∧ f.n0 = a.cycleStart + 60 * (lineSegmentIndex f.symbols : Int) then
          if (a.segments ++ [segment]).length = 4 then
            (offerOfWord a.cycleStart (wordOfSegments (a.segments ++ [segment]))).elim (s.withNotice none) (s.withNotice none).offer
          else s.withNotice (some { a with segments := a.segments ++ [segment] })
        else s.withNotice none) := by
  have accepted : ¬ (s.cls = .a ∨ lineSegmentIndex f.symbols ≠ segmentIndex f.n0) := by
    rw [← segmentIndex_eq] at own
    exact not_or.mpr ⟨free, not_not_intro (by omega)⟩
  refine (if_neg accepted).trans ?_
  split
  · rfl
  · cases s.line.notice with
    | none => rfl
    | some a =>
      dsimp only [Option.elim_some]
      split
      · split
        · cases offerOfWord a.cycleStart (wordOfSegments (a.segments ++ [BitVec.ofNat 8 (lineSegment f.symbols)])) <;> rfl
        · rfl
      · rfl

end

end Sys2Proof.Machine

namespace Sys2Proof.Proofs

open Sys2Proof.Machine

/-- Settles O24, by the word of an entry, the word of a frame, the latch, and the assembly's cases. -/
theorem noticeWordsReadBack : Obligations.NoticeWordsReadBack := by
  refine ⟨?_, ?_, ?_, ?_⟩
  · intro n0 e safe near within word
    obtain ⟨off, days, minutes, offSmall, -, daysSmall, minutesSmall, -, fields⟩ := noticeFields_parts near within safe.minute
    obtain ⟨code, code'⟩ := e.kind.code_range
    have small : noticeFields n0 e < 4294967296 := by omega
    have clear : noticeFields n0 e % 8 = 0 := by omega
    exact ⟨wordOfSegments_segments word, checkedWord_check small clear, offerOfWord_wordOf safe near within⟩
  · intro n0 entries
    refine ⟨noticeWordFor_none, ?_⟩
    rintro pre e post rfl past ahead
    have entry := noticeEntry_first (post := post) past ahead
    unfold noticeWordFor
    rw [entry]
    refine ⟨fun near => ?_, fun far => ?_⟩
    · rw [if_pos (show dayOf e.instant - dayOf n0 ≤ 511 from near)]
    · rw [if_neg (show ¬ dayOf e.instant - dayOf n0 ≤ 511 from not_le.mpr far)]
  · intro n0 s segment
    exact ⟨buildWord n0 s, frameFor n0 .onTime (buildWord n0 s) s, frameFor n0 .catchUp (buildWord n0 s) s, buildWord_fresh,
      fun w inside held => buildWord_latched inside held, rfl, rfl, rfl, rfl⟩
  · intro f s k segment holds accepted follows
    refine ⟨State.noticeFrame_refused, ?_, ?_⟩
    · intro ⟨free, own⟩ first
      rw [State.noticeFrame_accepted free own]
      exact if_pos first
    · intro ⟨free, own⟩ later
      have taken := (State.noticeFrame_accepted free own).trans (if_neg later)
      rw [taken]
      refine ⟨?_, ?_⟩
      · intro none
        rcases held : s.line.notice with _ | a
        · rfl
        · exact if_neg (none a held)
      · intro a held next
        have length : (a.segments ++ [segment]).length = k + 1 := by rw [List.length_append, next.1]; rfl
        have whole : (a.segments ++ [segment]).length = 4 ↔ k = 3 := by
          rw [length]
          exact Nat.succ_inj
        rw [held, Option.elim_some]
        refine ⟨fun short => (if_pos next).trans (if_neg (mt whole.mp short)), fun last => ⟨fun bad => ?_, fun o good => ?_⟩⟩
        · exact (if_pos next).trans ((if_pos (whole.mpr last)).trans (by rw [bad]; rfl))
        · exact (if_pos next).trans ((if_pos (whole.mpr last)).trans (by rw [good]; rfl))

end Sys2Proof.Proofs
end

section
/-! PROOFS. What the Line Reader reads of the symbols that the Frame Builder writes (R11 to R15, R149, R183). -/

namespace Sys2Proof.Machine

/-! ## Bits and numbers -/

theorem ofBits_foldl (bits : List Bool) (a : Nat) :
    bits.foldl (fun acc b => 2 * acc + b.toNat) a = a * 2 ^ bits.length + ofBits bits := by
  induction bits generalizing a with
  | nil => simp [ofBits]
  | cons b rest ih =>
    have head : ofBits (b :: rest) = b.toNat * 2 ^ rest.length + ofBits rest := by
      rw [ofBits, List.foldl_cons, ih, Nat.mul_zero, Nat.zero_add]
    rw [List.foldl_cons, ih, head, List.length_cons, Nat.pow_succ]
    ring

theorem ofBits_cons (b : Bool) (rest : List Bool) : ofBits (b :: rest) = b.toNat * 2 ^ rest.length + ofBits rest := by
  rw [ofBits, List.foldl_cons, ofBits_foldl, Nat.mul_zero, Nat.zero_add]

theorem bitsOf_succ (n v : Nat) : bitsOf (n + 1) v = v.testBit n :: bitsOf n v := by
  unfold bitsOf
  rw [List.range_succ_eq_map, List.map_cons, List.map_map]
  congr 1
  exact List.map_congr_left fun i _ => congrArg v.testBit (by simp; omega)

/-- A number's low bits spell it within their width (R183). -/
theorem ofBits_bitsOf (n v : Nat) : ofBits (bitsOf n v) = v % 2 ^ n := by
  induction n with
  | zero => simp [bitsOf, ofBits, Nat.mod_one]
  | succ n ih =>
    rw [bitsOf_succ, ofBits_cons, ih, bitsOf_length, Nat.toNat_testBit, Nat.mod_pow_succ]
    ring

theorem ofBits_bitsOf_small {n v : Nat} (small : v < 2 ^ n) : ofBits (bitsOf n v) = v := by
  rw [ofBits_bitsOf, Nat.mod_eq_of_lt small]

theorem oddParity_foldl (group : List Bool) (b : Bool) : group.foldl Bool.xor b = (b ^^ oddParity group) := by
  unfold oddParity
  induction group generalizing b with
  | nil => simp
  | cons a rest ih => rw [List.foldl_cons, List.foldl_cons, ih, ih (Bool.xor false a)]; cases a <;> cases b <;> simp

/-- A group with its parity symbol holds an even number of LONG symbols (R13). -/
theorem oddParity_withParity (group : List Bool) : oddParity (withParity group) = false := by
  rw [withParity, oddParity, List.foldl_append, List.foldl_cons, List.foldl_nil]
  exact Bool.xor_self _

/-! ## The symbols of a frame -/

section
variable {length : Nat} {ann : Announcement} {l : LocalFields} {offset : Int} {segmentByte segment : Nat}

/-- The bits of a frame's fields with their parities, from index 1 on (R81, R183). -/
def frameBody (ann : Announcement) (l : LocalFields) (offset : Int) (segmentByte segment : Nat) : List Bool :=
  withParity [ann.lp, ann.oc, ann.ls, ann.su] ++ withParity (bitsOf 6 l.minute) ++ withParity (bitsOf 5 l.hour) ++
    withParity (bitsOf 9 l.dayOfYear) ++ withParity (bitsOf 7 l.yearOfCentury) ++ withParity (bitsOf 3 l.weekday) ++
    withParity (bitsOf 7 (frameSymbols.lowBits7 offset)) ++ withParity (bitsOf 8 segmentByte ++ bitsOf 2 segment)

theorem frameBody_length : (frameBody ann l offset segmentByte segment).length = 59 := rfl

/-- The 60 symbols of a frame's fields (R183). -/
def frameBase (ann : Announcement) (l : LocalFields) (offset : Int) (segmentByte segment : Nat) : List Symbol :=
  .mark :: (frameBody ann l offset segmentByte segment).map symbolOf

theorem frameSymbols_eq : frameSymbols length ann l offset segmentByte segment =
    if length = 61 then frameBase ann l offset segmentByte segment ++ [.short]
    else if length = 59 then (frameBase ann l offset segmentByte segment).take 59
    else frameBase ann l offset segmentByte segment := rfl

theorem frameBase_length : (frameBase ann l offset segmentByte segment).length = 60 := rfl

/-- The symbols that a frame of any length has as its fields give them (R183). -/
theorem frameSymbols_within {i k : Nat} (within : i + k ≤ 59 ∨ (length ≠ 59 ∧ i + k ≤ 60)) :
    ((frameSymbols length ann l offset segmentByte segment).drop i).take k =
      ((frameBase ann l offset segmentByte segment).drop i).take k := by
  rw [frameSymbols_eq]
  split
  · have base : (frameBase ann l offset segmentByte segment).length = 60 := frameBase_length
    rw [List.drop_append_of_le_length (by omega), List.take_append_of_le_length (by rw [List.length_drop]; omega)]
  · split
    · rw [List.drop_take, List.take_take, Nat.min_eq_left (by omega)]
    · rfl

theorem symbolOf_bits (bits : List Bool) : (bits.map symbolOf).map (fun y => y == .long) = bits := by
  rw [List.map_map]
  refine (List.map_congr_left fun b _ => ?_).trans (List.map_id bits)
  cases b <;> rfl

/-- The bits from an index on are those of the fields (R149, R183). -/
theorem bitsAt_frame {j k : Nat} (within : j + 1 + k ≤ 59 ∨ (length ≠ 59 ∧ j + 1 + k ≤ 60)) :
    bitsAt (frameSymbols length ann l offset segmentByte segment) (j + 1) k =
      ((frameBody ann l offset segmentByte segment).drop j).take k := by
  rw [bitsAt, frameSymbols_within within, frameBase, List.drop_succ_cons, ← List.map_drop, ← List.map_take, symbolOf_bits]

/-- A field of a frame reads back (R149, R183). -/
theorem fieldAt_frame {j n v : Nat} (within : j + 1 + n ≤ 59)
    (field : ((frameBody ann l offset segmentByte segment).drop j).take n = bitsOf n v) (small : v < 2 ^ n) :
    fieldAt (frameSymbols length ann l offset segmentByte segment) (j + 1) n = v := by
  rw [fieldAt, bitsAt_frame (.inl within), field, ofBits_bitsOf_small small]

theorem lineMinute_frame (small : l.minute < 64) : lineMinute (frameSymbols length ann l offset segmentByte segment) = l.minute :=
  fieldAt_frame (by decide) rfl small

theorem lineHour_frame (small : l.hour < 32) : lineHour (frameSymbols length ann l offset segmentByte segment) = l.hour :=
  fieldAt_frame (by decide) rfl small

theorem lineDay_frame (small : l.dayOfYear < 512) : lineDay (frameSymbols length ann l offset segmentByte segment) = l.dayOfYear :=
  fieldAt_frame (by decide) rfl small

theorem lineYear_frame (small : l.yearOfCentury < 128) :
    lineYear (frameSymbols length ann l offset segmentByte segment) = l.yearOfCentury :=
  fieldAt_frame (by decide) rfl small

theorem lineWeekday_frame (small : l.weekday < 8) : lineWeekday (frameSymbols length ann l offset segmentByte segment) = l.weekday :=
  fieldAt_frame (by decide) rfl small

theorem lineOffset_frame (least : -48 ≤ offset) (most : offset ≤ 56) :
    lineOffset (frameSymbols length ann l offset segmentByte segment) = offset := by
  have low : frameSymbols.lowBits7 offset < 128 := by
    unfold frameSymbols.lowBits7
    omega
  have field : fieldAt (frameSymbols length ann l offset segmentByte segment) 41 7 = frameSymbols.lowBits7 offset :=
    fieldAt_frame (by decide) rfl low
  unfold lineOffset
  rw [field]
  refine signedOf_seven ?_ least most
  unfold frameSymbols.lowBits7
  omega

theorem lineSegment_frame (small : segmentByte < 256) :
    lineSegment (frameSymbols length ann l offset segmentByte segment) = segmentByte :=
  fieldAt_frame (by decide) rfl small

theorem lineSegmentIndex_frame (small : segment < 4) :
    lineSegmentIndex (frameSymbols length ann l offset segmentByte segment) = segment :=
  fieldAt_frame (by decide) rfl small

theorem lineLP_frame : lineLP (frameSymbols length ann l offset segmentByte segment) = ann.lp := by
  have field : fieldAt (frameSymbols length ann l offset segmentByte segment) 1 1 = ofBits [ann.lp] := by
    rw [fieldAt, bitsAt_frame (.inl (by decide))]
    rfl
  unfold lineLP
  rw [field]
  cases ann.lp <;> rfl

theorem lineLS_frame : lineLS (frameSymbols length ann l offset segmentByte segment) = ann.ls := by
  have field : fieldAt (frameSymbols length ann l offset segmentByte segment) 3 1 = ofBits [ann.ls] := by
    rw [fieldAt, bitsAt_frame (.inl (by decide))]
    rfl
  unfold lineLS
  rw [field]
  cases ann.ls <;> rfl

/-- Every group of a frame keeps its parity (R13, R149). -/
theorem parityOk_frame (three : length = 59 ∨ length = 60 ∨ length = 61) :
    parityOk (frameSymbols length ann l offset segmentByte segment) = true := by
  have group {j k : Nat} {bits : List Bool} (within : j + 1 + k ≤ 59 ∨ (length ≠ 59 ∧ j + 1 + k ≤ 60))
      (is : ((frameBody ann l offset segmentByte segment).drop j).take k = withParity bits) :
      oddParity (bitsAt (frameSymbols length ann l offset segmentByte segment) (j + 1) k) = false := by
    rw [bitsAt_frame within, is, oddParity_withParity]
  have seven : ∀ iw ∈ parityGroups,
      (!oddParity (bitsAt (frameSymbols length ann l offset segmentByte segment) iw.1 iw.2)) = true := by
    simp only [parityGroups, List.forall_mem_cons, Bool.not_eq_true', List.not_mem_nil, false_implies, implies_true, and_true]
    exact ⟨group (bits := [ann.lp, ann.oc, ann.ls, ann.su]) (.inl (by decide)) rfl,
      group (bits := bitsOf 6 l.minute) (.inl (by decide)) rfl, group (bits := bitsOf 5 l.hour) (.inl (by decide)) rfl,
      group (bits := bitsOf 9 l.dayOfYear) (.inl (by decide)) rfl, group (bits := bitsOf 7 l.yearOfCentury) (.inl (by decide)) rfl,
      group (bits := bitsOf 3 l.weekday) (.inl (by decide)) rfl,
      group (bits := bitsOf 7 (frameSymbols.lowBits7 offset)) (.inl (by decide)) rfl⟩
  unfold parityOk
  rw [frameSymbols_length three, List.all_eq_true]
  split
  · exact seven
  next other =>
    intro iw mem
    obtain mem | mem := List.mem_append.mp mem
    · exact seven iw mem
    · obtain rfl := List.mem_singleton.mp mem
      rw [group (bits := bitsOf 8 segmentByte ++ bitsOf 2 segment) (.inr ⟨other, by decide⟩) rfl]
      rfl

/-- A frame begins with its MARK and has no other (R81). -/
theorem frameSymbols_marks : (frameSymbols length ann l offset segmentByte segment).head? = some .mark ∧
    ∀ y ∈ (frameSymbols length ann l offset segmentByte segment).drop 1, y ≠ .mark := by
  have plain : ∀ y ∈ (frameBody ann l offset segmentByte segment).map symbolOf, y ≠ .mark := by
    intro y mem
    obtain ⟨b, -, rfl⟩ := List.mem_map.mp mem
    cases b <;> exact Symbol.noConfusion
  rw [frameSymbols_eq]
  split
  · refine ⟨rfl, fun y mem => ?_⟩
    obtain mem | mem := List.mem_append.mp (show y ∈ (frameBody ann l offset segmentByte segment).map symbolOf ++ [.short] from mem)
    · exact plain y mem
    · rw [List.mem_singleton.mp mem]
      exact Symbol.noConfusion
  · split
    · exact ⟨rfl, fun y mem => plain y (List.mem_of_mem_take (show y ∈ ((frameBody ann l offset segmentByte segment).map symbolOf).take 58 from mem))⟩
    · exact ⟨rfl, plain⟩

/-- The four announcement bits stand at indices 1 to 4 (R8 to R10, R183). -/
theorem frameSymbols_announcement :
    (frameSymbols length ann l offset segmentByte segment)[1]? = some (symbolOf ann.lp) ∧
    (frameSymbols length ann l offset segmentByte segment)[2]? = some (symbolOf ann.oc) ∧
    (frameSymbols length ann l offset segmentByte segment)[3]? = some (symbolOf ann.ls) ∧
    (frameSymbols length ann l offset segmentByte segment)[4]? = some (symbolOf ann.su) := by
  rw [frameSymbols_eq]
  split
  · exact ⟨rfl, rfl, rfl, rfl⟩
  · split
    · exact ⟨rfl, rfl, rfl, rfl⟩
    · exact ⟨rfl, rfl, rfl, rfl⟩

end

end Sys2Proof.Machine
end

section
/-! PROOFS. What the Frame Builder writes, the Line Reader reads; and the announcement bits (O23). -/

namespace Sys2Proof.Machine

section
variable {s : State} {n0 : Int} {kind : BuildKind} {word : BitVec 32} {e x : Entry}

/-! ## Entries of one place -/

/-- Of one instant the list holds one leap entry and one OFFSET entry at most (R60, R64). -/
theorem ScheduleSafe.place_unique (safe : ScheduleSafe s) (mem : e ∈ s.schedule) (mem' : x ∈ s.schedule)
    (instant : e.instant = x.instant) (family : e.kind.isLeap = x.kind.isLeap) : e = x := by
  have apart {a b : Entry} (instant : a.instant = b.instant) (family : a.kind.isLeap = b.kind.isLeap) : ¬ a.before b = true := by
    rw [Entry.before_iff, instant, family]
    rintro (earlier | ⟨-, leap, offset⟩)
    · exact absurd earlier (lt_irrefl _)
    · rw [leap] at offset
      exact Bool.noConfusion offset
  obtain ⟨pre, post, split⟩ := List.append_of_mem mem
  have order := safe.order
  rw [split, List.pairwise_append, List.pairwise_cons] at order
  obtain ⟨-, ⟨after, -⟩, before⟩ := order
  rw [split, List.mem_append, List.mem_cons] at mem'
  obtain early | rfl | late := mem'
  · exact absurd (before x early e (List.mem_cons_self ..)) (apart instant.symm family.symm)
  · rfl
  · exact absurd (after x late) (apart instant family)

theorem inWindow_iff {announce : Nat} : inWindow announce n0 e = true ↔ e.instant - 60 * (announce : Int) ≤ n0 ∧ n0 < e.instant := by
  simp [inWindow]

/-- The leap entry at a frame's end is the leap pending at its start (R76, R84). -/
theorem leapPending_end (safe : ScheduleSafe s) (announce : 1 ≤ s.load.params.site.announce) (minute : n0 % 60 = 0)
    (mem : e ∈ s.schedule) (leap : e.kind.isLeap = true) (due : e.instant = n0 + 60) :
    leapPending s.load.params.site.announce n0 s.schedule = some e := by
  obtain ⟨pre, post, split⟩ := List.append_of_mem mem
  have order := safe.order
  rw [split, List.pairwise_append] at order
  refine List.find?_eq_some_iff_append.mpr ⟨?_, pre, post, split, fun x early => ?_⟩
  · rw [leap, Bool.true_and, inWindow_iff]
    omega
  · have memX : x ∈ s.schedule := by rw [split]; exact List.mem_append_left _ early
    have before := Entry.before_iff.mp (order.2.2 x early e (List.mem_cons_self ..))
    have day := (safe.entries x memX).minute
    rw [Bool.not_eq_true', Bool.and_eq_false_iff]
    by_cases leapX : x.kind.isLeap = true
    · refine .inr (Bool.eq_false_iff.mpr fun window => ?_)
      obtain ⟨-, ahead⟩ := inWindow_iff.mp window
      rw [leap] at before
      obtain earlier | ⟨-, -, offset⟩ := before
      · omega
      · exact Bool.noConfusion offset
    · exact .inl (Bool.eq_false_iff.mpr leapX)

/-! ## The length of a frame -/

/-- A frame's length is that of the leap entry at its end that its build counts, and 60 without one (R84). -/
theorem frameLength_cases (n0 : Int) (kind : BuildKind) (entries : List Entry) :
    (∃ e ∈ entries, e.kind.isLeap = true ∧ e.instant = n0 + 60 ∧ (kind = .onTime ∨ e.committed = true) ∧
      frameLength n0 kind entries = if e.kind = .leapInsert then 61 else 59) ∨
    ((∀ e ∈ entries, e.kind.isLeap = true → e.instant = n0 + 60 → ¬ (kind = .onTime ∨ e.committed = true)) ∧
      frameLength n0 kind entries = 60) := by
  unfold frameLength
  split
  next e found =>
    have passes := List.find?_some found
    simp only [Bool.and_eq_true, decide_eq_true_eq, Bool.or_eq_true, beq_iff_eq] at passes
    obtain ⟨⟨due, leap⟩, counts⟩ := passes
    exact .inl ⟨e, List.mem_of_find?_eq_some found, leap, due, counts, rfl⟩
  next found =>
    refine .inr ⟨fun e mem leap due counts => ?_, rfl⟩
    have fails := List.find?_eq_none.mp found e mem
    exact fails (by simpa [due, leap] using counts)

/-! ## The announcement bits -/

/-- The announcement bits of a frame (R8 to R10, R76). -/
def State.announcement (n0 : Int) (s : State) : Announcement :=
  let leap := leapPending s.load.params.site.announce n0 s.schedule
  let carried := offsetFor n0 s.time.offset s.schedule
  { lp := leap.isSome, oc := offsetPending s.load.params.site.announce n0 carried s.schedule
    ls := leap.any (fun e => e.kind == .leapDelete), su := decide (carried ≠ s.load.params.standardOffset) }

theorem frameFor_symbols : (frameFor n0 kind word s).symbols = frameSymbols (frameLength n0 kind s.schedule) (s.announcement n0)
    (localFields (n0 + 900 * (frameFor n0 kind word s).offset)) (frameFor n0 kind word s).offset
    (segmentOf word (segmentIndex n0)) (segmentIndex n0) := by
  unfold frameFor State.announcement
  dsimp only
  cases leapPending s.load.params.site.announce n0 s.schedule <;> rfl

theorem EntryKind.isLeap_ne {k : EntryKind} : k.isLeap = true ↔ k ≠ .offset := by cases k <;> simp [EntryKind.isLeap]

theorem leapPending_isSome_iff {announce : Nat} {entries : List Entry} : (leapPending announce n0 entries).isSome = true ↔
    ∃ e ∈ entries, e.kind ≠ .offset ∧ e.instant - 60 * (announce : Int) ≤ n0 ∧ n0 < e.instant := by
  simp only [leapPending, List.find?_isSome, Bool.and_eq_true, inWindow_iff, EntryKind.isLeap_ne]

theorem leapPending_delete_iff {announce : Nat} {entries : List Entry} :
    (leapPending announce n0 entries).any (fun e => e.kind == .leapDelete) = true ↔
      ∃ pre e post, entries = pre ++ e :: post ∧ e.kind = .leapDelete ∧ (e.instant - 60 * (announce : Int) ≤ n0 ∧ n0 < e.instant) ∧
        ∀ x ∈ pre, x.kind = .offset ∨ ¬ (x.instant - 60 * (announce : Int) ≤ n0 ∧ n0 < x.instant) := by
  have passed (x : Entry) : (!(x.kind.isLeap && inWindow announce n0 x)) = true ↔
      x.kind = .offset ∨ ¬ (x.instant - 60 * (announce : Int) ≤ n0 ∧ n0 < x.instant) := by
    rw [Bool.not_eq_true', ← Bool.not_eq_true, Bool.and_eq_true, EntryKind.isLeap_ne, inWindow_iff]
    tauto
  rw [Option.any_eq_true]
  constructor
  · rintro ⟨e, found, delete⟩
    obtain ⟨passes, pre, post, split, before⟩ := List.find?_eq_some_iff_append.mp found
    rw [Bool.and_eq_true, inWindow_iff] at passes
    exact ⟨pre, e, post, split, by simpa using delete, passes.2, fun x mem => (passed x).mp (before x mem)⟩
  · rintro ⟨pre, e, post, split, delete, window, before⟩
    refine ⟨e, List.find?_eq_some_iff_append.mpr ⟨?_, pre, post, split, fun x mem => (passed x).mpr (before x mem)⟩, by simp [delete]⟩
    rw [Bool.and_eq_true, inWindow_iff, delete]
    exact ⟨rfl, window⟩

theorem offsetPending_iff {announce : Nat} {carried : Int} {entries : List Entry} : offsetPending announce n0 carried entries = true ↔
    ∃ e ∈ entries, e.kind = .offset ∧ (e.instant - 60 * (announce : Int) ≤ n0 ∧ n0 < e.instant) ∧ e.newOffset ≠ some carried := by
  simp only [offsetPending, List.any_eq_true, Bool.and_eq_true, beq_iff_eq, bne_iff_ne, inWindow_iff, and_assoc]

/-! ## The offset carried -/

/-- A frame carries the offset of the OFFSET entry at its start (R8, R76). -/
theorem offsetFor_entry (safe : ScheduleSafe s) (mem : e ∈ s.schedule) (change : e.kind = .offset) (due : e.instant = n0) :
    e.newOffset = some (offsetFor n0 s.time.offset s.schedule) := by
  unfold offsetFor
  split
  next x found =>
    have passes := List.find?_some found
    simp only [Bool.and_eq_true, decide_eq_true_eq, beq_iff_eq] at passes
    obtain rfl := safe.place_unique mem (List.mem_of_find?_eq_some found) (due.trans passes.1.symm) (by rw [change, passes.2])
    obtain ⟨q, held, -, -⟩ := (safe.entries e mem).offset change
    rw [held]
    rfl
  next none => exact absurd (List.find?_eq_none.mp none e mem) (by simp [due, change])

theorem offsetFor_current {current : Int} {entries : List Entry} (none : ∀ e ∈ entries, e.kind = .offset → e.instant ≠ n0) :
    offsetFor n0 current entries = current := by
  have missing : entries.find? (fun e => decide (e.instant = n0) && e.kind == .offset) = Option.none :=
    List.find?_eq_none.mpr fun e mem => by simpa using fun due change => none e mem change due
  unfold offsetFor
  rw [missing]

/-! ## The local fields -/

/-- The fields of a local count in the years 2000 to 2099 (R56). -/
structure FieldsOf (c : Int) (l : LocalFields) : Prop where
  minute : (l.minute : Int) = c % 3600 / 60
  hour : (l.hour : Int) = c % 86400 / 3600
  day : (l.dayOfYear : Int) = dayOfYear (c / 86400)
  year : (2000 + l.yearOfCentury : Int) = yearOf (c / 86400)
  century : l.yearOfCentury < 100
  weekday : (l.weekday : Int) = weekdayOf (c / 86400)

theorem localFields_of {c : Int} (least : 0 ≤ c) (most : c < 3155760000) : FieldsOf c (localFields c) := by
  obtain ⟨day, -⟩ := dayOfYear_range (c / 86400)
  obtain ⟨weekday, -⟩ := weekdayOf_range (c / 86400)
  have year : 2000 ≤ yearOf (c / 86400) ∧ yearOf (c / 86400) < 2100 := by
    unfold yearOf yearOffset quadDay
    split <;> omega
  unfold localFields
  rw [if_neg (by omega)]
  constructor <;> simp only [secondOfDay, dayOf]
  all_goals omega

/-! ## A built frame on the line -/

/-- What a frame built for a minute whose local time lies in 2000 to 2099 has (R56, R81). -/
structure Readable (n0 : Int) (kind : BuildKind) (word : BitVec 32) (s : State) : Prop where
  safe : ScheduleSafe s
  announce : 1 ≤ s.load.params.site.announce
  minute : n0 % 60 = 0
  most : (frameFor n0 kind word s).offset ≤ 56
  least : -48 ≤ (frameFor n0 kind word s).offset
  from2000 : 0 ≤ n0 + 900 * (frameFor n0 kind word s).offset
  to2099 : n0 + 900 * (frameFor n0 kind word s).offset < 3155760000

/-- The fields a built frame's symbols read back as (R149, R183). -/
structure ReadsBack (n0 : Int) (offset : Int) (word : BitVec 32) (l : LocalFields) (symbols : List Symbol) : Prop where
  minute : lineMinute symbols = l.minute
  hour : lineHour symbols = l.hour
  day : lineDay symbols = l.dayOfYear
  year : lineYear symbols = l.yearOfCentury
  weekday : lineWeekday symbols = l.weekday
  offset : lineOffset symbols = offset
  segment : lineSegment symbols = segmentOf word (segmentIndex n0)
  index : lineSegmentIndex symbols = segmentIndex n0

theorem Readable.fields (r : Readable n0 kind word s) : FieldsOf (n0 + 900 * (frameFor n0 kind word s).offset)
    (localFields (n0 + 900 * (frameFor n0 kind word s).offset)) := localFields_of r.from2000 r.to2099

theorem Readable.readsBack (r : Readable n0 kind word s) : ReadsBack n0 (frameFor n0 kind word s).offset word
    (localFields (n0 + 900 * (frameFor n0 kind word s).offset)) (frameFor n0 kind word s).symbols := by
  obtain ⟨minute, hour, day, -, century, weekday⟩ := r.fields
  have days := dayOfYear_range ((n0 + 900 * (frameFor n0 kind word s).offset) / 86400)
  have weekdays := weekdayOf_range ((n0 + 900 * (frameFor n0 kind word s).offset) / 86400)
  have daySmall : dayOfYear ((n0 + 900 * (frameFor n0 kind word s).offset) / 86400) ≤ 366 := by
    have last := days.2
    split at last <;> omega
  have segment := segmentIndex_eq n0
  rw [frameFor_symbols]
  exact ⟨lineMinute_frame (by omega), lineHour_frame (by omega), lineDay_frame (by omega), lineYear_frame (by omega),
    lineWeekday_frame (by omega), lineOffset_frame r.least r.most, lineSegment_frame (Nat.mod_lt _ (by decide)),
    lineSegmentIndex_frame (by omega)⟩

theorem Readable.localDay (r : Readable n0 kind word s) :
    lineLocalDay (frameFor n0 kind word s).symbols = (n0 + 900 * (frameFor n0 kind word s).offset) / 86400 := by
  obtain ⟨-, -, day, year, -, -⟩ := r.fields
  rw [lineLocalDay, r.readsBack.year, r.readsBack.day, year, day, dayNumber_of_day]

theorem Readable.lineN0 (r : Readable n0 kind word s) : lineN0 (frameFor n0 kind word s).symbols = n0 := by
  obtain ⟨minute, hour, day, year, -, -⟩ := r.fields
  have whole := r.minute
  unfold Machine.lineN0 frameStartOf
  rw [r.readsBack.year, r.readsBack.day, r.readsBack.hour, r.readsBack.minute, r.readsBack.offset, year, day, dayNumber_of_day, minute, hour]
  omega

/-- A frame that is not of 60 symbols announces its leap (R9, R84), at the end of a UTC day. -/
theorem Readable.leap (r : Readable n0 kind word s) (e : Entry) (mem : e ∈ s.schedule) (leap : e.kind.isLeap = true)
    (due : e.instant = n0 + 60) : lineLP (frameFor n0 kind word s).symbols = true ∧
      lineLS (frameFor n0 kind word s).symbols = (e.kind == .leapDelete) ∧ secondOfDay n0 = 86340 := by
  have pending := leapPending_end r.safe r.announce r.minute mem leap due
  have day := (r.safe.entries e mem).day leap
  rw [frameFor_symbols, lineLP_frame, lineLS_frame]
  unfold State.announcement secondOfDay
  rw [pending]
  exact ⟨rfl, rfl, by omega⟩

theorem Readable.lengthOk (r : Readable n0 kind word s) : lengthOk (frameFor n0 kind word s).symbols = true ∧
    leapMinuteOk (frameFor n0 kind word s).symbols = true := by
  unfold Machine.lengthOk leapMinuteOk
  rw [r.lineN0, frameFor_length]
  obtain ⟨e, mem, leap, due, -, length⟩ | ⟨-, length⟩ := frameLength_cases n0 kind s.schedule
  · obtain ⟨lp, ls, second⟩ := r.leap e mem leap due
    rw [length, lp, ls, second]
    by_cases insert : e.kind = .leapInsert
    · have last : (frameFor n0 kind word s).symbols.getLast? = some .short := by
        rw [frameFor_symbols, frameSymbols_eq, length, if_pos insert, if_pos rfl, List.getLast?_append]
        rfl
      simp [insert, last]
    · have delete : e.kind = .leapDelete := (EntryKind.isLeap_iff.mp leap).resolve_left insert
      simp [delete]
  · simp [length]

/-- A built frame passes every check of a line frame (R149). -/
theorem Readable.valid (r : Readable n0 kind word s) : frameFault (frameFor n0 kind word s).symbols = none := by
  obtain ⟨minute, hour, day, year, century, weekday⟩ := r.fields
  obtain ⟨length, leapMinute⟩ := r.lengthOk
  obtain ⟨first, last⟩ := dayOfYear_range ((n0 + 900 * (frameFor n0 kind word s).offset) / 86400)
  have parity : parityOk (frameFor n0 kind word s).symbols = true := by
    rw [frameFor_symbols]
    exact parityOk_frame (frameLength_three n0 kind s.schedule)
  have range : rangeOk (frameFor n0 kind word s).symbols = true := by
    rw [← year, ← day] at last
    have within : ((localFields (n0 + 900 * (frameFor n0 kind word s).offset)).dayOfYear : Int) ≤
        if (2000 + (localFields (n0 + 900 * (frameFor n0 kind word s).offset)).yearOfCentury) % 4 = 0 then 366 else 365 := by
      split at last <;> split <;> omega
    unfold rangeOk
    rw [r.readsBack.minute, r.readsBack.hour, r.readsBack.day, r.readsBack.year, r.readsBack.offset]
    simp only [Bool.and_eq_true, decide_eq_true_eq]
    exact ⟨⟨⟨⟨⟨by omega, by omega⟩, by omega⟩, by exact_mod_cast within⟩, r.least⟩, r.most⟩
  have weekday : weekdayOk (frameFor n0 kind word s).symbols = true := by
    rw [weekdayOk, r.readsBack.weekday, r.localDay, weekday]
    exact decide_eq_true rfl
  simp [frameFault, length, parity, range, weekday, leapMinute]

end

end Sys2Proof.Machine

namespace Sys2Proof.Proofs

open Sys2Proof.Machine

/-- Settles O23, by the fields and checks of a built frame, its length, and its announcement bits. -/
theorem builtFramesReadBack : Obligations.BuiltFramesReadBack := by
  refine ⟨?_, ?_⟩
  · intro s n0 kind word safe announce minute _ f most least from2000 to2099 l
    have r : Readable n0 kind word s := ⟨safe, announce, minute, most, least, from2000, to2099⟩
    have reads := r.readsBack
    have marks : f.symbols.head? = some .mark ∧ ∀ y ∈ f.symbols.drop 1, y ≠ .mark := by
      simp only [f]
      rw [frameFor_symbols]
      exact frameSymbols_marks
    have length : f.symbols.length = frameLength n0 kind s.schedule := frameFor_length n0 kind word s
    refine ⟨r.valid, marks.1, marks.2, r.lineN0, reads.offset, reads.minute, reads.hour, reads.day, reads.year, reads.weekday,
      reads.segment, reads.index, segmentIndex_eq n0, ?_, ?_⟩
    · intro e mem leap due counts
      rw [length]
      obtain ⟨x, mem', leap', due', -, is⟩ | ⟨none, -⟩ := frameLength_cases n0 kind s.schedule
      · rw [is, safe.place_unique mem mem' (due.trans due'.symm) (leap.trans leap'.symm)]
      · exact absurd counts (none e mem leap due)
    · intro none
      rw [length]
      obtain ⟨x, mem, leap, due, counts, -⟩ | ⟨-, is⟩ := frameLength_cases n0 kind s.schedule
      · obtain ⟨catchUp, open_⟩ := none x mem leap due
        rw [catchUp, open_] at counts
        simp at counts
      · exact is
  · intro s n0 kind word safe f announced bit
    obtain ⟨one, two, three, four⟩ := frameSymbols_announcement (length := frameLength n0 kind s.schedule)
      (ann := s.announcement n0) (l := localFields (n0 + 900 * f.offset)) (offset := f.offset)
      (segmentByte := segmentOf word (segmentIndex n0)) (segment := segmentIndex n0)
    rw [← frameFor_symbols (kind := kind) (word := word)] at one two three four
    have bits {i : Nat} {b : Bool} {long : Prop} (is : f.symbols[i]? = some (symbolOf b)) (lit : b = true ↔ long) : bit i long := by
      refine ⟨fun yes => by rw [is, lit.mpr yes]; rfl, fun no => ?_⟩
      rw [is, Bool.eq_false_iff.mpr (mt lit.mp no)]
      rfl
    exact ⟨fun e mem change due => offsetFor_entry safe mem change due, offsetFor_current,
      bits one leapPending_isSome_iff, bits two offsetPending_iff, bits three leapPending_delete_iff,
      bits four decide_eq_true_iff⟩

end Sys2Proof.Proofs
end

section
/-! PROOFS. The tests of an offer and what a passed one does to the list (O22). -/

namespace Sys2Proof.Machine

section
variable {s : State} {o : Offer} {e : Entry} {n : Int}

/-! ## The tests -/

/-- A leap instant's test (R62). -/
theorem leapInstantOk_iff {t : Int} : leapInstantOk t = true ↔ t % 86400 = 0 ∧ monthEnd (t / 86400 - 1) = true := by
  simp [leapInstantOk, secondOfDay, dayOf]

theorem EntryKind.isLeap_eq_false {k : EntryKind} (offset : k = .offset) : k.isLeap = false := by rw [offset]; rfl

theorem State.offer_unset (unset : s.time.n = none) : s.offer o = s := by
  unfold State.offer
  rw [unset]

/-- The tests of an offer in order (R61, R62). -/
theorem State.offer_eq (set : s.time.n = some n) : s.offer o =
    if o.source = .line ∧ s.cls = .a then s
    else if o.instant ≤ n ∨ Config.lastInstant < o.instant then s.refuseOffer o
    else if o.kind.isLeap then if leapInstantOk o.instant then s.placeOffer o else s.refuseOffer o
    else o.newOffset.elim s (fun q => if -48 ≤ q ∧ q ≤ 56 then s.placeOffer o else s) := by
  unfold State.offer
  rw [set]
  cases o.newOffset <;> rfl

/-- What lets a LINE offer be tested (R61, R70). -/
def State.hears (o : Offer) (s : State) : Prop := o.source ≠ .line ∨ s.cls ≠ .a

theorem State.hears_iff : s.hears o ↔ ¬ (o.source = .line ∧ s.cls = .a) := by
  unfold State.hears
  tauto

theorem State.offer_deaf (set : s.time.n = some n) (deaf : ¬ s.hears o) : s.offer o = s := by
  rw [State.offer_eq set]
  exact if_pos (not_not.mp (mt State.hears_iff.mpr deaf))

/-- What an instant later than N and within the range is (R62). -/
def Offer.timely (n : Int) (o : Offer) : Prop := n < o.instant ∧ o.instant ≤ 3155760000

theorem Offer.timely_iff : o.timely n ↔ ¬ (o.instant ≤ n ∨ Config.lastInstant < o.instant) := by
  unfold Offer.timely
  rw [not_or, not_le, not_lt]
  rfl

theorem State.offer_untimely (set : s.time.n = some n) (hears : s.hears o) (untimely : ¬ o.timely n) : s.offer o = s.refuseOffer o := by
  rw [State.offer_eq set]
  exact (if_neg (State.hears_iff.mp hears)).trans (if_pos (not_not.mp (mt Offer.timely_iff.mpr untimely)))

theorem State.offer_leap (set : s.time.n = some n) (hears : s.hears o) (timely : o.timely n) (leap : o.kind.isLeap = true) :
    s.offer o = if leapInstantOk o.instant then s.placeOffer o else s.refuseOffer o := by
  rw [State.offer_eq set]
  exact (if_neg (State.hears_iff.mp hears)).trans ((if_neg (Offer.timely_iff.mp timely)).trans (if_pos leap))

theorem State.offer_offset {q : Int} (set : s.time.n = some n) (hears : s.hears o) (timely : o.timely n) (offset : o.kind = .offset)
    (new : o.newOffset = some q) : s.offer o = if -48 ≤ q ∧ q ≤ 56 then s.placeOffer o else s := by
  rw [State.offer_eq set, new]
  refine (if_neg (State.hears_iff.mp hears)).trans ((if_neg (Offer.timely_iff.mp timely)).trans (if_neg ?_))
  rw [EntryKind.isLeap_eq_false offset]
  exact Bool.noConfusion

theorem State.refuseOffer_leap (leap : o.kind.isLeap = true) : s.refuseOffer o = s.count Counters.addLeapRefused := if_pos leap

theorem State.refuseOffer_offset (offset : o.kind = .offset) : s.refuseOffer o = s :=
  if_neg (by rw [EntryKind.isLeap_eq_false offset]; exact Bool.noConfusion)

/-- What makes an offer pass its tests besides its instant (R62). -/
def Offer.fits (o : Offer) : Prop :=
  ((o.kind = .leapInsert ∨ o.kind = .leapDelete) ∧ o.instant % 86400 = 0 ∧ monthEnd (o.instant / 86400 - 1) = true) ∨
    (o.kind = .offset ∧ ∃ q, o.newOffset = some q ∧ -48 ≤ q ∧ q ≤ 56)

theorem State.offer_places (set : s.time.n = some n) (hears : s.hears o) (timely : o.timely n) (fits : o.fits) :
    s.offer o = s.placeOffer o := by
  obtain ⟨leap, day⟩ | ⟨offset, q, new, range⟩ := fits
  · exact (State.offer_leap set hears timely (EntryKind.isLeap_iff.mpr leap)).trans (if_pos (leapInstantOk_iff.mpr day))
  · exact (State.offer_offset set hears timely offset new).trans (if_pos range)

/-! ## The entry at an offer's place -/

/-- The list with one entry of it replaced, as an offer reports it (R78). -/
structure State.Becomes (s : State) (pre post : List Entry) (e' e : Entry) (t : State) : Prop where
  schedule : t.schedule = pre ++ e' :: post
  maint : t.maint = s.maint
  time : t.time = s.time
  same : e' = e → t = s

theorem State.setSchedule_becomes {pre post : List Entry} {e' : Entry} (list : s.schedule = pre ++ e :: post) :
    s.Becomes pre post e' e (s.setSchedule (pre ++ e' :: post)) where
  schedule := State.setSchedule_schedule _ _
  maint := by simp
  time := by simp
  same is := if_pos (by rw [list, is])

/-- No other entry of an offer's family stands at its instant (R60). -/
def Alone (o : Offer) (others : List Entry) : Prop :=
  ∀ x ∈ others, x.instant ≠ o.instant ∨ (x.kind = .offset ∧ o.kind ≠ .offset) ∨ (x.kind ≠ .offset ∧ o.kind = .offset)

theorem Alone.kind {others : List Entry} (alone : Alone o others) {x : Entry} (mem : x ∈ others) :
    ¬ (x.instant = o.instant ∧ x.kind = o.kind) := by
  rintro ⟨instant, kind⟩
  have other := alone x mem
  rw [kind] at other
  tauto

theorem Alone.leap {others : List Entry} (alone : Alone o others) (leap : o.kind.isLeap = true) {x : Entry} (mem : x ∈ others) :
    ¬ (x.instant = o.instant ∧ x.kind.isLeap = true) := by
  rintro ⟨instant, leapX⟩
  have other := alone x mem
  rw [EntryKind.isLeap_ne] at leap leapX
  tauto

theorem map_at {pre post : List Entry} {p : Entry → Prop} [DecidablePred p] (f : Entry → Entry) (this : p e)
    (others : ∀ x ∈ pre ++ post, ¬ p x) :
    (pre ++ e :: post).map (fun x => if p x then f x else x) = pre ++ f e :: post := by
  have kept {l : List Entry} (inside : ∀ x ∈ l, ¬ p x) : l.map (fun x => if p x then f x else x) = l :=
    (List.map_congr_left fun x mem => if_neg (inside x mem)).trans (List.map_id l)
  rw [List.map_append, List.map_cons, if_pos this, kept fun x mem => others x (List.mem_append_left _ mem),
    kept fun x mem => others x (List.mem_append_right _ mem)]

/-- An offer of an entry's instant and kind merges into it (R63). -/
theorem State.placeOffer_merges {pre post : List Entry} (list : s.schedule = pre ++ e :: post) (instant : e.instant = o.instant)
    (kind : e.kind = o.kind) (alone : Alone o (pre ++ post)) :
    s.Becomes pre post (mergeEntry s.load.params.standardOffset o e) e (s.placeOffer o) := by
  have there : s.schedule.any (fun e => e.instant == o.instant && e.kind == o.kind) = true :=
    List.any_eq_true.mpr ⟨e, by simp [list], by simp [instant, kind]⟩
  have placed : s.placeOffer o = s.setSchedule (pre ++ mergeEntry s.load.params.standardOffset o e :: post) := by
    refine (if_pos there).trans ?_
    rw [list, map_at (p := fun x => x.instant = o.instant ∧ x.kind = o.kind) (mergeEntry s.load.params.standardOffset o)
      ⟨instant, kind⟩ fun x mem => alone.kind mem]
  rw [placed]
  exact State.setSchedule_becomes list

/-- An offer whose instant holds no entry of its kind (R64, R65). -/
theorem State.placeOffer_other (none : ∀ x ∈ s.schedule, ¬ (x.instant = o.instant ∧ x.kind = o.kind)) :
    s.placeOffer o = if o.kind.isLeap then
      (s.schedule.find? (fun e => e.instant == o.instant && e.kind.isLeap)).elim (s.insertOffer o) (fun e =>
        if e.committed ∨ o.source.rank < e.source.rank then s.count Counters.addLeapRefused
        else s.setSchedule (s.schedule.map (fun x => if x.instant = o.instant ∧ x.kind.isLeap then o.entry else x)))
      else s.insertOffer o := by
  have missing : s.schedule.any (fun e => e.instant == o.instant && e.kind == o.kind) = false :=
    List.any_eq_false.mpr fun x mem => by simpa using none x mem
  refine (if_neg (by rw [missing]; exact Bool.noConfusion)).trans ?_
  split
  · cases s.schedule.find? (fun e => e.instant == o.instant && e.kind.isLeap) <;> rfl
  · rfl

/-- A leap offer where a leap of the other sign stands (R64). -/
theorem State.placeOffer_sign {pre post : List Entry} (list : s.schedule = pre ++ e :: post) (instant : e.instant = o.instant)
    (kind : e.kind ≠ o.kind) (leap : o.kind.isLeap = true) (leapE : e.kind.isLeap = true) (alone : Alone o (pre ++ post)) :
    s.placeOffer o = if e.committed ∨ o.source.rank < e.source.rank then s.count Counters.addLeapRefused
      else s.setSchedule (pre ++ o.entry :: post) := by
  have none : ∀ x ∈ s.schedule, ¬ (x.instant = o.instant ∧ x.kind = o.kind) := by
    intro x mem
    rw [list, List.mem_append, List.mem_cons] at mem
    obtain early | rfl | late := mem
    · exact alone.kind (List.mem_append_left _ early)
    · exact fun h => kind h.2
    · exact alone.kind (List.mem_append_right _ late)
  have found : s.schedule.find? (fun e => e.instant == o.instant && e.kind.isLeap) = some e := by
    refine List.find?_eq_some_iff_append.mpr ⟨by simp [instant, leapE], pre, post, list, fun x early => ?_⟩
    simpa [imp_iff_not_or] using alone.leap leap (List.mem_append_left _ early)
  rw [State.placeOffer_other none, if_pos leap, found, Option.elim_some, list,
    map_at (p := fun x => x.instant = o.instant ∧ x.kind.isLeap = true) (fun _ => o.entry) ⟨instant, leapE⟩
      fun x mem => alone.leap leap mem]

/-- The order of ranks of sources: REF, RULE, LINE (R63). -/
theorem Source.rank_lt_iff {a b : Source} : b.rank < a.rank ↔ (a = .ref ∧ b ≠ .ref) ∨ (a = .rule ∧ b = .line) := by
  cases a <;> cases b <;> simp [Source.rank]

theorem mergeEntry_held {standard : Int} (committed : e.committed = true) : mergeEntry standard o e = e := if_pos committed

theorem mergeEntry_higher {standard : Int} (open_ : e.committed = false) (higher : e.source.rank < o.source.rank) :
    mergeEntry standard o e = { e with source := o.source, newOffset := o.newOffset } :=
  (if_neg (by rw [open_]; exact Bool.noConfusion)).trans (if_pos higher)

theorem mergeEntry_lower {standard : Int} (open_ : e.committed = false) (lower : o.source.rank < e.source.rank) :
    mergeEntry standard o e = e :=
  (if_neg (by rw [open_]; exact Bool.noConfusion)).trans ((if_neg (not_lt.mpr lower.le)).trans (if_pos lower))

/-- Between equal sources the merge goes by what the source is (R63). -/
theorem mergeEntry_equal {standard : Int} (open_ : e.committed = false) (same : o.source = e.source) :
    (e.source = .ref → mergeEntry standard o e = e) ∧
    (e.source = .line → mergeEntry standard o e = { e with newOffset := o.newOffset }) ∧
    (e.source = .rule → mergeEntry standard o e =
      if o.newOffset = some standard ∨ e.newOffset = some standard then { e with newOffset := some standard } else e) := by
  unfold mergeEntry
  rw [if_neg (by rw [open_]; exact Bool.noConfusion), same, if_neg (lt_irrefl _), if_neg (lt_irrefl _)]
  cases e.source <;> simp

end

end Sys2Proof.Machine
end

section
/-! PROOFS. Offers into a list with room and into a full one, the runs of the rule expander, and the epoch of a UTC year (O22). -/

namespace Sys2Proof.Machine

section
variable {s : State} {o : Offer} {e : Entry} {n : Int}

/-! ## Insertion and eviction -/

/-- No entry of an offer's family stands at its instant (R60). -/
def Unplaced (o : Offer) (s : State) : Prop := ∀ e ∈ s.schedule, e.instant = o.instant → (e.kind = .offset ↔ o.kind ≠ .offset)

theorem State.placeOffer_inserts (unplaced : Unplaced o s) : s.placeOffer o = s.insertOffer o := by
  have family {x : Entry} (mem : x ∈ s.schedule) (instant : x.instant = o.instant) : x.kind.isLeap ≠ o.kind.isLeap := by
    have other := unplaced x mem instant
    cases kind : x.kind <;> cases kind' : o.kind <;> simp [kind, kind', EntryKind.isLeap] at other ⊢
  rw [State.placeOffer_other fun x mem same => family mem same.1 (by rw [same.2])]
  split
  next leap =>
    have missing : s.schedule.find? (fun e => e.instant == o.instant && e.kind.isLeap) = none :=
      List.find?_eq_none.mpr fun x mem => by
        simp only [Bool.and_eq_true, beq_iff_eq]
        exact fun is => family mem is.1 (is.2.trans leap.symm)
    rw [missing]
    rfl
  · rfl

theorem State.insertOffer_room (room : s.schedule.length < 8) : s.insertOffer o = s.setSchedule (insertEntry o.entry s.schedule) :=
  if_pos room

/-- Into a full list an offer comes before the last entry, which is evicted, or not at all (R65). -/
theorem State.insertOffer_full {pre : List Entry} {last : Entry} (list : s.schedule = pre ++ [last]) (full : pre.length = 7) :
    s.insertOffer o =
      if o.entry.before last then (s.setSchedule (insertEntry o.entry pre)).schedFull else s.schedFull := by
  have long : ¬ s.schedule.length < Config.scheduleSize := by
    rw [list, List.length_append, full]
    exact lt_irrefl 8
  unfold State.insertOffer
  rw [if_neg long, list, List.getLast?_concat, List.dropLast_concat]

theorem State.schedFull_maint (set : s.time.n = some n) : s.schedFull.maint.counters = s.maint.counters.addSchedDrop ∧
    s.schedFull.maint.alarms = raiseIn .schedFull (some n) s.maint.alarms := by
  unfold State.schedFull
  refine ⟨by simp [State.count], ?_⟩
  rw [State.raise_alarms]
  simp [set]

/-! ## The rule expander -/

theorem insertOfferByInstant_perm (o : Offer) (l : List Offer) : (insertOfferByInstant o l).Perm (o :: l) := by
  induction l with
  | nil => exact .refl _
  | cons x rest ih =>
    unfold insertOfferByInstant
    split
    · exact .refl _
    · exact (ih.cons x).trans (.swap o x rest)

theorem foldr_insertOffer_perm (l : List Offer) : (l.foldr insertOfferByInstant []).Perm l := by
  induction l with
  | nil => exact .refl _
  | cons o rest ih => exact (insertOfferByInstant_perm o _).trans (ih.cons o)

theorem insertOfferByInstant_ascends {l : List Offer} (o : Offer) (ascends : l.Pairwise (fun a b => a.instant ≤ b.instant)) :
    (insertOfferByInstant o l).Pairwise (fun a b => a.instant ≤ b.instant) := by
  induction l with
  | nil => exact List.pairwise_singleton _ _
  | cons x rest ih =>
    obtain ⟨first, later⟩ := List.pairwise_cons.mp ascends
    unfold insertOfferByInstant
    split
    next before =>
      refine List.pairwise_cons.mpr ⟨fun y mem => ?_, ascends⟩
      obtain rfl | mem := List.mem_cons.mp mem
      · exact before.le
      · exact before.le.trans (first y mem)
    next after =>
      refine List.pairwise_cons.mpr ⟨fun y mem => ?_, ih later⟩
      obtain rfl | mem := ScheduleSafe.mem_insertOfferByInstant.mp mem
      · exact not_lt.mp after
      · exact first y mem

theorem foldr_insertOffer_ascends (l : List Offer) :
    (l.foldr insertOfferByInstant []).Pairwise (fun a b => a.instant ≤ b.instant) := by
  induction l with
  | nil => exact .nil
  | cons o rest ih => exact insertOfferByInstant_ascends o ih

theorem State.expandRules_idle (idle : s.time.n = none ∨ s.load.params.zone = none) : s.expandRules = s := by
  unfold State.expandRules
  split
  next n zone set known =>
    obtain unset | unknown := idle
    · simp [unset] at set
    · simp [unknown] at known
  · rfl

theorem State.expandRules_run {z : Zone} (set : s.time.n = some n) (known : s.load.params.zone = some z) : s.expandRules =
    (((ruleOffers z (yearOf (dayOf n))).filter (fun o => decide (n < o.instant))).foldr insertOfferByInstant []).foldl
      (fun u o => u.offer o) s := by
  unfold State.expandRules
  rw [set, known]

/-! ## The epoch that begins a UTC year -/

theorem State.entriesAtEpoch_year (set : s.time.n = some n) (midnight : n % 86400 = 0) (first : dayOfYear (n / 86400) = 1) :
    s.entriesAtEpoch = (s.retire n).expandRules := by
  have year : yearStart n = true := by simp [yearStart, secondOfDay, dayOf, midnight, first]
  unfold State.entriesAtEpoch
  rw [set]
  exact if_pos year

/-- At the epoch that begins a UTC year the rule expander runs once the entries of that instant have retired (R66). -/
theorem State.epochEffect_year (plain : AdvancesPlainly n s) (within : n + 1 < 3155759999) (midnight : (n + 1) % 86400 = 0)
    (first : dayOfYear ((n + 1) / 86400) = 1) :
    ∃ u : State, s.epochEffect.time.n = some (n + 1) ∧ u.time.n = some (n + 1) ∧ u.load = s.load ∧
      u.schedule = s.schedule.filter (fun e => decide (e.instant ≠ n + 1)) ∧ s.epochEffect.schedule = u.expandRules.schedule := by
  have time : s.epochReset.time.n = some (n + 1) := by
    rw [State.epochReset_plain plain.reset, State.epochCounted_plain plain]
    simp only [State.ageAlarm_frame, (State.advanceTo_plain plain (by omega)).1]
  have list : s.epochReset.schedule = s.schedule := by
    rw [State.epochReset_plain plain.reset, State.epochCounted_plain plain]
    simp
  have load : s.epochReset.load = s.load := by
    rw [State.epochReset_plain plain.reset, State.epochCounted_plain plain]
    simp
  refine ⟨s.epochReset.retire (n + 1), ?_, ?_, ?_, ?_, ?_⟩
  · rw [State.epochEffect_eq]
    simpa using time
  · simpa using time
  · simpa using load
  · rw [State.retire_schedule, list]
  · rw [State.epochEffect_eq, State.entriesAtEpoch_year time midnight first]
    simp

end

end Sys2Proof.Machine

namespace Sys2Proof.Proofs

open Sys2Proof.Machine

/-- Settles O22, by the tests of an offer, its merge, its insertion, the runs of the rule expander, and the epoch of a UTC year. -/
theorem offersAreTestedAndPlaced : Obligations.OffersAreTestedAndPlaced := by
  refine ⟨?_, ?_, ?_, ?_⟩
  · intro o s
    refine ⟨State.offer_unset, fun n set => ?_⟩
    intro refused lineOk timeOk dayOk leap
    have isLeap : o.kind.isLeap = true ↔ leap := EntryKind.isLeap_iff
    refine ⟨State.offer_deaf set, ?_, ?_, ?_, ?_, ?_⟩
    · intro hears untimely kind
      exact (State.offer_untimely set hears untimely).trans (State.refuseOffer_leap (isLeap.mpr kind))
    · intro hears untimely offset
      exact (State.offer_untimely set hears untimely).trans (State.refuseOffer_offset offset)
    · intro hears timely kind day
      have tested := State.offer_leap set hears timely (isLeap.mpr kind)
      exact tested.trans ((if_neg (mt leapInstantOk_iff.mp day)).trans (State.refuseOffer_leap (isLeap.mpr kind)))
    · intro q hears timely offset new range
      exact (State.offer_offset set hears timely offset new).trans (if_neg (by omega))
    · intro pre e post list instant alone hears timely passes becomes outranks
      have placed : s.offer o = s.placeOffer o := State.offer_places set hears timely (passes.imp_left fun h => ⟨h.1, h.2.1, h.2.2⟩)
      have outrank {a b : Source} : b.rank < a.rank ↔ outranks a b := Source.rank_lt_iff
      have became {e' : Entry} (is : s.Becomes pre post e' e (s.offer o)) : becomes e' := ⟨is.schedule, is.maint, is.time, is.same⟩
      refine ⟨?_, ?_⟩
      · intro kind
        have merged {e' : Entry} (is : mergeEntry s.load.params.standardOffset o e = e') : becomes e' :=
          became (by rw [placed, ← is]; exact State.placeOffer_merges list instant kind alone)
        refine ⟨fun held => merged (mergeEntry_held held), fun open_ => ⟨?_, ?_, ?_, ?_, ?_⟩⟩
        · exact fun higher => merged (mergeEntry_higher open_ (outrank.mpr higher))
        · exact fun lower => merged (mergeEntry_lower open_ (outrank.mpr lower))
        · exact fun offered ref => merged ((mergeEntry_equal open_ (offered.trans ref.symm)).1 ref)
        · exact fun offered line => merged ((mergeEntry_equal open_ (offered.trans line.symm)).2.1 line)
        · intro offered rule standard
          have is := (mergeEntry_equal (standard := s.load.params.standardOffset) open_ (offered.trans rule.symm)).2.2 rule
          exact ⟨fun named => merged (is.trans (if_pos named)), fun no no' => merged (is.trans (if_neg (not_or.mpr ⟨no, no'⟩)))⟩
      · intro kind other sign
        have replaced := State.placeOffer_sign list instant other (isLeap.mpr kind) (EntryKind.isLeap_ne.mpr sign) alone
        refine ⟨?_, ?_⟩
        · intro stands
          exact placed.trans (replaced.trans (if_pos (stands.imp_right outrank.mpr)))
        · intro open_ equal
          refine became ?_
          rw [placed, replaced, if_neg (not_or.mpr ⟨by rw [open_]; exact Bool.noConfusion, mt outrank.mp equal⟩)]
          exact State.setSchedule_becomes list
  · intro o s n set safe hears later within minute fits unplaced e full
    have timely : o.timely n := ⟨later, within⟩
    have fitted : o.fits := by
      obtain offset | ⟨leap, -, day⟩ := fits
      · exact .inr offset
      · exact .inl ⟨EntryKind.isLeap_iff.mp (EntryKind.isLeap_ne.mpr leap), day⟩
    have placed : s.offer o = s.insertOffer o :=
      (State.offer_places set hears timely fitted).trans (State.placeOffer_inserts unplaced)
    have offered : OfferSafe o := ⟨minute, fun leap => (fits.resolve_left fun h => EntryKind.isLeap_ne.mp leap h.1).2.1⟩
    refine ⟨by simp, (safe.offer offered).order, ?_, ?_⟩
    · intro room
      rw [placed, State.insertOffer_room room, State.setSchedule_schedule]
      exact ⟨insertEntry_perm e s.schedule, by simp⟩
    · intro pre last list seven first
      have split := State.insertOffer_full (o := o) list seven
      rw [← placed] at split
      have counted := State.schedFull_maint set
      have before : o.entry.before last = true ↔ first := by
        rw [Entry.before_iff, EntryKind.isLeap_ne, EntryKind.not_leap]
        have family := unplaced last (by simp [list])
        change o.instant < last.instant ∨ (o.instant = last.instant ∧ o.kind ≠ .offset ∧ last.kind = .offset) ↔
          o.instant < last.instant ∨ (o.instant = last.instant ∧ last.kind = .offset)
        refine or_congr_right ⟨fun ⟨same, _, offset⟩ => ⟨same, offset⟩, fun ⟨same, offset⟩ => ⟨same, (family same.symm).mp offset, offset⟩⟩
      have evicted := State.schedFull_maint (s := s.setSchedule (insertEntry o.entry pre)) (n := n) (by simpa using set)
      refine ⟨?_, ?_, ?_⟩
      · simp only [full, split]
        split_ifs
        · simpa using evicted
        · exact counted
      · intro evicts
        rw [split, if_pos (before.mpr evicts)]
        have perm : (insertEntry o.entry pre).Perm (e :: pre) := insertEntry_perm o.entry pre
        simpa [State.schedFull] using perm
      · intro drops
        rw [split, if_neg (mt before.mp drops)]
        simp [State.schedFull]
  · intro s
    refine ⟨State.expandRules_idle, ?_⟩
    intro n z set known y offers
    exact ⟨_, foldr_insertOffer_perm _, foldr_insertOffer_ascends _, State.expandRules_run set known⟩
  · intro now s n due plain flywheels within midnight first
    obtain ⟨u, time, reached, load, list, expanded⟩ := State.epochEffect_year (plain.at now) within midnight first
    exact ⟨_, u, exec_epoch due, time, reached, load, list, expanded⟩

end Sys2Proof.Proofs
end

section
/-! PROOFS. The rules of a drive instant: the swap, the standing's turn and the second keyed; swaps and catch-up builds (O25). -/

namespace Sys2Proof.Machine

section
variable {now : Instant} {s : State} {g : Frame} {mark : Bool} {index : Option Nat}

/-! ## The drive instant -/

theorem exec_driveInstant (due : DriveDue now s) : exec (.driveInstant now) s = .next (s.at now).driveEffect :=
  exec_due (c := .driveInstant now) (by simp [Instr.due, due.up, due.tick, due.waiting])

theorem State.swapDue_iff : s.swapDue = true ↔ SwapComes s := by
  unfold State.swapDue SwapComes
  rcases current : s.frames.current with _ | f
  · simp
  · rcases coming : s.comingCount with _ | ⟨n, step⟩
    · simp
    · simp

/-! ## The second keyed -/

/-- A loopback reduction moves the filter's level alone of the keying (R139). -/
theorem State.loopSecond_key (s : State) : ∃ level, s.loopSecond.key = { s.key with level := level } := by
  unfold State.loopSecond
  split
  · exact ⟨some .low, by rw [State.loopPull, State.decoderFall_eq]⟩
  · exact ⟨s.key.level, rfl⟩

theorem State.startTest_key (mark : Bool) (s : State) : ∃ level, (s.startTest mark).key = { s.key with level := level } := by
  unfold State.startTest
  split
  · exact ⟨some .high, rfl⟩
  · exact ⟨s.key.level, rfl⟩

theorem State.standingAtDrive_key (mark : Bool) (s : State) :
    (s.standingAtDrive mark).key = s.key ∨ (s.standingAtDrive mark).key = s.key.leftActive := by
  unfold State.standingAtDrive State.activeExits State.yieldExit
  repeat' split
  all_goals simp [State.leftActive]

/-- What a drive instant leaves of a key whose tallies are empty, as a swap's are (R111). -/
theorem State.driveEffect_listenIndex (s : State) : s.driveEffect.key.listenIndex = s.driveSwapped.key.listenIndex ∧
    (s.driveSwapped.key.tallies = Tallies.empty → s.driveEffect.key.tallies = Tallies.empty) := by
  obtain ⟨level, looped⟩ := (s.driveTurned.keySecond s.driveMark s.driveIndex).loopSecond_key
  obtain ⟨level', started⟩ := ((s.driveSwapped.standingAtDrive s.driveMark).closeTest s.driveMark).startTest_key s.driveMark
  have turned : s.driveTurned.key = { (s.driveSwapped.standingAtDrive s.driveMark).key with level := level' } := by
    rw [State.driveTurned, started]
    simp
  rw [State.driveEffect_eq, looped]
  simp only [State.keySecond, turned]
  obtain same | left := s.driveSwapped.standingAtDrive_key s.driveMark
  · rw [same]
    exact ⟨rfl, id⟩
  · rw [left]
    exact ⟨rfl, fun _ => rfl⟩

/-- What a drive instant leaves as the swap leaves it. -/
theorem State.driveEffect_swapped (s : State) : s.driveEffect.frames = s.driveSwapped.frames ∧
    s.driveEffect.ctl.copy = s.driveSwapped.ctl.copy ∧ s.driveEffect.schedule = s.driveSwapped.schedule ∧
    s.driveEffect.time = s.driveSwapped.time ∧ s.driveEffect.timer = { s.driveSwapped.timer with driveTaken := true } := by
  rw [State.driveEffect_eq, State.driveTurned]
  simp [State.keySecond]

/-! ## The swap -/

/-- The leap entry at a frame's end committed where its length matches (R71). -/
def committedFor (g : Frame) (entries : List Entry) : List Entry := entries.map (fun e =>
  if e.instant = g.n0 + 60 ∧ ((e.kind = .leapInsert ∧ g.symbols.length = 61) ∨ (e.kind = .leapDelete ∧ g.symbols.length = 59))
  then { e with committed := true } else e)

/-- Without a next frame a change of the list marks nothing (R78). -/
theorem State.setSchedule_bare (none : s.frames.next = none) (entries : List Entry) :
    s.setSchedule entries = { s with schedule := entries } := by
  have kept (f : Frame → Frame) : ({ s.frames with next := s.frames.next.map f } : FrameBuilder) = s.frames := by
    rw [none, Option.map_none, ← none]
  unfold State.setSchedule
  split
  next same => rw [same]
  · unfold State.markStale
    rw [show ({ s with schedule := entries } : State).frames = s.frames from rfl, kept]

/-- The swap of the next frame as it stands after the rebuild (R90). -/
theorem State.frameSwap_next (ready : s.rebuildStale.frames.next = some g) : s.frameSwap = { s.rebuildStale with
    frames := { s.rebuildStale.frames with current := some g, next := none }
    ctl := { s.ctl with copy := s.frames.current }
    schedule := committedFor g s.schedule
    key := { s.key with tallies := Tallies.empty, keyedMark := false, listenIndex := some (listenIndexOf s.load.slot g.n0) } } := by
  have swapReady : s.swapReady = s.rebuildStale := by
    unfold State.swapReady
    rw [ready]
  have made : s.swapMade = { s.rebuildStale with
      frames := { s.rebuildStale.frames with current := some g, next := none }, ctl := { s.ctl with copy := s.frames.current } } := by
    simp [State.swapMade, swapReady, ready]
  have committed : s.swapCommitted = s.swapMade.commitLeap g := by
    unfold State.swapCommitted
    rw [show s.swapMade.frames.current = some g by rw [made]]
  have listed : s.swapMade.commitLeap g = { s.swapMade with schedule := committedFor g s.schedule } := by
    have list : s.swapMade.schedule = s.schedule := by rw [made]; simp
    rw [State.commitLeap, State.setSchedule_bare (by rw [made]), list]
    rfl
  rw [State.frameSwap_eq, committed, listed, made]
  simp [State.frameBecameCurrent]

theorem State.driveSwapped_due (swap : SwapComes s) : s.driveSwapped = s.frameSwap := if_pos (State.swapDue_iff.mpr swap)

theorem State.driveSwapped_none (swap : ¬ SwapComes s) : s.driveSwapped = s := if_neg (mt State.swapDue_iff.mp swap)

theorem DrivesSwap.frameSwap (swaps : DrivesSwap g s) : s.frameSwap = { s with
    frames := { s.frames with current := some g, next := none }
    ctl := { s.ctl with copy := s.frames.current }
    schedule := committedFor g s.schedule
    key := { s.key with tallies := Tallies.empty, keyedMark := false, listenIndex := some (listenIndexOf s.load.slot g.n0) } } := by
  have fresh : s.rebuildStale = s := State.rebuildStale_fresh fun f held => by
    obtain rfl := Option.some.inj (swaps.next.symm.trans held)
    exact swaps.fresh
  have swapped := State.frameSwap_next (s := s) (g := g) (by rw [fresh]; exact swaps.next)
  rwa [fresh] at swapped

/-! ## Catch-up builds -/

/-- A catch-up build while SET: the frame of the present minute, and the next one from index 45 on (R82). -/
theorem State.catchUp_builds {n : Int} (set : s.time.n = some n) (loaded : s.ctl.standing ≠ .loading) :
    ∃ f b, s.catchUp = { s with frames := b, key := { s.key with
        tallies := Tallies.empty, keyedMark := false, listenIndex := some (listenIndexOf s.load.slot (n - n % 60)) } } ∧
      b.current = some f ∧ f.n0 = n - n % 60 ∧ f.kind = .catchUp ∧ f.stale = false ∧
      (¬ (s.time.leap60 = true ∨ n - n % 60 + 45 ≤ n) → b.next = none) ∧
      ((s.time.leap60 = true ∨ n - n % 60 + 45 ≤ n) →
        ∃ g, b.next = some g ∧ g.n0 = n - n % 60 + 60 ∧ g.kind = .onTime ∧ g.stale = false) := by
  have now : s.catchUp = (if s.time.leap60 = true ∨ n - n % 60 + 45 ≤ n
      then (s.discardFrames.buildCurrent (n - n % 60)).buildNext (n - n % 60 + 60)
      else s.discardFrames.buildCurrent (n - n % 60)).frameBecameCurrent := by
    rw [State.catchUp, if_neg loaded, State.catchUpNow]
    simp [set]
  rw [now]
  by_cases late : s.time.leap60 = true ∨ n - n % 60 + 45 ≤ n
  · rw [if_pos late]
    exact ⟨_, _, rfl, rfl, rfl, rfl, rfl, fun early => absurd late early, fun _ => ⟨_, rfl, rfl, rfl, rfl⟩⟩
  · rw [if_neg late]
    exact ⟨_, _, rfl, rfl, rfl, rfl, rfl, fun _ => rfl, fun later => absurd later late⟩

end

end Sys2Proof.Machine

namespace Sys2Proof.Proofs

open Sys2Proof.Machine

/-- Settles O25: the swap of a fresh and of a stale next frame, and the catch-up build. -/
theorem markSwapsTheFrames : Obligations.MarkSwapsTheFrames := by
  refine ⟨?_, ?_, ?_⟩
  · intro now s g due swaps
    have here : DrivesSwap g (s.at now) := ⟨swaps.next, swaps.fresh, swaps.passed⟩
    obtain ⟨frames, copy, schedule, time, timer⟩ := (s.at now).driveEffect_swapped
    obtain ⟨listenIndex, tallies⟩ := (s.at now).driveEffect_listenIndex
    rw [State.driveSwapped_due here.passed, here.frameSwap] at frames copy schedule time timer listenIndex tallies
    exact ⟨_, exec_driveInstant due, frames, copy, listenIndex, tallies rfl, time, timer, schedule⟩
  · intro now s h due next stale swap word g
    have rebuilt := State.rebuildStale_stale (s := s.at now) next stale
    have swapped := State.frameSwap_next (s := s.at now) (g := g) (by rw [rebuilt]; rfl)
    rw [rebuilt] at swapped
    obtain ⟨frames, copy, schedule, -, -⟩ := (s.at now).driveEffect_swapped
    rw [State.driveSwapped_due (s := s.at now) swap, swapped] at frames copy schedule
    exact ⟨_, exec_driveInstant due, rfl, rfl, rfl, by rw [frames], by rw [frames],
      by rw [frames]; rfl, by rw [frames]; rfl, copy, schedule⟩
  · intro s n set loaded t n0
    obtain ⟨f, b, built, current, start, kind, fresh, early, late⟩ := State.catchUp_builds set loaded
    have built : t = _ := built
    rw [built]
    refine ⟨⟨f, current, start, kind, fresh⟩, rfl, rfl, fun before flag => early ?_, fun after => late ?_, rfl, rfl, rfl, rfl, rfl⟩
    · rw [flag]
      exact not_or.mpr ⟨Bool.noConfusion, not_le.mpr before⟩
    · exact after.symm

end Sys2Proof.Proofs
end

section
/-! PROOFS. The second a drive instant opens: its place in the frame, its keying and its record (O26). -/

namespace Sys2Proof.Machine

section
variable {now : Instant} {s : State} {f g : Frame} {i : Nat} {mark : Bool} {y : Symbol} {index : Option Nat}

/-! ## The place of the second that comes -/

theorem State.indexAt_held (current : s.frames.current = some f) (n : Int) (step : LeapStep) :
    s.indexAt (some (n, step)) = some (if step = .inserted then 60 else (n - f.n0).toNat) := by
  simp [State.indexAt, current]

theorem State.indexAt_none (s : State) : s.indexAt none = none := by
  unfold State.indexAt
  cases s.frames.current <;> rfl

theorem State.beginsFrame_held (current : s.frames.current = some f) (n : Int) (step : LeapStep) :
    s.beginsFrame (some (n, step)) = decide (n = f.n0) := by
  simp [State.beginsFrame, current]

/-- A second within the current frame swaps no frame and is no MARK (R91). -/
theorem DrivesIndex.place (drives : DrivesIndex f i s) :
    s.driveSwapped = s ∧ s.driveMark = false ∧ s.driveIndex = some i ∧ s.frames.current = some f := by
  obtain ⟨n, step, coming, place⟩ := drives.index
  have within : ¬ SwapComes s := by
    rintro ⟨f', n', step', current, coming', regular, past⟩
    rw [drives.current] at current
    rw [coming] at coming'
    obtain rfl := Option.some.inj current
    obtain ⟨rfl, rfl⟩ := Prod.mk.inj (Option.some.inj coming')
    obtain ⟨inserted, -⟩ | ⟨-, at', small⟩ := place
    · exact regular inserted
    · omega
  have swapDue : s.swapDue = false := by simpa using mt State.swapDue_iff.mp within
  have stays := State.driveSwapped_none within
  refine ⟨stays, by rw [State.driveMark, swapDue, Bool.false_and], ?_, drives.current⟩
  rw [State.driveIndex, stays, coming, State.indexAt_held drives.current]
  obtain ⟨inserted, rfl⟩ | ⟨regular, rfl, -⟩ := place
  · exact congrArg some (if_pos inserted)
  · exact congrArg some ((if_neg regular).trans (by omega))

/-- The second that comes after a swap, by its distance from the new frame's start (R91, R183). -/
theorem DrivesSwap.place (swaps : DrivesSwap g s) (coming : ∃ step, s.comingCount = some (g.n0 + (i : Int), step)) :
    s.driveSwapped = s.frameSwap ∧ s.frameSwap.frames.current = some g ∧ s.driveMark = decide (i = 0) ∧ s.driveIndex = some i := by
  have swapped := State.driveSwapped_due swaps.passed
  have current : s.frameSwap.frames.current = some g := by rw [swaps.frameSwap]
  obtain ⟨step, coming⟩ := coming
  have regular : step ≠ .inserted := by
    obtain ⟨-, n, step', -, coming', regular, -⟩ := swaps.passed
    obtain ⟨-, rfl⟩ := Prod.mk.inj (Option.some.inj (coming.symm.trans coming'))
    exact regular
  refine ⟨swapped, current, ?_, ?_⟩
  · rw [State.driveMark, State.swapDue_iff.mpr swaps.passed, swapped, coming, State.beginsFrame_held current, Bool.true_and]
    exact decide_eq_decide.mpr (by omega)
  · rw [State.driveIndex, swapped, coming, State.indexAt_held current]
    exact congrArg some ((if_neg regular).trans (by omega))

/-- While UNSET no second has a place (R107). -/
theorem State.driveIndex_unset (unset : s.time.n = none) : s.driveSwapped = s ∧ s.driveMark = false ∧ s.driveIndex = none := by
  have coming := State.comingCount_none.mpr unset
  have within : ¬ SwapComes s := by
    rintro ⟨-, n, step, -, coming', -⟩
    simp [coming] at coming'
  have stays := State.driveSwapped_none within
  refine ⟨stays, ?_, ?_⟩
  · rw [State.driveMark, show s.swapDue = false by simpa using mt State.swapDue_iff.mp within, Bool.false_and]
  · rw [State.driveIndex, coming, State.indexAt_none]

/-! ## The turn of the standing and the self-test -/

theorem State.closeTest_unmarked (s : State) : s.closeTest false = s := if_neg (by simp)

theorem State.startTest_unmarked (s : State) : s.startTest false = s := if_neg (by simp)

theorem State.closeTest_still (still : s.ctl.test.state ≠ .running) : s.closeTest mark = s := if_neg (by simp [State.testRunning, still])

theorem State.loopSecond_silent (still : s.ctl.test.state ≠ .running) : s.loopSecond = s :=
  if_neg (by simp [State.loopKeyed, State.testFrameKeyed, State.testRunning, still])

/-- A drive instant that is no MARK's, with no self-test under way: the standing's turn and the second (R96, R120). -/
theorem State.driveEffect_unmarked (unmarked : s.driveMark = false) (still : s.ctl.test.state ≠ .running) :
    s.driveEffect = (s.driveSwapped.standingAtDrive false).keySecond false s.driveIndex := by
  have silent : ((s.driveSwapped.standingAtDrive false).keySecond false s.driveIndex).ctl.test.state ≠ .running := by
    simpa [State.driveSwapped] using still
  rw [State.driveEffect_eq, State.driveTurned, unmarked, State.closeTest_unmarked, State.startTest_unmarked,
    State.loopSecond_silent silent]

/-- A drive instant whose swap comes late (R91, notes/assumptions/34.md). -/
theorem DrivesLate.driveEffect (drives : DrivesLate g i s) (still : s.ctl.test.state ≠ .running) :
    s.driveEffect = (s.frameSwap.standingAtDrive false).keySecond false (some i) := by
  obtain ⟨swapped, -, mark, index⟩ := drives.swap.place drives.index
  rw [decide_eq_false drives.later.ne'] at mark
  rw [State.driveEffect_unmarked mark still, swapped, index]

theorem State.standingAtDrive_stays (stays : StaysActive s) : s.standingAtDrive false = s := by
  rw [State.standingAtDrive, if_pos stays.active, State.activeExits]
  simp [stays.noFault, stays.noWithdraw, stays.running]

theorem State.standingAtDrive_off (off : s.ctl.standing ≠ .active) :
    s.standingAtDrive mark = if s.joins mark then s.enterQuiet .active else s := if_neg off

/-- A keyer off the line that does not join keeps its standing (R124, R129). -/
theorem State.standingAtDrive_rests (off : s.ctl.standing ≠ .active) (rests : s.joins mark = false) : s.standingAtDrive mark = s := by
  rw [State.standingAtDrive_off off, rests]
  rfl

theorem State.recordsSecond_iff : s.recordsSecond = true ↔ s.ctl.standing ≠ .loading ∧ s.ctl.standing ≠ .faultedOsc := by
  simp [State.recordsSecond]

theorem State.recordsSecond_surveys (surveys : s.ctl.standing.surveys = true) : s.recordsSecond = true := by
  refine State.recordsSecond_iff.mpr ⟨?_, ?_⟩
  all_goals
    intro stands
    rw [stands] at surveys
    exact absurd surveys (by decide)

/-- A keyer that stands aside, or surveys a line that is not silent, is off the line, joins at no drive instant but a MARK's, and has
its seconds recorded. -/
theorem State.rests_unmarked (rests : s.ctl.standing = .standby ∨ s.ctl.standing = .faultedDrive ∨
    (s.ctl.standing.surveys = true ∧ s.ctl.silence = false)) : s.ctl.standing ≠ .active ∧ s.joins false = false ∧
    s.recordsSecond = true := by
  obtain stands | stands | ⟨surveys, loud⟩ := rests
  · simp [State.joins, State.recordsSecond, stands, Standing.surveys, Standing.isSurvey]
  · simp [State.joins, State.recordsSecond, stands, Standing.surveys, Standing.isSurvey]
  · exact ⟨Standing.not_active_of_surveys surveys, by simp [State.joins, loud], State.recordsSecond_surveys surveys⟩

/-- A keyer that stays in ACTIVE, or joins on silence, keys the second (R120, R124). -/
theorem State.standingAtDrive_keys (set : s.time.n.isSome = true) (keys : StaysActive s ∨
    (s.ctl.standing.surveys = true ∧ s.time.rangeEnding = false ∧ s.ctl.silence = true)) :
    (s.standingAtDrive false).ctl.standing = .active ∧ (s.standingAtDrive false).key = s.key := by
  obtain stays | ⟨surveys, running, silent⟩ := keys
  · rw [State.standingAtDrive_stays stays]
    exact ⟨stays.active, rfl⟩
  · have joins : s.joins false = true := by simp [State.joins, State.timeSet, surveys, set, running, silent]
    rw [State.standingAtDrive_off (Standing.not_active_of_surveys surveys), if_pos joins]
    exact ⟨rfl, rfl⟩

/-- Only a yield raises an alarm at a drive instant, and it falls due at a MARK (R131). -/
theorem State.standingAtDrive_unmarked_maint (s : State) : (s.standingAtDrive false).maint = s.maint := by
  unfold State.standingAtDrive State.activeExits
  repeat' split
  all_goals simp_all [State.leftActive]

/-! ## The second keyed -/

/-- The second of a frame's index as a drive instant opens it (R107). -/
def secondAt (tick : Int) (f : Frame) (i : Nat) (action : Action) (listen suspended : Bool) : OpenSecond :=
  { t0 := tick, n0 := some f.n0, index := some i, action := action, intended := f.symbols[i]?, listen := listen
    taken := none, readback := none, outcome := none, suspended := suspended }

/-- A second begun on KEY, with what is opened for its record. -/
def State.begun (intended : Option Symbol) (drive : DriveState) (keys mark : Bool) (opened : List OpenSecond) (s : State) : State :=
  { s with
    timer := { s.timer with driveTaken := true }
    key := { s.key with
      intended := intended, t0 := some s.tick, drive := drive, secondKeyed := keys
      keyedMark := if mark then keys else s.key.keyedMark, opens := s.key.opens ++ opened } }

theorem State.keysSecond_symbol (active : s.ctl.standing = .active) (current : s.frames.current = some f)
    (symbol : f.symbols[i]? = some y) : s.keysSecond (some i) = true := by
  simp [State.keysSecond, active, State.symbolAt, current, symbol]

theorem State.keysSecond_off (off : s.ctl.standing ≠ .active) : s.keysSecond index = false := by
  simp [State.keysSecond, off]

/-- An ACTIVE keyer pulls KEY in a second that is not its listen second (R96). -/
theorem State.keySecond_driven (active : s.ctl.standing = .active) (current : s.frames.current = some f)
    (symbol : f.symbols[i]? = some y) (drives : s.key.listenIndex ≠ some i) :
    s.keySecond mark (some i) =
      s.begun f.symbols[i]? .pulling true mark [secondAt s.tick f i .driven false s.testRunning] := by
  have records : s.recordsSecond = true := State.recordsSecond_iff.mpr (by simp [active])
  have listens : s.listensAt (some i) = false := by simpa [State.listensAt] using Ne.symm drives
  simp only [State.keySecond, State.openSecondAt, State.keysSecond_symbol active current symbol, records, listens]
  simp [State.begun, secondAt, State.symbolAt, current]

/-- An ACTIVE keyer withholds the symbol of its listen second and listens (R104). -/
theorem State.keySecond_withheld (active : s.ctl.standing = .active) (current : s.frames.current = some f)
    (symbol : f.symbols[i]? = some y) (listens : s.key.listenIndex = some i) :
    s.keySecond mark (some i) =
      s.begun f.symbols[i]? .listening true mark [secondAt s.tick f i .withheld true s.testRunning] := by
  have records : s.recordsSecond = true := State.recordsSecond_iff.mpr (by simp [active])
  have listens : s.listensAt (some i) = true := by simpa [State.listensAt] using listens.symm
  simp only [State.keySecond, State.openSecondAt, State.keysSecond_symbol active current symbol, records, listens]
  simp [State.begun, secondAt, State.symbolAt, current]

/-- A keyer off the line leaves KEY released and opens the second for its record (R96, R107). -/
theorem State.keySecond_released (off : s.ctl.standing ≠ .active) (records : s.recordsSecond = true)
    (current : s.frames.current = some f) :
    s.keySecond mark (some i) =
      s.begun f.symbols[i]? .released false mark [secondAt s.tick f i .notKeying false s.testRunning] := by
  simp only [State.keySecond, State.openSecondAt, State.keysSecond_off off, records]
  simp [State.begun, secondAt, State.symbolAt, current]

/-- A second without a place has no frame start, no index and no symbol (R107). -/
theorem State.keySecond_placeless (s : State) : s.keySecond mark none = s.begun none .released false mark (if s.recordsSecond
    then [{ t0 := s.tick, n0 := none, index := none, action := .notKeying, intended := none, listen := false, taken := none
            readback := none, outcome := none, suspended := s.testRunning }] else []) := by
  have symbol : s.symbolAt none = none := by
    unfold State.symbolAt
    cases s.frames.current <;> rfl
  have keys : s.keysSecond none = false := by simp [State.keysSecond, symbol]
  have opens : (if s.recordsSecond then s.key.opens ++ [s.openSecondAt none] else s.key.opens) =
      s.key.opens ++ (if s.recordsSecond then [s.openSecondAt none] else []) := by split <;> simp
  rw [State.keySecond, opens]
  simp [State.begun, State.openSecondAt, keys, symbol]

end

end Sys2Proof.Machine

namespace Sys2Proof.Proofs

open Sys2Proof.Machine

/-- Settles O26: the second within a frame, after a swap that comes late, and while UNSET. -/
theorem driveInstantKeysTheSecond : Obligations.DriveInstantKeysTheSecond := by
  refine ⟨?_, ?_, ?_⟩
  · intro now s f i due drives opened keyed
    have here : DrivesIndex f i (s.at now) := ⟨drives.current, drives.index⟩
    obtain ⟨swapped, unmarked, index, current⟩ := here.place
    have turned (still : s.ctl.test.state ≠ .running) (stays : (s.at now).standingAtDrive false = s.at now) :
        exec (.driveInstant now) s = .next ((s.at now).keySecond false (some i)) ∧ (s.at now).testRunning = false := by
      rw [exec_driveInstant due, State.driveEffect_unmarked unmarked still, swapped, index, stays]
      exact ⟨rfl, State.testRunning_false (s := s.at now) still⟩
    constructor
    · intro y stays idle symbol
      obtain ⟨runs, quiet⟩ := turned (by simp [idle])
        (State.standingAtDrive_stays ⟨stays.active, stays.noFault, stays.noWithdraw, stays.running⟩)
      constructor
      · intro drives
        rw [State.keySecond_driven (s := s.at now) stays.active current symbol drives, quiet] at runs
        exact ⟨_, ⟨runs, rfl⟩, rfl⟩
      · intro listens
        rw [State.keySecond_withheld (s := s.at now) stays.active current symbol listens, quiet] at runs
        exact ⟨_, ⟨runs, rfl⟩, rfl⟩
    · intro rests still
      obtain ⟨off, apart, records⟩ := State.rests_unmarked (s := s.at now) rests
      obtain ⟨runs, quiet⟩ := turned still (State.standingAtDrive_rests off apart)
      rw [State.keySecond_released off records current, quiet] at runs
      exact ⟨_, ⟨runs, rfl⟩, rfl⟩
  · intro now s g i due drives still
    have here : DrivesLate g i (s.at now) :=
      ⟨⟨drives.swap.next, drives.swap.fresh, drives.swap.passed⟩, drives.later, drives.index⟩
    obtain ⟨u, swapped⟩ : ∃ u, u = (s.at now).frameSwap := ⟨_, rfl⟩
    have effect := here.driveEffect still
    rw [← swapped] at effect
    rw [here.swap.frameSwap] at swapped
    have now' : u.tick = now.tick := by rw [swapped]; rfl
    have listenIndex : u.key.listenIndex = some (listenIndexOf s.load.slot g.n0) := by rw [swapped]; rfl
    have opens : u.key.opens = s.key.opens := by rw [swapped]; rfl
    have quiet : u.testRunning = false := State.testRunning_false (by rw [swapped]; exact still)
    obtain ⟨v, turned⟩ : ∃ v, v = u.standingAtDrive false := ⟨_, rfl⟩
    rw [← turned] at effect
    have current : v.frames.current = some g := by simp [turned, swapped]
    have tick : v.tick = now.tick := by simp [turned, now']
    have silent : v.testRunning = false := by simpa [turned, State.testRunning] using quiet
    have unkeyed : v.key.keyedMark = false := by
      rw [turned]
      obtain same | left := u.standingAtDrive_key false
      · rw [same, swapped]
      · rw [left]; rfl
    refine ⟨_, exec_driveInstant due, ?_⟩
    rw [effect]
    refine ⟨current, ?_, congrArg some tick, unkeyed, by simp [turned, swapped], ?_, by simp [turned, swapped], ?_, ?_⟩
    · exact (show v.symbolAt (some i) = _ by simp [State.symbolAt, current])
    · exact (show v.maint = _ by rw [turned, State.standingAtDrive_unmarked_maint, swapped]; rfl)
    · intro y symbol keys
      have set : u.time.n.isSome = true := by
        obtain ⟨step, coming⟩ := drives.index
        have counts : s.time.n ≠ none := fun unset => by simp [State.comingCount_none.mpr unset] at coming
        rw [swapped]
        exact Option.isSome_iff_ne_none.mpr counts
      have keys' : StaysActive u ∨ (u.ctl.standing.surveys = true ∧ u.time.rangeEnding = false ∧ u.ctl.silence = true) := by
        rw [swapped]
        exact keys.imp (fun stays => ⟨stays.active, stays.noFault, stays.noWithdraw, stays.running⟩) id
      obtain ⟨active, key⟩ := State.standingAtDrive_keys set keys'
      rw [← turned] at active key
      rw [← key] at listenIndex opens
      constructor
      · simp [active]
      refine ⟨by simp [State.keySecond, State.keysSecond_symbol active current symbol], fun drives => ?_, fun listens => ?_⟩
      · rw [State.keySecond_driven active current symbol (by rw [listenIndex]; exact fun same => drives (Option.some.inj same).symm),
          State.begun, opens, silent, tick]
        exact ⟨rfl, rfl⟩
      · rw [State.keySecond_withheld active current symbol (listenIndex.trans (congrArg some listens.symm)),
          State.begun, opens, silent, tick]
        exact ⟨rfl, rfl⟩
    · intro rests
      obtain ⟨off, apart, records⟩ := State.rests_unmarked (s := u) (by rw [swapped]; exact rests)
      obtain rfl : v = u := turned.trans (State.standingAtDrive_rests off apart)
      rw [State.keySecond_released off records current, quiet, now', State.begun, opens]
      exact ⟨congrArg State.ctl swapped, rfl, rfl⟩
  · intro now s due unset still o opened
    obtain ⟨swapped, unmarked, index⟩ := State.driveIndex_unset (s := s.at now) unset
    have quiet : (s.at now).testRunning = false := State.testRunning_false (s := s.at now) still
    have turned (off : s.ctl.standing ≠ .active) : exec (.driveInstant now) s = .next ((s.at now).keySecond false none) := by
      have apart : (s.at now).joins false = false := by simp [State.joins, State.timeSet, unset]
      rw [exec_driveInstant due, State.driveEffect_unmarked unmarked still, swapped, index,
        State.standingAtDrive_rests (s := s.at now) off apart]
    have second (off : s.ctl.standing ≠ .active) : opened (if (s.at now).recordsSecond then [o] else []) := by
      refine (turned off).trans ?_
      rw [State.keySecond_placeless, quiet]
      rfl
    constructor
    · intro stands
      have rests : (s.at now).ctl.standing ≠ .active ∧ (s.at now).recordsSecond = true := by
        obtain surveys | standby | faulted := stands
        · exact ⟨Standing.not_active_of_surveys surveys, State.recordsSecond_surveys surveys⟩
        · simp [State.recordsSecond, standby]
        · simp [State.recordsSecond, faulted]
      simpa only [rests.2, if_true] using second rests.1
    · intro loading
      have records : (s.at now).recordsSecond = false := by simp [State.recordsSecond, loading]
      have closed := second (by simp [loading])
      rw [records] at closed
      exact closed

end Sys2Proof.Proofs
end

section
/-! PROOFS. The turns of the standing at drive instants: out of ACTIVE by its causes, into it by a join (O27). -/

namespace Sys2Proof.Machine

section
variable {now : Instant} {s : State} {g : Frame} {i : Nat} {mark : Bool} {y : Symbol} {index : Option Nat}

/-- With no self-test a drive instant is the standing's turn and the second (R96, R120). -/
theorem State.driveEffect_untested (idle : s.ctl.test.state = .idle) :
    s.driveEffect = (s.driveSwapped.standingAtDrive s.driveMark).keySecond s.driveMark s.driveIndex := by
  obtain ⟨u, turned⟩ : ∃ u, u = s.driveSwapped.standingAtDrive s.driveMark := ⟨_, rfl⟩
  have idle' : u.ctl.test.state = .idle := by simpa [turned, State.driveSwapped] using idle
  have closed : u.closeTest s.driveMark = u := State.closeTest_still (by simp [idle'])
  have started : u.startTest s.driveMark = u := if_neg (by simp [idle'])
  rw [State.driveEffect_eq, State.driveTurned, ← turned, closed, started, State.loopSecond_silent (by simp [idle'])]

/-- The MARK drive instant of the next frame (R90). -/
theorem DrivesMark.place (drives : DrivesMark g s) : s.driveSwapped = s.frameSwap ∧ s.frameSwap.frames.current = some g ∧
    s.driveMark = true ∧ s.driveIndex = some 0 := by
  have begins : ∃ step, s.comingCount = some (g.n0 + ((0 : Nat) : Int), step) := by simpa using drives.begins
  exact drives.swap.place begins

theorem State.joins_silent (surveys : s.ctl.standing.surveys = true) (set : s.time.n.isSome = true)
    (running : s.time.rangeEnding = false) (silent : s.ctl.silence = true) : s.joins mark = true := by
  simp [State.joins, State.timeSet, surveys, set, running, silent]

theorem State.joins_pending (surveys : s.ctl.standing.surveys = true) (set : s.time.n.isSome = true)
    (running : s.time.rangeEnding = false) (join : s.ctl.pendingJoin = true) : s.joins true = true := by
  simp [State.joins, State.timeSet, surveys, set, running, join]

theorem State.joins_false (apart : s.time.n = none ∨ s.time.rangeEnding = true ∨
    (s.ctl.silence = false ∧ s.ctl.pendingJoin = false)) : s.joins mark = false := by
  obtain unset | ending | ⟨loud, none⟩ := apart
  · simp [State.joins, State.timeSet, unset]
  · simp [State.joins, ending]
  · simp [State.joins, loud, none]

/-- The swap changes nothing that the standing turns by (R120). -/
theorem State.driveSwapped_stand (s : State) : s.driveSwapped.ctl.standing = s.ctl.standing ∧
    s.driveSwapped.ctl.faultReport = s.ctl.faultReport ∧ s.driveSwapped.ctl.pendingWithdraw = s.ctl.pendingWithdraw ∧
    s.driveSwapped.ctl.yieldDue = s.ctl.yieldDue ∧ s.driveSwapped.ctl.pendingJoin = s.ctl.pendingJoin ∧
    s.driveSwapped.ctl.silence = s.ctl.silence ∧ s.driveSwapped.time = s.time ∧ s.driveSwapped.tick = s.tick ∧
    s.driveSwapped.maint = s.maint := by
  simp [State.driveSwapped]

/-! ## Out of ACTIVE -/

theorem State.standingAtDrive_active (active : s.ctl.standing = .active) : s.standingAtDrive mark = s.activeExits mark := if_pos active

theorem State.activeExits_fault (fault : s.ctl.faultReport = true) : s.activeExits mark = (s.enterQuiet .faultedDrive).leftActive :=
  if_pos fault

theorem State.activeExits_withdraw (sound : s.ctl.faultReport = false) (withdraw : s.ctl.pendingWithdraw = true) :
    s.activeExits mark = (s.enterQuiet .standby).leftActive := by
  simp [State.activeExits, sound, withdraw]

theorem State.activeExits_ending (sound : s.ctl.faultReport = false) (held : s.ctl.pendingWithdraw = false)
    (ending : s.time.rangeEnding = true) : s.activeExits mark = s.enterSurvey.leftActive := by
  simp [State.activeExits, sound, held, ending]

/-- At a MARK a yield that is due takes the keyer out, and else a pending re-set (R53, R131). -/
theorem StaysActive.activeExits_mark (stays : StaysActive s) : s.activeExits true = s.ctl.yieldDue.elim
    (if s.time.pendingReset.isSome then s.enterSurvey.leftActive else s) (fun dest => s.yieldExit dest) := by
  simp only [State.activeExits, stays.noFault, stays.noWithdraw, stays.running, Bool.false_eq_true, if_false, if_true]
  cases s.ctl.yieldDue <;> rfl

/-- Off the line a second leaves KEY released (R96). -/
theorem State.keySecond_off (off : s.ctl.standing ≠ .active) :
    (s.keySecond mark index).key.drive = .released ∧ (s.keySecond mark index).key.secondKeyed = false := by
  simp only [State.keySecond, State.keysSecond_off off]
  exact ⟨rfl, trivial⟩

/-- What an exit to a standing leaves once the second is begun (R115, R120). -/
structure State.ExitsTo (st : Standing) (s t : State) : Prop where
  standing : t.ctl.standing = st
  drive : t.key.drive = .released
  unkeyed : t.key.secondKeyed = false
  report : t.ctl.faultReport = false
  withdraw : t.ctl.pendingWithdraw = false
  yield : t.ctl.yieldDue = none
  tallies : t.key.tallies = Tallies.empty
  conflict : t.key.conflictStreak = 0
  timing : t.key.timingStreak = 0
  faults : t.key.faultRun = 0
  time : t.time = s.time

/-- A second begun after an exit, with the alarms the exit leaves (R115, R120, R131). -/
theorem State.leftActive_begins {st : Standing} {m : Maintenance} (u : State) (st_eq : u.ctl.standing = st) (off : st ≠ .active)
    (time : u.time = s.time) :
    State.ExitsTo st s ({ u.leftActive with maint := m }.keySecond mark index) := by
  obtain ⟨released, unkeyed⟩ := State.keySecond_off (s := { u.leftActive with maint := m }) (mark := mark) (index := index)
    (by rw [← st_eq] at off; exact off)
  exact ⟨st_eq, released, unkeyed, rfl, rfl, rfl, rfl, rfl, rfl, rfl, time⟩

end

end Sys2Proof.Machine

namespace Sys2Proof.Proofs

open Sys2Proof.Machine

/-- Settles O27: the exits from ACTIVE in their order, and the joins. -/
theorem standingTurnsAtDriveInstants : Obligations.StandingTurnsAtDriveInstants := by
  refine ⟨?_, ?_⟩
  · intro now s due active idle
    refine ⟨_, exec_driveInstant due, ?_⟩
    intro leaves
    have effect := State.driveEffect_untested (s := s.at now) idle
    obtain ⟨standing, report, withdraw, yield, -, -, time, tick, maint⟩ := (s.at now).driveSwapped_stand
    obtain ⟨u, swapped⟩ : ∃ u, u = (s.at now).driveSwapped := ⟨_, rfl⟩
    rw [← swapped] at effect standing report withdraw yield time tick maint
    rw [State.standingAtDrive_active (standing.trans active)] at effect
    have exits {st : Standing} (v : State) (m : Maintenance) (exit : u.activeExits (s.at now).driveMark = { v.leftActive with maint := m })
        (enters : v.ctl.standing = st) (off : st ≠ .active) (time' : v.time = u.time) :
        leaves st ∧ (s.at now).driveEffect.maint = m ∧ (s.at now).driveEffect.ctl.silenceFrom = v.ctl.silenceFrom := by
      have left := State.leftActive_begins (s := s) (m := m) (mark := (s.at now).driveMark) (index := (s.at now).driveIndex) v
        enters off (time'.trans time)
      rw [← exit, ← effect] at left
      refine ⟨⟨left.standing, left.drive, left.unkeyed, left.report, left.withdraw, left.yield, left.tallies, left.conflict,
        left.timing, left.faults, left.time⟩, ?_, ?_⟩
      · rw [effect, exit]; rfl
      · rw [effect, exit]; rfl
    refine ⟨fun fault => ?_, fun sound withdrawn => ?_, fun sound held ending => ?_, fun g marks stays => ?_⟩
    · obtain ⟨left, kept, -⟩ := exits (u.enterQuiet .faultedDrive) u.maint (State.activeExits_fault (report.trans fault)) rfl nofun rfl
      exact ⟨left, kept.trans maint⟩
    · obtain ⟨left, kept, -⟩ := exits (u.enterQuiet .standby) u.maint
        (State.activeExits_withdraw (report.trans sound) (withdraw.trans withdrawn)) rfl nofun rfl
      exact ⟨left, kept.trans maint⟩
    · obtain ⟨left, kept, silence⟩ := exits u.enterSurvey u.maint
        (State.activeExits_ending (report.trans sound) (withdraw.trans held) (by rw [time]; exact ending)) rfl nofun rfl
      exact ⟨left, kept.trans maint, silence.trans (congrArg some tick)⟩
    · have here : DrivesMark g (s.at now) := ⟨⟨marks.swap.next, marks.swap.fresh, marks.swap.passed⟩, marks.begins⟩
      obtain ⟨-, -, mark, -⟩ := here.place
      have stays' : StaysActive u := ⟨standing.trans active, report.trans stays.noFault, withdraw.trans stays.noWithdraw,
        by rw [time]; exact stays.running⟩
      rw [mark] at exits effect
      have cases := stays'.activeExits_mark
      rw [yield, time] at cases
      refine ⟨fun due => ?_, fun due => ?_, fun none reset => ?_, fun none unheld => ?_⟩
      · obtain ⟨left, kept, silence⟩ := exits u.enterDeferred _ (cases.trans (congrArg (Option.elim · _ _) due)) rfl nofun rfl
        refine ⟨left, ?_, silence.trans (congrArg some tick)⟩
        rw [kept]
        exact (show raiseIn .yielded u.time.n u.maint.alarms = _ by rw [time, maint]; rfl)
      · obtain ⟨left, kept, -⟩ := exits u.enterSurvey _ (cases.trans (congrArg (Option.elim · _ _) due)) rfl nofun rfl
        refine ⟨left, ?_⟩
        rw [kept]
        exact (show raiseIn .yielded u.time.n u.maint.alarms = _ by rw [time, maint]; rfl)
      · obtain ⟨left, kept, -⟩ := exits u.enterSurvey u.maint
          (cases.trans ((congrArg (Option.elim · _ _) none).trans (if_pos reset))) rfl nofun rfl
        exact ⟨left, kept.trans maint⟩
      · have stay := cases.trans ((congrArg (Option.elim · _ _) none).trans (if_neg (by simp [unheld])))
        rw [effect, stay]
        exact ⟨stays'.active, maint⟩
  · intro now s due surveys idle
    refine ⟨_, exec_driveInstant due, ?_⟩
    have effect := State.driveEffect_untested (s := s.at now) idle
    obtain ⟨standing, -, -, -, join, silence, time, -, maint⟩ := (s.at now).driveSwapped_stand
    obtain ⟨u, swapped⟩ : ∃ u, u = (s.at now).driveSwapped := ⟨_, rfl⟩
    rw [← swapped] at effect standing join silence time maint
    have surveys' : u.ctl.standing.surveys = true := by rw [standing]; exact surveys
    rw [effect, State.standingAtDrive_off (Standing.not_active_of_surveys surveys')]
    refine ⟨?_, ?_, ?_⟩
    · split
      · exact maint
      · exact maint
    · split
      · exact time
      · exact time
    intro joined
    refine ⟨fun set running silent => ?_, fun g marks set running joining => ?_, fun apart => ?_⟩
    · have joins := State.joins_silent (mark := (s.at now).driveMark) surveys' (by rw [time]; exact set) (by rw [time]; exact running)
        (silence.trans silent)
      simp only [joined, joins]
      exact ⟨rfl, rfl, rfl, rfl, rfl⟩
    · have here : DrivesMark g (s.at now) := ⟨⟨marks.swap.next, marks.swap.fresh, marks.swap.passed⟩, marks.begins⟩
      obtain ⟨swaps, current, mark, index⟩ := here.place
      rw [← swaps, ← swapped] at current
      have listenIndex : u.key.listenIndex = some (listenIndexOf s.load.slot g.n0) := by
        rw [swapped, swaps, here.swap.frameSwap]
        rfl
      have joins := State.joins_pending surveys' (by rw [time]; exact set) (by rw [time]; exact running) (join.trans joining)
      simp only [joined, mark, joins, index]
      refine ⟨⟨rfl, rfl, rfl, rfl, rfl⟩, fun y first => ?_⟩
      have symbol : g.symbols[0]? = some y := by rw [← List.head?_eq_getElem?]; exact first
      have drives : (u.enterQuiet .active).key.listenIndex ≠ some 0 := by
        refine listenIndex ▸ fun none => ?_
        have := Option.some.inj none
        simp [listenIndexOf] at this
      rw [if_pos trivial, State.keySecond_driven (s := u.enterQuiet .active) rfl current symbol drives]
      exact ⟨rfl, symbol, rfl⟩
    · have apart' : u.joins (s.at now).driveMark = false := State.joins_false (by rw [time, silence, join]; exact apart)
      rw [apart', if_neg (by decide)]
      exact ⟨standing, (State.keySecond_off (Standing.not_active_of_surveys surveys')).1⟩

end Sys2Proof.Proofs
end

section
/-! PROOFS. The self-test: its frame keyed on the loopback, what the loopback's reductions leave, and its end (O34). -/

namespace Sys2Proof.Machine

section
variable {now : Instant} {r s : State} {g : Frame} {i : Nat} {y : Symbol}

/-! ## What the loopback reaches -/

/-- `t` is `s`, in a self-test, but for the decoder's frame and reduction and the frame handed to the test: what the loopback reaches
(R158). -/
def State.Loops (s t : State) : Prop :=
  s.testRunning = true ∧ ∃ d a e h, t = { s with
    line := { s.line with decoder := d, assembly := a, reduction := e }
    ctl := { s.ctl with test := { s.ctl.test with handed := h } } }

namespace State.Loops

theorem refl (running : s.testRunning = true) : s.Loops s := ⟨running, _, _, _, _, rfl⟩

theorem running (h : r.Loops s) : s.testRunning = true := by
  obtain ⟨running, d, a, e, f, rfl⟩ := h
  exact running

/-- A change of the decoder's frame and reduction. -/
theorem line (h : r.Loops s) (d : DecoderState) (a : Option Assembly) (e : Option Reduction) :
    r.Loops { s with line := { s.line with decoder := d, assembly := a, reduction := e } } := by
  obtain ⟨running, _, _, _, _, rfl⟩ := h
  exact ⟨running, _, _, _, _, rfl⟩

theorem breakFrame (h : r.Loops s) (reason : BreakReason) : r.Loops (s.breakFrame reason) := by
  have looped := h.line .hunting none s.line.reduction
  unfold State.breakFrame
  rwa [if_pos looped.running]

theorem setRole (h : r.Loops s) (role : ReductionRole) : r.Loops (s.setRole role) := h.line s.line.decoder s.line.assembly _

theorem startFrame (h : r.Loops s) (fall : Int) : r.Loops (s.startFrame fall) := h.line _ _ s.line.reduction

theorem sampleLine (h : r.Loops s) (fall : Int) : r.Loops (s.sampleLine fall) := by
  rwa [State.sampleLine, if_pos h.running]

theorem closeFrame (h : r.Loops s) (a : Assembly) (falls : List Int) : r.Loops (s.closeFrame a falls) := by
  rw [State.closeFrame, if_pos h.running]
  obtain ⟨running, _, _, _, _, rfl⟩ := h
  exact ⟨running, _, _, _, _, rfl⟩

theorem decodeFall (h : r.Loops s) (fall : Int) : r.Loops (s.decodeFall fall) := by
  unfold State.decodeFall
  split
  next a _ _ =>
    split
    · exact (h.breakFrame _).setRole _
    split
    · exact (h.line s.line.decoder _ s.line.reduction).setRole _
    · exact (h.breakFrame _).setRole _
  · exact h.setRole _
  · exact h.setRole _

theorem settleNow (h : r.Loops s) : r.Loops s.settleNow := by
  unfold State.settleNow
  split
  · split
    · exact (h.sampleLine _).decodeFall _
    · exact h
  · exact h

theorem recogniseMark (h : r.Loops s) : r.Loops s.recogniseMark := by
  have settled := h.settleNow
  unfold State.recogniseMark
  dsimp only
  split
  next red _ =>
    have seen := settled.line s.settleNow.line.decoder s.settleNow.line.assembly (some { red with markSeen := true })
    split
    · exact (seen.startFrame _).closeFrame _ _
    · exact seen.startFrame _
    · exact seen
  · exact settled

theorem markNow (h : r.Loops s) : r.Loops s.markNow := by
  unfold State.markNow
  split
  · split
    · exact h
    · exact h.recogniseMark
  · exact h

theorem overlongNow (h : r.Loops s) : r.Loops s.overlongNow := by
  have marked := h.markNow
  unfold State.overlongNow
  dsimp only
  split
  next red _ =>
    have seen := marked.line s.markNow.line.decoder s.markNow.line.assembly (some { red with overSeen := true })
    split
    · exact marked
    split
    · split
      · exact seen.breakFrame _
      · exact seen
    · exact seen
  · exact marked

theorem settleGlitch (h : r.Loops s) : r.Loops s.settleGlitch := by
  unfold State.settleGlitch
  split
  · split
    · exact h.breakFrame _
    · exact h
  · exact h

theorem takeSymbol (h : r.Loops s) (y : Symbol) : r.Loops (s.takeSymbol y) := by
  unfold State.takeSymbol
  split
  · split
    · exact h.breakFrame _
    · exact h.line s.line.decoder _ s.line.reduction
  · exact h

theorem riseTaken (h : r.Loops s) (y : Symbol) : r.Loops (s.riseTaken y) := by
  unfold State.riseTaken
  split
  · split
    · exact h.takeSymbol y
    · exact h
  · exact h

/-- A rise in the loopback ends the reduction and reaches nothing but the test's own frame (R139, R158). -/
theorem decoderRise (h : r.Loops s) (rise : Int) : r.Loops (s.decoderRise rise) ∧ (s.decoderRise rise).line.reduction = none := by
  have dropped {t : State} (looped : r.Loops t) : r.Loops { t with line := { t.line with reduction := none } } :=
    looped.line t.line.decoder t.line.assembly none
  unfold State.decoderRise
  split
  · refine ⟨dropped ?_, rfl⟩
    split
    · exact h.settleGlitch
    · exact h.settleNow.riseTaken _
    · exact h.settleNow.riseTaken _
    · exact h.markNow
    · exact h.overlongNow
  next none => exact ⟨h, none⟩

end State.Loops

/-- The loopback's release (R139). -/
theorem exec_loopRelease {t0 : Int} (up : s.timer.monitor = .up) (running : s.ctl.test.state = .running)
    (low : s.ctl.test.loopLow = true) (began : s.key.t0 = some t0) (intended : s.key.intended = some y)
    (due : t0 + y.ticks = now.tick) : exec (.reductionRelease now) s = .next (s.at now).loopRelease := by
  have tests : s.testRunning = true := beq_iff_eq.mpr running
  have reducing : s.reducing = true := by simp [State.reducing, tests, low]
  have ends : s.releaseDue now.tick = true := by simp [State.releaseDue, began, intended, due]
  have answered : exec (.reductionRelease now) s = .next (s.at now).releaseNow :=
    exec_due (c := .reductionRelease now) (by simp [Instr.due, up, reducing, ends])
  exact answered.trans (congrArg _ (if_pos tests))

/-- The decision point of a second that was not keyed in a self-test whose closing MARK it is (R140). -/
theorem DecisionDue.exec_test {pre post : List OpenSecond} {o : OpenSecond} (due : DecisionDue now pre o post s)
    (running : s.ctl.test.state = .running) (unkeyed : o.action = .notKeying) (closes : s.ctl.test.closeDrive = some o.t0) :
    Machine.exec (.decisionPoint now) s = .next ((s.at now).endTest (if (s.at now).testPasses then .pass else .fail)) := by
  have found : s.key.openAt (now.tick - Config.decisionAt) = some o := by
    have at0 : now.tick - Config.decisionAt = o.t0 := by simp only [Config.decisionAt]; have := due.tick; omega
    rw [at0, due.opened.openAt]
  have answered : Machine.exec (.decisionPoint now) s = .next (s.at now).decisionEffect :=
    exec_due (c := .decisionPoint now) (by simp [Instr.due, due.up, found, due.open_])
  have reached : (s.at now).key.openAt ((s.at now).tick - Config.decisionAt) = some o := found
  have none : decidedOutcome (s.at now).key (s.at now).epochTol o = Option.none := by simp [decidedOutcome, unkeyed]
  rw [answered]
  simp only [State.decisionEffect, reached, none]
  exact congrArg _ (if_pos ⟨beq_iff_eq.mpr running, closes⟩)

theorem State.endTest_running (running : s.testRunning = true) (result : TestResult) : s.endTest result = { s with
    ctl := { s.ctl with test := { s.ctl.test with
      state := .idle, result := result, reference := none, markDrive := none, closeDrive := none, handed := none, loopLow := false } }
    key := { s.key with level := none, levelFrom := some s.tick, run := none }
    line := { s.line with decoder := .idle, assembly := none, reduction := none } } := if_pos running

/-- R140: the test passes on the frame handed over when it is the reference within EPOCH_TOL. -/
theorem State.testPasses_handed {h : LoopFrame} {m : Int} (handed : s.ctl.test.handed = some h) (reference : s.ctl.test.reference = some g)
    (mark : s.ctl.test.markDrive = some m) : s.testPasses = true ↔ h.n0 = g.n0 ∧ h.symbols = g.symbols ∧
      m - 10 * (s.load.params.site.epochTol : Int) ≤ h.markFall ∧ h.markFall ≤ m + 10 * (s.load.params.site.epochTol : Int) := by
  simp only [State.testPasses, handed, reference, mark, Bool.and_eq_true, beq_iff_eq, and_assoc]
  refine and_congr_right fun _ => and_congr_right fun _ => ?_
  have tol : s.epochTol = 10 * (s.load.params.site.epochTol : Int) := rfl
  rw [decide_eq_true_iff]
  omega

theorem State.testPasses_none (handed : s.ctl.test.handed = none) : s.testPasses = false := by
  simp [State.testPasses, handed]

/-! ## The loopback at a drive instant -/

/-- The loopback pulled low (R139): the filter sees a fall, and a decoder that is not IDLE begins a reduction. -/
theorem State.loopPull_eq (s : State) : s.loopPull = { s with
    ctl := { s.ctl with test := { s.ctl.test with loopLow := true } }
    key := { s.key with level := some .low }
    line := if s.line.decoder = .idle then s.line else { s.line with
      reduction := some { fall := s.tick, role := .unsettled, markSeen := false, overSeen := false } } } := by
  rw [State.loopPull, State.decoderFall_eq]

theorem State.loopSecond_pulls (keyed : s.loopKeyed = true) (intended : s.key.intended = some y) : s.loopSecond = s.loopPull :=
  if_pos ⟨keyed, by simp [intended]⟩

theorem State.loopSecond_rests (keyed : s.loopKeyed = false) : s.loopSecond = s := if_neg (by simp [keyed])

/-- A keyer in STANDBY keeps it at a drive instant. -/
theorem State.standingAtDrive_standby {mark : Bool} (standby : s.ctl.standing = .standby) : s.standingAtDrive mark = s :=
  State.standingAtDrive_rests (by simp [standby]) (by simp [State.joins, standby, Standing.surveys, Standing.isSurvey])

/-- A drive instant in STANDBY: the self-test's start or closing MARK, and the second (R138, R139). -/
theorem State.driveEffect_standby (standby : s.ctl.standing = .standby) : s.driveEffect =
    (((s.driveSwapped.closeTest s.driveMark).startTest s.driveMark).keySecond s.driveMark s.driveIndex).loopSecond := by
  have standby' : s.driveSwapped.ctl.standing = .standby := by simpa [State.driveSwapped] using standby
  rw [State.driveEffect_eq, State.driveTurned, State.standingAtDrive_standby standby']

theorem State.startTest_waits (waiting : s.ctl.test.state = .waiting) (standby : s.ctl.standing = .standby) :
    s.startTest true = { s with
      ctl := { s.ctl with test := { s.ctl.test with
        state := .running, reference := s.frames.current, markDrive := some s.tick, closeDrive := none, handed := none
        loopLow := false } }
      key := { s.key with level := some .high }
      line := { s.line with decoder := .hunting, assembly := none, reduction := none, notice := none } } :=
  if_pos ⟨rfl, waiting, standby⟩

theorem State.closeTest_runs (running : s.ctl.test.state = .running) :
    s.closeTest true = { s with ctl := { s.ctl with test := { s.ctl.test with closeDrive := some s.tick } } } :=
  if_pos ⟨rfl, beq_iff_eq.mpr running⟩

/-- A second in STANDBY, where KEY stays released (R96, R135). -/
theorem State.keySecond_standby {f : Frame} {mark : Bool} (standby : s.ctl.standing = .standby) (current : s.frames.current = some f) :
    s.keySecond mark (some i) = s.begun f.symbols[i]? .released false mark [secondAt s.tick f i .notKeying false s.testRunning] :=
  State.keySecond_released (by simp [standby]) (by simp [State.recordsSecond, standby]) current

end

end Sys2Proof.Machine

namespace Sys2Proof.Proofs

open Sys2Proof.Machine

/-- Settles O34: the start, the frame's seconds, the closing MARK, the loopback's release and the end of a self-test. -/
theorem selfTestRunsOneFrame : Obligations.SelfTestRunsOneFrame := by
  refine ⟨?_, ?_, ?_, ?_, ?_⟩
  · intro now s g due marks standby waiting first
    have here : DrivesMark g (s.at now) := ⟨⟨marks.swap.next, marks.swap.fresh, marks.swap.passed⟩, marks.begins⟩
    obtain ⟨swaps, current, mark, index⟩ := here.place
    have effect := State.driveEffect_standby (s := s.at now) standby
    rw [swaps, mark, index] at effect
    obtain ⟨u, swapped⟩ : ∃ u, u = (s.at now).frameSwap := ⟨_, rfl⟩
    rw [← swapped] at effect current
    have standby' : u.ctl.standing = .standby := by rw [swapped]; simpa using standby
    have waiting' : u.ctl.test.state = .waiting := by rw [swapped]; simpa using waiting
    have symbol : g.symbols[0]? = some .mark := by rw [← List.head?_eq_getElem?]; exact first
    have tick : u.tick = now.tick := by rw [swapped, (State.frameSwap_frame _).1]; rfl
    have maint : u.maint = s.maint := by rw [swapped]; simp
    have time : u.time = s.time := by rw [swapped]; simp
    have started := State.startTest_waits waiting' standby'
    have second := State.keySecond_standby (s := u.startTest true) (i := 0) (mark := true) (by rw [started]; exact standby')
      (by rw [started]; exact current)
    rw [State.closeTest_still (by simp [waiting']), second, symbol, started] at effect
    rw [State.loopSecond_pulls (y := .mark) rfl rfl, State.loopPull_eq] at effect
    refine ⟨_, exec_driveInstant due, ?_⟩
    rw [effect]
    exact ⟨standby', rfl, current, congrArg some tick, rfl, rfl, rfl, rfl, rfl, rfl, rfl, rfl, rfl,
      by rw [← tick]; rfl, maint, time⟩
  · intro now s f i y due drives standby running symbol opened
    have here : DrivesIndex f i (s.at now) := ⟨drives.current, drives.index⟩
    obtain ⟨swapped, unmarked, index, current⟩ := here.place
    have running' : (s.at now).testRunning = true := beq_iff_eq.mpr running
    have effect := State.driveEffect_standby (s := s.at now) standby
    rw [swapped, unmarked, index, State.closeTest_unmarked, State.startTest_unmarked,
      State.keySecond_standby (s := s.at now) standby current, running', secondAt, symbol] at effect
    rw [exec_driveInstant due, effect]
    constructor
    · intro keyed
      rw [State.loopSecond_pulls (y := y)
          (by simp [State.begun, State.loopKeyed, State.testFrameKeyed, State.testRunning, running, keyed]) rfl,
        State.loopPull_eq]
      rfl
    · intro m closed past
      rw [State.loopSecond_rests
        (by simpa [State.begun, State.loopKeyed, State.testFrameKeyed, State.testRunning, running, closed] using past)]
      rfl
  · intro now s g due marks standby running first
    have here : DrivesMark g (s.at now) := ⟨⟨marks.swap.next, marks.swap.fresh, marks.swap.passed⟩, marks.begins⟩
    obtain ⟨swaps, current, mark, index⟩ := here.place
    have effect := State.driveEffect_standby (s := s.at now) standby
    rw [swaps, mark, index] at effect
    obtain ⟨u, swapped⟩ : ∃ u, u = (s.at now).frameSwap := ⟨_, rfl⟩
    rw [← swapped] at effect current
    have standby' : u.ctl.standing = .standby := by rw [swapped]; simpa using standby
    have test : u.ctl.test = s.ctl.test := by rw [swapped]; simp
    have symbol : g.symbols[0]? = some .mark := by rw [← List.head?_eq_getElem?]; exact first
    have tick : u.tick = now.tick := by rw [swapped, (State.frameSwap_frame _).1]; rfl
    have line : u.line = s.line := by rw [swapped]; simp
    have maint : u.maint = s.maint := by rw [swapped]; simp
    have time : u.time = s.time := by rw [swapped]; simp
    have closed := State.closeTest_runs (s := u) (by rw [test]; exact running)
    have started : (u.closeTest true).startTest true = u.closeTest true := if_neg (by simp [test, running])
    have second := State.keySecond_standby (s := u.closeTest true) (i := 0) (mark := true) (by rw [closed]; exact standby')
      (by rw [closed]; exact current)
    rw [started, second, symbol, closed, test] at effect
    rw [State.loopSecond_pulls (y := .mark) (by simp [State.begun, State.loopKeyed, State.testRunning, running]) rfl,
      State.loopPull_eq] at effect
    refine ⟨_, exec_driveInstant due, ?_⟩
    rw [effect]
    refine ⟨standby', ?_, rfl, rfl, rfl, rfl, ?_, maint, time⟩
    · rw [← tick]; rfl
    · rw [← line, ← tick]; rfl
  · intro now s t0 d y up running low began intended short long mark due
    have length : d = y.ticks := by
      cases y
      · exact short rfl
      · exact long rfl
      · exact mark rfl
    refine ⟨_, exec_loopRelease up running low began intended (length ▸ due), ?_⟩
    have begins : ({ s.at now with
        ctl := { s.ctl with test := { s.ctl.test with loopLow := false } }, key := { s.key with level := some .high } } : State).Loops _ :=
      State.Loops.refl (beq_iff_eq.mpr running)
    obtain ⟨⟨-, decoder, assembly, reduction, handed, looped⟩, ended⟩ := begins.decoderRise now.tick
    have same : (s.at now).loopRelease = _ := looped
    rw [show (s.at now).loopRelease.line.reduction = none from ended, same]
    exact ⟨rfl, rfl, running, rfl, rfl, rfl, rfl, rfl, rfl, rfl, rfl, rfl, rfl, rfl, rfl⟩
  · intro now s pre post o m g due running unkeyed closes mark reference
    refine ⟨_, due.exec_test running unkeyed closes, ?_⟩
    rw [State.endTest_running (s := s.at now) (beq_iff_eq.mpr running)]
    refine ⟨rfl, rfl, rfl, rfl, rfl, rfl, rfl, ?_⟩
    intro tol
    refine ⟨fun h handed n0 symbols early late => ?_, fun h handed differs => ?_, fun none => ?_⟩
    · exact if_pos ((State.testPasses_handed (s := s.at now) handed reference mark).mpr ⟨n0, symbols, early, late⟩)
    · refine if_neg fun passes => ?_
      obtain ⟨n0, symbols, early, late⟩ := (State.testPasses_handed (s := s.at now) handed reference mark).mp passes
      obtain differs | differs | differs | differs := differs
      · exact differs n0
      · exact differs symbols
      · exact absurd early (not_le.mpr differs)
      · exact absurd late (not_le.mpr differs)
    · exact if_neg (by rw [State.testPasses_none (s := s.at now) none]; decide)

end Sys2Proof.Proofs
end

section
/-! PROOFS. The maintenance port: its selections, its code tables and its two wires (O52). -/

namespace Sys2Proof.Machine

section
variable {now : Instant} {s : State} {c : Instr} {item : List Byte}

/-! ## Selections -/

/-- An item selected is read to its end, and reads 0 past it (R173). -/
theorem selects_of (answer : exec c s = .next ((s.at now).select item)) :
    exec c s = .next { s with tick := now.tick, clk := now.clk, maint := { s.maint with snapshot := item } } ∧
      ∀ t i, exec c s = .next t → item.length ≤ i → t.readByte i = 0#8 := by
  refine ⟨answer, fun t i is past => ?_⟩
  obtain rfl := Host.Outcome.next.inj (answer.symm.trans is)
  exact List.getD_eq_default _ _ past

@[simp] theorem State.statusItem_length (s : State) : s.statusItem.length = 32 := by simp [State.statusItem]

@[simp] theorem scheduleItem_length (entries : List Entry) : (scheduleItem entries).length = 64 := by simp [scheduleItem]

@[simp] theorem observationsItem_length (ring : List ObsRecord) (page : Nat) : (observationsItem ring page).length = 96 := by
  simp [observationsItem]

@[simp] theorem currentFrameItem_length (current : Option Frame) : (currentFrameItem current).length = 16 := by simp [currentFrameItem]

@[simp] theorem lineFrameItem_length (last : Option LineFrame) : (lineFrameItem last).length = 20 := by
  unfold lineFrameItem
  split
  · exact List.length_replicate
  · exact packBytes_length _ _

@[simp] theorem alarmSlot_length (alarms : List AlarmEntry) (k : AlarmKind) : (alarmSlot alarms k).length = 4 := by
  unfold alarmSlot
  split
  · exact packBytes_length _ _
  · exact List.length_replicate

@[simp] theorem alarmsItem_length (alarms : List AlarmEntry) : (alarmsItem alarms).length = 44 := by
  simp [alarmsItem, AlarmKind.all]

theorem exec_observations (done : s.load.phase = .done) (page : Option Byte) :
    exec (.observations now page) s = .next ((s.at now).observationsEffect page) :=
  exec_due (c := .observations now page) (by simp [Instr.due, State.loaded, done])

theorem exec_unknownCode {code : Byte} (done : s.load.phase = .done) (unknown : unknownCodeOk code = true) :
    exec (.unknownCode now code) s = .next ((s.at now).unknownEffect code) :=
  exec_due (c := .unknownCode now code) (by simp [Instr.due, State.loaded, done, unknown])

/-! ## Codes -/

theorem unknownCodeOk_iff (code : Byte) :
    unknownCodeOk code = true ↔ code.toNat ∉ [0x01, 0x02, 0x03, 0x05, 0x06, 0x07, 0x81, 0x82, 0x83, 0x84] := by
  simp [unknownCodeOk, itemCodes, commandCodes]
  omega

theorem writeCommand_unknown (rest : List Byte) {code : Byte} (page : code.toNat ≠ 0x04) (unknown : unknownCodeOk code = true) :
    writeCommand now (code :: rest) = some (.unknownCode now code) := by
  have outside := (unknownCodeOk_iff code).mp unknown
  simp only [List.mem_cons, not_or] at outside
  unfold writeCommand
  split <;> simp_all

/-- Two data bytes spell a command (R172). -/
theorem writeCommand_take (data : List Byte) : writeCommand now (data.take 2) = writeCommand now data := by
  rcases data with _ | ⟨code, _ | ⟨page, rest⟩⟩
  · rfl
  · rfl
  · rfl

theorem exec_unloaded {data : List Byte} (loading : s.load.phase ≠ .done) (spells : writeCommand now data = some c) :
    exec c s = .next s := by
  have unloaded : s.loaded = false := by simpa [State.loaded] using loading
  refine exec_idle ?_
  rcases data with _ | ⟨code, rest⟩
  · exact absurd spells nofun
  obtain rfl := Option.some.inj spells
  split
  case h_4 => split <;> simp [Instr.due, unloaded]
  all_goals simp [Instr.due, unloaded]

end

end Sys2Proof.Machine

end

section
/-! PROOFS. The two wires of the maintenance port, byte by byte (O52). -/

namespace Sys2Proof.Machine

section
variable {now : Instant} {s : State} {p : PortLine} {b : Byte} {d data : List Byte} {levels : List Level}

/-! ## Bits -/

/-- A number's bits by its last one. -/
theorem bitsOf_concat (n v : Nat) : bitsOf (n + 1) v = bitsOf n (v / 2) ++ [v.testBit 0] := by
  unfold bitsOf
  rw [List.range_succ, List.map_append]
  refine congrArg₂ _ (List.map_congr_left fun i within => ?_) (by simp)
  have below : i < n := List.mem_range.mp within
  rw [show n + 1 - 1 - i = n - 1 - i + 1 by omega, Nat.testBit_succ]

/-- The levels of MNT_SDA at the eight clocks of a byte (R172). -/
def levelsOf (b : Byte) : List Level := (List.range 8).map (fun i => if b.getLsbD (7 - i) then .high else .low)

theorem levelsOf_bits (b : Byte) : (levelsOf b).map (· == .high) = bitsOf 8 b.toNat := by
  rw [bitsOf_byte, levelsOf, List.map_map]
  refine List.map_congr_left fun i _ => ?_
  dsimp only [Function.comp_apply]
  cases b.getLsbD (7 - i) <;> rfl

theorem levelsOf_length (b : Byte) : (levelsOf b).length = 8 := by simp [levelsOf]

/-! ## Clocks -/

/-- The bus events one after the other. -/
def State.onBusRun (now : Instant) (events : List BusEvent) (s : State) : State := events.foldl (fun s e => s.onBus now e) s

theorem State.onBusRun_append (events more : List BusEvent) (s : State) :
    s.onBusRun now (events ++ more) = (s.onBusRun now events).onBusRun now more := List.foldl_append

theorem State.setPort_self (s : State) (port : s.maint.port = p) : s.setPort p = s := by
  subst port
  rfl

/-- A phase in which the port shifts the bits of a byte in or out (R172). -/
def PortPhase.Shifts (phase : PortPhase) : Prop := phase = .address ∨ phase = .receive ∨ ∃ i, phase = .send i

/-- Before the eighth clock of a byte the port takes its bit and nothing else (R172). -/
theorem State.onBus_shifts (shifts : p.phase.Shifts) (room : p.bits.length < 7) (l : Level) (s : State) :
    (s.setPort p).onBus now (.clock l) = s.setPort { p with bits := p.bits ++ [l == .high] } := by
  have within : (p.bits.length + 1 == 8) = false := by simp; omega
  unfold State.onBus State.portClocked
  obtain ⟨phase, bits, data⟩ := p
  obtain rfl | rfl | ⟨i, rfl⟩ := shifts
  all_goals simp_all

theorem State.onBusRun_shifts (shifts : p.phase.Shifts) (room : p.bits.length + levels.length < 8) (s : State) :
    (s.setPort p).onBusRun now (levels.map .clock) = s.setPort { p with bits := p.bits ++ levels.map (· == .high) } := by
  induction levels generalizing p with
  | nil => simp [State.onBusRun]
  | cons l rest ih =>
    rw [List.length_cons] at room
    have next : (s.setPort { p with bits := p.bits ++ [l == .high] }).onBusRun now (rest.map .clock) = _ :=
      ih (p := { p with bits := p.bits ++ [l == .high] }) shifts (by simp; omega)
    have first := State.onBus_shifts (now := now) shifts (by omega) l s
    rw [State.onBusRun, List.map_cons, List.foldl_cons, first]
    simpa [State.onBusRun] using next

/-- The eighth clock of a byte (R172). -/
theorem State.onBusRun_byte (shifts : p.phase.Shifts) (empty : p.bits = []) (full : levels.length = 8) (s : State) :
    ∃ init last, levels.map (· == .high) = init ++ [last == Level.high] ∧ init.length = 7 ∧
      (s.setPort p).onBusRun now (levels.map .clock) = (s.setPort { p with bits := init }).onBus now (.clock last) := by
  obtain ⟨init, last, rfl⟩ : ∃ init last, levels = init ++ [last] :=
    ⟨_, _, (List.dropLast_append_getLast (by rintro rfl; simp at full)).symm⟩
  have seven : init.length = 7 := by simpa using full
  refine ⟨init.map (· == .high), last, by simp, by simp [seven], ?_⟩
  rw [List.map_append, State.onBusRun_append, State.onBusRun_shifts shifts (by simp [empty, seven]), empty]
  rfl

/-- A byte addressed to the port, or to another (R172). -/
theorem State.onBusRun_address (s : State) (b : Byte) :
    (s.setPort { phase := .address, bits := [], data := [] }).onBusRun now ((levelsOf b).map .clock) =
      s.setPort (if s.acknowledges (b.toNat / 2) then { phase := .ackAddress (b.getLsbD 0), bits := [], data := [] }
        else PortLine.idle) := by
  obtain ⟨init, last, spelled, seven, run⟩ := State.onBusRun_byte (now := now) (p := { phase := .address, bits := [], data := [] })
    (.inl rfl) rfl (levelsOf_length b) s
  rw [levelsOf_bits, bitsOf_concat] at spelled
  obtain ⟨rfl, lastBit⟩ := List.append_inj spelled (by simp [seven, bitsOf])
  have small : b.toNat / 2 < 2 ^ 7 := by have := b.isLt; omega
  have low : (last == Level.high) = b.getLsbD 0 := (List.singleton_inj.mp lastBit).symm
  rw [run, State.onBus, State.portClocked]
  simp [State.portAddressed, seven, low, ofBits_bitsOf_small small, State.acknowledges, State.portAddress, State.loaded]

/-- A start and an address byte (R172). -/
theorem State.onBusRun_start (s : State) (b : Byte) : s.onBusRun now (.start :: (levelsOf b).map .clock) =
    (s.endTransaction now).setPort
      (if s.acknowledges (b.toNat / 2) then { phase := .ackAddress (b.getLsbD 0), bits := [], data := [] } else PortLine.idle) := by
  have same : (s.endTransaction now).acknowledges (b.toNat / 2) = s.acknowledges (b.toNat / 2) := by
    rw [State.endTransaction_eq]
    rfl
  have first : s.onBusRun now (.start :: (levelsOf b).map .clock) = (s.onBus now .start).onBusRun now ((levelsOf b).map .clock) :=
    List.foldl_cons
  rw [first, State.onBus, State.onBusRun_address, same]

/-- A data byte of a write, of which the first two are kept (R172). -/
theorem State.onBusRun_receive (s : State) (b : Byte) (d : List Byte) :
    (s.setPort { phase := .receive, bits := [], data := d }).onBusRun now ((levelsOf b).map .clock) =
      s.setPort { phase := .ackData, bits := [], data := (d ++ [b]).take 2 } := by
  obtain ⟨init, last, spelled, seven, run⟩ := State.onBusRun_byte (now := now) (p := { phase := .receive, bits := [], data := d })
    (.inr (.inl rfl)) rfl (levelsOf_length b) s
  rw [levelsOf_bits] at spelled
  have byte : BitVec.ofNat 8 (ofBits (init ++ [last == Level.high])) = b := by
    rw [← spelled, ofBits_bitsOf_small b.isLt, BitVec.ofNat_toNat]
    rfl
  rw [run, State.onBus, State.portClocked]
  simp [seven, byte]

/-- The data bytes of a write with their acknowledgements (R172). -/
theorem State.onBusRun_write (s : State) (few : d.length ≤ 2) :
    (s.setPort { phase := .receive, bits := [], data := d }).onBusRun now
      (data.flatMap (fun b => (levelsOf b).map .clock ++ [.clock .low])) =
        s.setPort { phase := .receive, bits := [], data := (d ++ data).take 2 } := by
  induction data generalizing d with
  | nil => rw [List.append_nil, List.take_of_length_le few]; rfl
  | cons b rest ih =>
    have kept : ((d ++ [b]).take 2 ++ rest).take 2 = (d ++ b :: rest).take 2 := by
      rcases d with _ | ⟨x, _ | ⟨y, d⟩⟩
      · rfl
      · rfl
      · rfl
    have acknowledged : (s.setPort { phase := .ackData, bits := [], data := (d ++ [b]).take 2 }).onBusRun now [.clock .low] =
        s.setPort { phase := .receive, bits := [], data := (d ++ [b]).take 2 } := rfl
    rw [List.flatMap_cons, State.onBusRun_append, State.onBusRun_append, State.onBusRun_receive, acknowledged,
      ih (List.length_take_le _ _), kept]

/-- A write acted on at its end goes to the end of the waiting commands (R172). -/
theorem State.endTransaction_write (s : State) (data : List Byte) :
    (s.setPort { phase := .receive, bits := [], data := data.take 2 }).endTransaction now =
      ({ s with pending := s.pending ++ (writeCommand now data).toList } : State).setPort
        { phase := .receive, bits := [], data := data.take 2 } := by
  rw [State.endTransaction_eq, State.setPort_port, writeCommand_take]
  rfl

/-- The bit of a byte the port sends for its next clock, most significant first (R172). -/
theorem State.pullsSda_sends {i k : Nat} (s : State) (within : levels.length = k) (small : k < 8) :
    (s.setPort { phase := .send i, bits := levels.map (· == .high), data := [] }).pullsSda = !(s.readByte i).getLsbD (7 - k) := by
  have bit : (bitsOf 8 (s.readByte i).toNat).getD k true = (s.readByte i).getLsbD (7 - k) := by
    rw [bitsOf_byte]
    simp [List.getD_eq_getElem?_getD, small]
  rw [← bit, ← within]
  simp [State.pullsSda, State.readByte]

/-- The eight clocks of a byte of a read (R172). -/
theorem State.onBusRun_send (s : State) (i : Nat) (full : levels.length = 8) :
    (s.setPort { phase := .send i, bits := [], data := [] }).onBusRun now (levels.map .clock) =
      s.setPort { phase := .masterAck i, bits := [], data := [] } := by
  obtain ⟨init, last, -, seven, run⟩ := State.onBusRun_byte (now := now) (p := { phase := .send i, bits := [], data := [] })
    (.inr (.inr ⟨i, rfl⟩)) rfl full s
  rw [run, State.onBus, State.portClocked]
  simp [seven]

/-- A port not addressed does nothing (R172). -/
theorem State.onBusRun_idle (s : State) (idle : s.maint.port = PortLine.idle) (levels : List Level) :
    s.onBusRun now (levels.map .clock) = s := by
  induction levels with
  | nil => rfl
  | cons l rest ih =>
    have still : s.onBus now (.clock l) = s := by
      rw [State.onBus, State.portClocked, idle]
      exact s.setPort_self idle
    rw [List.map_cons, State.onBusRun, List.foldl_cons, still]
    exact ih

theorem State.acknowledges_iff (s : State) (address : Nat) :
    s.acknowledges address = true ↔ s.load.phase = .done ∧ address = 0x4C + s.load.slot := by
  simp [State.acknowledges, State.loaded, State.portAddress]

end

end Sys2Proof.Machine

namespace Sys2Proof.Proofs

open Sys2Proof.Machine

/-- Settles O52: the selections, the codes, the wires, and the address the port acknowledges. -/
theorem portCommandsTouchOnlyTheSnapshot : Obligations.PortCommandsTouchOnlyTheSnapshot := by
  refine ⟨?_, ?_, ?_, unknownCodeOk_iff, fun now code rest => writeCommand_unknown rest, ?_, fun _ => rfl, ?_, ?_,
    State.acknowledges_iff, fun now s data c => exec_unloaded⟩
  · intro now s done selects
    have selected {c : Instr} {size : Nat} (item : List Byte) (length : item.length = size)
        (answer : exec c s = .next ((s.at now).select item)) : selects c size :=
      ⟨item, length, length ▸ selects_of answer⟩
    have loaded : s.loaded = true := by simp [State.loaded, done]
    have page (p : Option Byte) (known : (p.getD 0#8).toNat ≤ 7) : selects (.observations now p) 96 :=
      selected _ (observationsItem_length _ _) ((exec_observations done p).trans (congrArg _ (if_pos known)))
    refine ⟨selected _ (s.at now).statusItem_length (exec_due (c := .status now) loaded),
      fun _ => selected _ (scheduleItem_length _) (exec_due (c := .schedule now) loaded),
      fun p known => page (some p) known, ?_, page none (by decide),
      selected _ (currentFrameItem_length _) (exec_due (c := .currentFrame now) loaded),
      selected _ (lineFrameItem_length _) (exec_due (c := .lineFrame now) loaded),
      selected _ (alarmsItem_length _) (exec_due (c := .alarms now) loaded)⟩
    rw [exec_observations done, exec_observations done]
    rfl
  · intro now code s done unknown
    exact exec_unknownCode done unknown
  · intro now page s done beyond
    rw [exec_observations done, exec_unknownCode done (by decide)]
    exact congrArg _ (if_neg (not_le.mpr beyond))
  · intro now rest more same code
    rw [writeCommand, writeCommand, same]
  · intro now rest
    exact ⟨rfl, rfl, rfl, rfl, fun page => ⟨fun known => congrArg some (if_pos (by simpa using known)),
      fun beyond => congrArg some (if_neg (by simpa using beyond))⟩, rfl, rfl, rfl, rfl, rfl, rfl, rfl⟩
  · intro run clocks ownByte
    have ran (now : Instant) (events : List BusEvent) (s : State) : run now events s = s.onBusRun now events := rfl
    have clocked (b : Byte) : clocks b = (levelsOf b).map .clock := List.map_map.symm
    refine ⟨?_, ?_, ?_, ?_⟩
    · intro now s b addressed
      have byte : addressed = (s.endTransaction now).setPort (if s.acknowledges (b.toNat / 2)
          then { phase := .ackAddress (b.getLsbD 0), bits := [], data := [] } else PortLine.idle) := by
        show run now (.start :: clocks b) s = _
        rw [ran, clocked, State.onBusRun_start]
      rw [byte]
      refine ⟨fun own => ?_, fun other => ?_⟩
      · rw [if_pos ((s.acknowledges_iff _).mpr own)]
        refine ⟨rfl, fun l => ⟨fun write => ?_, fun read => ?_⟩⟩
        · rw [write]
          rfl
        · rw [read]
          rfl
      · rw [if_neg (mt (s.acknowledges_iff _).mp other)]
        exact ⟨rfl, rfl⟩
    · intro now s data begun received acted
      have taken : received = s.setPort { phase := .receive, bits := [], data := data.take 2 } := by
        have write := s.onBusRun_write (now := now) (d := []) (data := data) (by decide)
        rw [s.setPort_self begun] at write
        show run now (data.flatMap (fun b => clocks b ++ [.clock .low])) s = _
        rw [ran]
        simpa only [clocked, List.nil_append] using write
      rw [taken]
      refine ⟨fun b => ?_, ?_, ?_⟩
      · rw [ran, clocked, State.onBusRun_receive]
        rfl
      · rw [State.onBus, State.endTransaction_write]
        rfl
      · rw [State.onBus, State.endTransaction_write]
        rfl
    · intro now s i levels sending t
      have sent : t = (s.setPort { phase := .send i, bits := [], data := [] }).onBusRun now (levels.map .clock) := by
        show run now (levels.map .clock) s = _
        rw [ran, s.setPort_self sending]
      rw [sent]
      refine ⟨fun within => ?_, fun full => ?_⟩
      · rw [State.onBusRun_shifts (.inr (.inr ⟨i, rfl⟩)) (by simpa using within)]
        exact s.pullsSda_sends rfl within
      · rw [s.onBusRun_send i full]
        exact ⟨rfl, rfl, rfl⟩
    · intro now s levels idle
      refine ⟨by simp [State.pullsSda, idle, PortLine.idle], s.onBusRun_idle idle levels, ?_⟩
      have none : writeCommand now s.maint.port.data = Option.none := by rw [idle]; rfl
      rw [State.onBus, State.endTransaction_eq, none]
      simp only [Option.toList_none, List.append_nil]
      exact s.setPort_self idle

end Sys2Proof.Proofs
end

section
/-! PROOFS. Bit fields in bytes: what the bytes that show packed fields read (O53). -/

namespace Sys2Proof.Machine

section
variable {fields post : List (Nat × Int)} {w : Nat} {v : Int}

/-! ## Numbers in fields -/

theorem lowBits_lt (w : Nat) (v : Int) : lowBits w v < 2 ^ w := by
  have pos : (0 : Int) < ((2 ^ w : Nat) : Int) := by exact_mod_cast Nat.two_pow_pos w
  have below := Int.emod_lt_of_pos v pos
  have least := Int.emod_nonneg v pos.ne'
  unfold lowBits
  omega

/-- The field of a number is the number modulo its reach. -/
theorem lowBits_cast (w : Nat) (v : Int) : (lowBits w v : Int) = v % ((2 ^ w : Nat) : Int) :=
  Int.toNat_of_nonneg (Int.emod_nonneg v (by exact_mod_cast (Nat.two_pow_pos w).ne'))

theorem lowBits_nat (w n : Nat) : lowBits w (n : Int) = n % 2 ^ w := rfl

theorem lowBits_small {n : Nat} (small : n < 2 ^ w) : lowBits w (n : Int) = n := Nat.mod_eq_of_lt small

theorem lowBits_bit (p : Bool) : lowBits 1 (bit p) = if p = true then 1 else 0 := by cases p <;> rfl

theorem reach_eq {lo hi : Int} (ordered : lo ≤ hi) (v : Int) : reach v lo hi = max lo (min hi v) := by
  unfold reach clampInt
  split
  · omega
  split
  · omega
  · omega

/-- A number that saturates in its field. -/
theorem lowBits_reach {hi : Nat} (n : Nat) (small : hi < 2 ^ w) : lowBits w (reach (n : Int) 0 (hi : Int)) = min hi n := by
  have saturates : reach (n : Int) 0 (hi : Int) = ((min hi n : Nat) : Int) := by
    rw [reach_eq (by omega)]
    omega
  rw [saturates, lowBits_small (lt_of_le_of_lt (Nat.min_le_left _ _) small)]

/-! ## Packed fields -/

/-- The bits that fields take. -/
def fieldsWidth (fields : List (Nat × Int)) : Nat := (fields.map Prod.fst).sum

theorem packFields_foldl (fields : List (Nat × Int)) (acc : Nat) :
    fields.foldl (fun acc wv => acc * 2 ^ wv.1 + lowBits wv.1 wv.2) acc = acc * 2 ^ fieldsWidth fields + packFields fields := by
  induction fields generalizing acc with
  | nil => simp [fieldsWidth, packFields]
  | cons f rest ih =>
    have here : packFields (f :: rest) = (0 * 2 ^ f.1 + lowBits f.1 f.2) * 2 ^ fieldsWidth rest + packFields rest := ih _
    have width : fieldsWidth (f :: rest) = f.1 + fieldsWidth rest := by simp [fieldsWidth]
    rw [List.foldl_cons, ih, here, width, pow_add]
    ring

theorem packFields_append (fields more : List (Nat × Int)) :
    packFields (fields ++ more) = packFields fields * 2 ^ fieldsWidth more + packFields more := by
  unfold packFields
  rw [List.foldl_append]
  exact packFields_foldl more _

theorem packFields_cons (f : Nat × Int) (rest : List (Nat × Int)) :
    packFields (f :: rest) = lowBits f.1 f.2 * 2 ^ fieldsWidth rest + packFields rest := by
  have first : packFields [f] = lowBits f.1 f.2 := by simp [packFields]
  rw [← first]
  exact packFields_append [f] rest

theorem packFields_lt (fields : List (Nat × Int)) : packFields fields < 2 ^ fieldsWidth fields := by
  induction fields with
  | nil => decide
  | cons f rest ih =>
    have width : fieldsWidth (f :: rest) = f.1 + fieldsWidth rest := by simp [fieldsWidth]
    rw [packFields_cons, width, pow_add]
    calc lowBits f.1 f.2 * 2 ^ fieldsWidth rest + packFields rest
        < lowBits f.1 f.2 * 2 ^ fieldsWidth rest + 2 ^ fieldsWidth rest := Nat.add_lt_add_left ih _
      _ = (lowBits f.1 f.2 + 1) * 2 ^ fieldsWidth rest := (Nat.succ_mul _ _).symm
      _ ≤ 2 ^ f.1 * 2 ^ fieldsWidth rest := Nat.mul_le_mul_right _ (lowBits_lt f.1 f.2)

/-- A field read out of the packed number. -/
theorem packFields_field {j : Nat} (held : fields.drop j = (w, v) :: post) :
    packFields fields / 2 ^ fieldsWidth post % 2 ^ w = lowBits w v := by
  have width : fieldsWidth ((w, v) :: post) = fieldsWidth post + w := by simp [fieldsWidth, Nat.add_comm]
  have whole : packFields fields =
      packFields post + 2 ^ fieldsWidth post * (lowBits w v + 2 ^ w * packFields (fields.take j)) := by
    conv_lhs => rw [← List.take_append_drop j fields, held, packFields_append, packFields_cons, width, pow_add]
    ring
  rw [whole, Nat.add_mul_div_left _ _ (Nat.two_pow_pos _), Nat.div_eq_of_lt (packFields_lt post), Nat.zero_add,
    Nat.add_mul_mod_self_left, Nat.mod_eq_of_lt (lowBits_lt w v)]

/-! ## Bytes -/

theorem byteAt_beBytes {k i : Nat} (within : i < k) (v : Nat) : byteAt (beBytes k v) i = v / 256 ^ (k - 1 - i) % 256 := by
  induction k generalizing v with
  | zero => omega
  | succ k ih =>
    unfold byteAt at ih ⊢
    rw [beBytes]
    by_cases last : i = k
    · subst last
      rw [List.getD_append_right _ _ _ _ (by simp)]
      simp
    · have before : i < k := by omega
      rw [List.getD_append _ _ _ _ (by simpa using before), ih before, Nat.div_div_eq_div_mul,
        show k + 1 - 1 - i = k - 1 - i + 1 by omega, pow_succ, Nat.mul_comm]

theorem pow_bytes (n : Nat) : 256 ^ n = 2 ^ (8 * n) := by
  rw [pow_mul]
  norm_num

/-- Bytes read as one big-endian number. -/
def wordAt (b : Nat → Nat) (i : Nat) : Nat → Nat
  | 0 => 0
  | m + 1 => wordAt b i m * 256 + b (i + m)

/-- The bytes from `base` on are `fields` packed into `k` bytes. -/
def Shows (b : Nat → Nat) (base k : Nat) (fields : List (Nat × Int)) : Prop :=
  ∀ i, i < k → b (base + i) = byteAt (packBytes k fields) i

namespace Shows

variable {b : Nat → Nat} {base k : Nat} {x : Nat}

theorem byte_lt (shown : Shows b base k fields) {i : Nat} (within : i < k) : b (base + i) < 256 := by
  rw [shown i within]
  exact byteAt_lt _ _

theorem word (shown : Shows b base k fields) {i m : Nat} (within : i + m ≤ k) :
    wordAt b (base + i) m = packFields fields / 256 ^ (k - i - m) % 256 ^ m := by
  induction m with
  | zero => simp [wordAt, Nat.mod_one]
  | succ m ih =>
    have last := shown (i + m) (by omega)
    rw [packBytes, byteAt_beBytes (by omega), show k - 1 - (i + m) = k - i - (m + 1) by omega, ← Nat.add_assoc] at last
    rw [wordAt, ih (by omega), last, show k - i - m = k - i - (m + 1) + 1 by omega, pow_succ, ← Nat.div_div_eq_div_mul,
      pow_succ, Nat.mul_comm (256 ^ m), Nat.mod_mul, Nat.add_comm, Nat.mul_comm]

/-- A field that lies within `m` bytes from byte `i` on, `r` bits before their end. -/
theorem within (shown : Shows b base k fields) (i m r j : Nat) (held : fields.drop j = (w, v) :: post)
    (place : fieldsWidth post = 8 * (k - i - m) + r) (fits : i + m ≤ k ∧ r + w ≤ 8 * m) (code : lowBits w v = x) :
    wordAt b (base + i) m / 2 ^ r % 2 ^ w = x := by
  obtain ⟨inside, room⟩ := fits
  rw [shown.word inside, pow_bytes, pow_bytes, show 8 * m = r + (8 * m - r) by omega, pow_add, Nat.mod_mul_right_div_self,
    Nat.mod_mod_of_dvd _ (pow_dvd_pow 2 (by omega)), Nat.div_div_eq_div_mul, ← pow_add, ← place, packFields_field held, code]

/-- A field within a byte. -/
theorem bits (shown : Shows b base k fields) (i r j : Nat) (held : fields.drop j = (w, v) :: post) (code : lowBits w v = x)
    (place : fieldsWidth post = 8 * (k - i - 1) + r := by simp [fieldsWidth])
    (fits : i + 1 ≤ k ∧ r + w ≤ 8 * 1 := by decide) :
    b (base + i) / 2 ^ r % 2 ^ w = x := by
  simpa [wordAt] using shown.within i 1 r j held place fits code

/-- The first field of a byte. -/
theorem top (shown : Shows b base k fields) (i r j : Nat) (held : fields.drop j = (w, v) :: post) (code : lowBits w v = x)
    (place : fieldsWidth post = 8 * (k - i - 1) + r := by simp [fieldsWidth]) (fits : i + 1 ≤ k ∧ r + w = 8 := by decide) :
    b (base + i) / 2 ^ r = x := by
  obtain ⟨inside, full⟩ := fits
  have below : b (base + i) / 2 ^ r < 2 ^ w :=
    Nat.div_lt_of_lt_mul (by rw [← pow_add, full]; exact shown.byte_lt inside)
  rw [← shown.bits i r j held code place ⟨inside, by omega⟩, Nat.mod_eq_of_lt below]

/-- The last field of a byte. -/
theorem low (shown : Shows b base k fields) (i j : Nat) (held : fields.drop j = (w, v) :: post) (code : lowBits w v = x)
    (place : fieldsWidth post = 8 * (k - i - 1) := by simp [fieldsWidth]) (fits : i + 1 ≤ k ∧ w ≤ 8 := by decide) :
    b (base + i) % 2 ^ w = x := by
  simpa using shown.bits i 0 j held code place ⟨fits.1, by omega⟩

/-- A field of a whole byte. -/
theorem byte (shown : Shows b base k fields) (i j : Nat) (held : fields.drop j = (8, v) :: post) (code : lowBits 8 v = x)
    (place : fieldsWidth post = 8 * (k - i - 1) := by simp [fieldsWidth]) (inside : i + 1 ≤ k := by decide) : b (base + i) = x := by
  simpa using shown.top i 0 j held code place ⟨inside, rfl⟩

/-- A field of the end of a byte and the whole of the next. -/
theorem pair (shown : Shows b base k fields) (i j : Nat) (held : fields.drop j = (w, v) :: post) (code : lowBits w v = x)
    (place : fieldsWidth post = 8 * (k - i - 2) := by simp [fieldsWidth])
    (fits : i + 2 ≤ k ∧ 8 ≤ w ∧ w ≤ 16 := by decide) :
    b (base + i) % 2 ^ (w - 8) * 256 + b (base + i + 1) = x := by
  obtain ⟨inside, least, most⟩ := fits
  have word := shown.within i 2 0 j held place ⟨inside, by omega⟩ code
  have next : b (base + i + 1) < 256 := shown.byte_lt (i := i + 1) (by omega)
  have split : (2 : Nat) ^ w = 256 * 2 ^ (w - 8) := by rw [← show (2 : Nat) ^ 8 = 256 from rfl, ← pow_add]; congr 1; omega
  have spelled : wordAt b (base + i) 2 = b (base + i + 1) + 256 * b (base + i) := by simp [wordAt]; ring
  rw [pow_zero, Nat.div_one, spelled, split, Nat.mod_mul, Nat.add_mul_mod_self_left, Nat.mod_eq_of_lt next,
    Nat.add_mul_div_left _ _ (by decide), Nat.div_eq_of_lt next, Nat.zero_add] at word
  rw [← word]
  ring

theorem word_lt (shown : Shows b base k fields) {i m : Nat} (inside : i + m ≤ k) : wordAt b (base + i) m < 256 ^ m := by
  rw [shown.word inside]
  exact Nat.mod_lt _ (by positivity)

/-- A field of whole bytes. -/
theorem bytes (shown : Shows b base k fields) (i m j : Nat) (held : fields.drop j = (8 * m, v) :: post) (code : lowBits (8 * m) v = x)
    (place : fieldsWidth post = 8 * (k - i - m)) (inside : i + m ≤ k) :
    wordAt b (base + i) m = x := by
  have word := shown.within i m 0 j held place ⟨inside, by omega⟩ code
  have below := shown.word_lt inside
  rwa [pow_zero, Nat.div_one, ← pow_bytes, Nat.mod_eq_of_lt below] at word

/-- A field of two bytes. -/
theorem two (shown : Shows b base k fields) (i j : Nat) (held : fields.drop j = (16, v) :: post) (code : lowBits 16 v = x)
    (place : fieldsWidth post = 8 * (k - i - 2) := by simp [fieldsWidth]) (inside : i + 2 ≤ k := by decide) :
    b (base + i) * 256 + b (base + i + 1) = x := by
  rw [← shown.bytes i 2 j held code place inside]
  simp [wordAt]

/-- A field of three bytes. -/
theorem three (shown : Shows b base k fields) (i j : Nat) (held : fields.drop j = (24, v) :: post) (code : lowBits 24 v = x)
    (place : fieldsWidth post = 8 * (k - i - 3) := by simp [fieldsWidth]) (inside : i + 3 ≤ k := by decide) :
    b (base + i) * 65536 + b (base + i + 1) * 256 + b (base + i + 2) = x := by
  rw [← shown.bytes i 3 j held code place inside]
  simp [wordAt]
  ring

/-- A field of four bytes. -/
theorem four (shown : Shows b base k fields) (i j : Nat) (held : fields.drop j = (32, v) :: post) (code : lowBits 32 v = x)
    (place : fieldsWidth post = 8 * (k - i - 4) := by simp [fieldsWidth]) (inside : i + 4 ≤ k := by decide) :
    b (base + i) * 16777216 + b (base + i + 1) * 65536 + b (base + i + 2) * 256 + b (base + i + 3) = x := by
  rw [← shown.bytes i 4 j held code place inside]
  simp [wordAt]
  ring

end Shows

/-- What a field shows of a number that may be negative. -/
theorem shows_int {n : Nat} (shows : n = lowBits w v) : (n : Int) = v % ((2 ^ w : Nat) : Int) := by
  rw [shows, lowBits_cast]

end

end Sys2Proof.Machine

end

section
/-! PROOFS. The codes of the items' fields, and the blocks of STATUS (O53). -/

namespace Sys2Proof.Machine

section
variable {s : State}

/-! ## Codes -/

theorem PhaseSource.shows (x : PhaseSource) : lowBits 2 x.code = if x = .noSource then 0 else if x = .ref then 1 else 2 := by
  cases x <;> rfl

theorem origin_shows (o : Option Origin) : lowBits 2 (originCode o) = if o = none then 0 else if o = some .ref then 1 else 2 := by
  rcases o with _ | _ | _ <;> rfl

theorem TimeClass.shows (x : TimeClass) : lowBits 2 x.code = if x = .a then 0 else if x = .b then 1 else if x = .c then 2 else 3 := by
  cases x <;> rfl

theorem RefState.shows (x : RefState) :
    lowBits 2 x.code = if x = .noref then 0 else if x = .acquire then 1 else if x = .locked then 2 else 3 := by
  cases x <;> rfl

theorem streak_shows (outlier conflict : Nat) : lowBits 3 (streakCode outlier conflict) =
    if 0 < outlier then min 3 outlier else if 0 < conflict then min 5 (conflict + 3) else 0 := by
  unfold streakCode
  split
  next some =>
    have saturates : reach (outlier : Int) 1 3 = ((min 3 outlier : Nat) : Int) := by
      rw [reach_eq (by omega)]
      omega
    rw [saturates, lowBits_small (by omega)]
  split
  next some =>
    have saturates : reach ((conflict + 3 : Nat) : Int) 4 5 = ((min 5 (conflict + 3) : Nat) : Int) := by
      rw [reach_eq (by omega)]
      omega
    rw [saturates, lowBits_small (by omega)]
  · rfl

theorem loadResult_shows (r : LoadResult) : lowBits 3 (loadResultCode (some r)) =
    if r = .ok then 0 else if r = .signature then 1 else if r = .length then 2 else if r = .format then 3
    else if r = .crc then 4 else if r = .chain then 5 else if r = .shortRecord then 6 else 7 := by
  cases r <;> rfl

theorem length_shows (n : Nat) :
    lowBits 2 (lengthCode n) = if n = 59 then 1 else if n = 60 then 2 else if n = 61 then 3 else 0 := by
  unfold lengthCode
  repeat' split
  all_goals rfl

theorem DriveState.shows (x : DriveState) :
    lowBits 2 x.code = if x = .released then 0 else if x = .pulling then 1 else if x = .listening then 2 else 3 := by
  cases x <;> rfl

theorem symbol_shows (y : Option Symbol) :
    lowBits 2 (symbolCode y) = if y = none then 0 else if y = some .short then 1 else if y = some .long then 2 else 3 := by
  rcases y with _ | _ | _ | _ <;> rfl

theorem verdict_shows (v : FrameVerdict) : lowBits 2 (verdictCode (some v)) =
    if v.verdict = .quiet then 1 else if v.verdict = .disturbed then 2 else 3 := by
  obtain ⟨verdict, n0⟩ := v
  cases verdict <;> rfl

theorem Standing.shows (st : Standing) (loaded : st ≠ .loading) : lowBits 4 st.code =
    if st = .survey .watching then 1 else if st = .survey .adopting then 2 else if st = .survey .confirming then 3
    else if st = .active then 4 else if st = .deferred then 5 else if st = .standby then 6 else if st = .faultedDrive then 7 else 8 := by
  rcases st with _ | ⟨_ | _ | _⟩ | _ | _ | _ | _ | _
  · exact absurd rfl loaded
  all_goals rfl

theorem commandResult_shows (r : Option CommandResult) : lowBits 2 (commandResultCode r) =
    if r = none then 0 else if r = some .accepted then 1 else if r = some .ignored then 2 else 3 := by
  rcases r with _ | _ | _ | _ <;> rfl

theorem SelfTest.shows (t : SelfTest) : lowBits 3 t.code =
    if t.state = .waiting then 5 else if t.state = .running then 6 else if t.result = .noResult then 0
    else if t.result = .pass then 1 else if t.result = .fail then 2 else if t.result = .noTime then 3 else 4 := by
  unfold SelfTest.code
  cases t.state
  · cases t.result <;> rfl
  · rfl
  · rfl

theorem break_shows (r : BreakReason) : lowBits 4 (breakCode (some r)) =
    if r = .missing then 1 else if r = .extraFall then 2 else if r = .tooLong then 3 else if r = .overlong then 4
    else if r = .length then 5 else if r = .parity then 6 else if r = .range then 7 else if r = .weekday then 8 else 9 := by
  cases r <;> rfl

/-! ## Relative fields -/

theorem minutesBefore_absent {c n : Option Int} (absent : c = none ∨ n = none) : minutesBefore c n = 15 := by
  obtain rfl | rfl := absent
  · rfl
  · cases c <;> rfl

theorem minutesAfter_absent {c n : Option Int} (absent : c = none ∨ n = none) : minutesAfter c n = -16 := by
  obtain rfl | rfl := absent
  · rfl
  · cases c <;> rfl

theorem frameAhead_iff (s : State) :
    s.frameAhead = true ↔ ∃ f m, s.frames.current = some f ∧ s.time.n = some m ∧ f.n0 = m - m % 60 + 60 := by
  unfold State.frameAhead
  rcases s.frames.current with _ | f
  · simp
  · rcases s.time.n with _ | n
    · simp
    · simp

/-! ## The blocks of STATUS -/

theorem byteAt_append_left {x y : List Byte} {i : Nat} (within : i < x.length) : byteAt (x ++ y) i = byteAt x i :=
  congrArg BitVec.toNat (List.getD_append _ _ _ _ within)

theorem byteAt_append_right {x y : List Byte} {i : Nat} : byteAt (x ++ y) (x.length + i) = byteAt y i := by
  unfold byteAt
  rw [List.getD_append_right _ _ _ _ (Nat.le_add_right _ _), Nat.add_sub_cancel_left]

/-- The four blocks of STATUS, at their bytes (R187). -/
theorem State.statusItem_shows (s : State) : Shows (byteAt s.statusItem) 0 16 s.statusTime ∧
    Shows (byteAt s.statusItem) 16 3 s.statusReference ∧ Shows (byteAt s.statusItem) 19 5 s.statusFrames ∧
    Shows (byteAt s.statusItem) 24 8 s.statusStanding := by
  unfold State.statusItem
  refine ⟨fun i within => ?_, fun i within => ?_, fun i within => ?_, fun i within => ?_⟩
  · rw [byteAt_append_left (by simp; omega), byteAt_append_left (by simp; omega), byteAt_append_left (by simp; omega), Nat.zero_add]
  · have place := byteAt_append_right (x := packBytes 16 s.statusTime) (y := packBytes 3 s.statusReference) (i := i)
    rw [packBytes_length] at place
    rw [byteAt_append_left (by simp; omega), byteAt_append_left (by simp; omega), place]
  · have place := byteAt_append_right (x := packBytes 16 s.statusTime ++ packBytes 3 s.statusReference)
      (y := packBytes 5 s.statusFrames) (i := i)
    rw [List.length_append, packBytes_length, packBytes_length] at place
    rw [byteAt_append_left (by simp; omega), place]
  · have place := byteAt_append_right
      (x := packBytes 16 s.statusTime ++ packBytes 3 s.statusReference ++ packBytes 5 s.statusFrames)
      (y := packBytes 8 s.statusStanding) (i := i)
    rw [List.length_append, List.length_append, packBytes_length, packBytes_length, packBytes_length] at place
    exact place

end

end Sys2Proof.Machine

end

section
/-! PROOFS. What the bytes of STATUS show, block by block (O53). -/

namespace Sys2Proof.Machine

section
variable {s : State} {b : Nat → Nat}

/-- The one-bit field of a Boolean. -/
abbrev flagOf (p : Bool) : Nat := if p = true then 1 else 0

/-- The field of a class. -/
abbrev classField (x : TimeClass) : Nat := if x = .a then 0 else if x = .b then 1 else if x = .c then 2 else 3

/-- A number limited to a field. -/
abbrev limited (lo hi v : Int) : Int := max lo (min hi v)

/-- The count, the latch and F. -/
theorem statusTime_count (shown : Shows b 0 16 s.statusTime) :
    let n : Nat := b 0 * 16777216 + b 1 * 65536 + b 2 * 256 + b 3
    let latch : Nat := b 4 * 16777216 + b 5 * 65536 + b 6 * 256 + b 7
    (s.time.n = none → n = 4294967295) ∧ (∀ m, s.time.n = some m → 0 ≤ m → m ≤ 3155759999 → (n : Int) = m) ∧
      (s.frames.latch = none → latch = 4294967295) ∧ (∀ w, s.frames.latch = some w → latch = w.toNat) ∧
      ((b 8 * 65536 + b 9 * 256 + b 10 : Nat) : Int) = s.timer.f % 16777216 := by
  refine ⟨fun unset => ?_, fun m set least most => ?_, fun empty => ?_, fun w latched => ?_, ?_⟩
  · exact shown.four 0 0 rfl (by rw [unset]; rfl)
  · have shows := shows_int (shown.four 0 0 rfl rfl)
    rw [set] at shows
    exact shows.trans (Int.emod_eq_of_lt least (lt_of_le_of_lt most (by decide)))
  · exact shown.four 4 1 rfl (by rw [empty]; rfl)
  · exact shown.four 4 1 rfl (by rw [latched]; exact lowBits_small w.isLt)
  · exact shows_int (shown.three 8 2 rfl rfl)

/-- The age, the phase source, the last phase error and the offset. -/
theorem statusTime_phase (shown : Shows b 0 16 s.statusTime) :
    let age : Nat := b 11 * 256 + b 12
    let error : Nat := b 13 % 64 * 256 + b 14
    (s.time.age = none → age = 65535) ∧ (∀ a, s.time.age = some a → age = min 65534 a) ∧
      b 13 / 64 = (if s.timer.source = .noSource then 0 else if s.timer.source = .ref then 1 else 2) ∧
      (s.timer.lastError = none → error = 8192) ∧
      (∀ e, s.timer.lastError = some e → (error : Int) = limited (-8191) 8191 e % 16384) ∧ (b 15 : Int) = s.time.offset % 256 := by
  refine ⟨fun none => ?_, fun a aged => ?_, shown.top 13 6 4 rfl s.timer.source.shows, fun none => ?_,
    fun e last => ?_, ?_⟩
  · exact shown.two 11 3 rfl (by rw [none]; rfl)
  · exact shown.two 11 3 rfl (by rw [aged]; exact lowBits_reach a (by decide))
  · exact shown.pair (w := 14) 13 5 rfl (by rw [none]; rfl)
  · have shows := shows_int (shown.pair 13 5 rfl rfl)
    rw [last] at shows
    exact shows.trans (congrArg (· % 16384) (reach_eq (by decide) e))
  · exact shows_int (shown.byte 15 6 rfl rfl)

/-- The origin, the leap-60 flag, the pending re-set, the class, ALERT_N, the reference and the load. -/
theorem statusReference_fields (shown : Shows b 16 3 s.statusReference) :
    b 16 / 64 = (if s.time.origin = none then 0 else if s.time.origin = some .ref then 1 else 2) ∧
      b 16 / 32 % 2 = flagOf s.time.leap60 ∧ b 16 / 16 % 2 = flagOf (s.time.pendingReset.any (fun r => r.difference.isSome)) ∧
      b 16 / 8 % 2 = flagOf (s.time.pendingReset.any (fun r => r.phase.isSome)) ∧
      b 16 / 2 % 4 = classField s.cls ∧ b 16 % 2 = flagOf s.maint.alertN ∧
      b 17 / 64 = (if s.ref.state = .noref then 0 else if s.ref.state = .acquire then 1
        else if s.ref.state = .locked then 2 else 3) ∧
      b 17 / 16 % 4 = min 3 s.ref.streak ∧ b 17 / 4 % 4 = min 2 s.ref.missingStreak ∧ b 17 % 4 = s.load.slot % 4 ∧
      b 18 / 32 = (if 0 < s.ref.outlierStreak then min 3 s.ref.outlierStreak
        else if 0 < s.ref.conflictStreak then min 5 (s.ref.conflictStreak + 3) else 0) ∧
      (∀ r : LoadResult, s.load.result = some r → b 18 / 4 % 8 =
        if r = .ok then 0 else if r = .signature then 1 else if r = .length then 2 else if r = .format then 3
        else if r = .crc then 4 else if r = .chain then 5 else if r = .shortRecord then 6 else 7) ∧
      b 18 / 2 % 2 = flagOf s.load.clamp ∧ b 18 % 2 = flagOf s.ctl.silence :=
  ⟨shown.top 0 6 0 rfl (origin_shows _),
    shown.bits (w := 1) 0 5 1 rfl (lowBits_bit _),
    shown.bits (w := 1) 0 4 2 rfl (lowBits_bit _),
    shown.bits (w := 1) 0 3 3 rfl (lowBits_bit _),
    shown.bits (w := 2) 0 1 4 rfl s.cls.shows,
    shown.low (w := 1) 0 5 rfl (lowBits_bit _),
    shown.top 1 6 6 rfl s.ref.state.shows,
    shown.bits (w := 2) 1 4 7 rfl (lowBits_reach (hi := 3) _ (by decide)),
    shown.bits (w := 2) 1 2 8 rfl (lowBits_reach (hi := 2) _ (by decide)),
    shown.low (w := 2) 1 9 rfl (lowBits_nat 2 _),
    shown.top 2 5 10 rfl (streak_shows _ _),
    fun r result => shown.bits (w := 3) 2 2 11 rfl (by rw [result]; exact loadResult_shows r),
    shown.bits (w := 1) 2 1 12 rfl (lowBits_bit _),
    shown.low (w := 1) 2 13 rfl (lowBits_bit _)⟩

/-- Without a current frame the fields of its byte read 0. -/
theorem statusFrames_none (shown : Shows b 19 5 s.statusFrames) (none : s.frames.current = none) : b 19 / 2 = 0 := by
  unfold State.statusFrames at shown
  rw [none] at shown
  have length : b 19 / 64 = 0 := shown.top (w := 2) (v := 0) 0 6 0 rfl rfl
  have segment : b 19 / 16 % 4 = 0 := shown.bits (w := 2) (v := 0) 0 4 1 rfl rfl
  have cls : b 19 / 4 % 4 = 0 := shown.bits (w := 2) (v := 0) 0 2 2 rfl rfl
  have kind : b 19 / 2 % 2 = 0 := shown.bits (w := 1) (v := 0) 0 1 3 rfl rfl
  omega

/-- The current frame. -/
theorem statusFrames_current {f : Frame} (shown : Shows b 19 5 s.statusFrames) (current : s.frames.current = some f) :
    b 19 / 64 = (if f.symbols.length = 59 then 1 else if f.symbols.length = 60 then 2
      else if f.symbols.length = 61 then 3 else 0) ∧
    b 19 / 16 % 4 = f.segment % 4 ∧ b 19 / 4 % 4 = classField f.classAtBuild ∧ b 19 / 2 % 2 = flagOf (f.kind == .catchUp) := by
  unfold State.statusFrames at shown
  rw [current] at shown
  exact ⟨shown.top 0 6 0 rfl (length_shows _),
    shown.bits (w := 2) 0 4 1 rfl (lowBits_nat 2 _),
    shown.bits (w := 2) 0 2 2 rfl f.classAtBuild.shows,
    shown.bits (w := 1) 0 1 3 rfl (lowBits_bit _)⟩

/-- The next frame, the rebuilds, the drive and the streaks. -/
theorem statusFrames_fields (shown : Shows b 19 5 s.statusFrames) : b 19 % 2 = flagOf s.frameAhead ∧
    b 20 / 128 = flagOf s.frames.next.isSome ∧ b 20 / 64 % 2 = flagOf (s.frames.next.any (fun f => f.stale)) ∧
    (s.key.listenIndex = none → b 20 % 64 = 63) ∧ (∀ i, s.key.listenIndex = some i → b 20 % 64 = i % 64) ∧
    b 21 = min 255 s.frames.rebuilds ∧
    b 22 / 64 = (if s.key.drive = .released then 0 else if s.key.drive = .pulling then 1
      else if s.key.drive = .listening then 2 else 3) ∧
    b 22 / 16 % 4 = (if s.key.intended = none then 0 else if s.key.intended = some .short then 1
      else if s.key.intended = some .long then 2 else 3) ∧
    b 22 / 4 % 4 = min 2 s.key.faultRun ∧ b 22 % 4 = min 2 s.key.timingStreak ∧ b 23 / 16 = min 15 s.key.conflictStreak ∧
    (s.key.lastVerdict = none → b 23 / 4 % 4 = 0) ∧
    (∀ v, s.key.lastVerdict = some v →
      b 23 / 4 % 4 = if v.verdict = .quiet then 1 else if v.verdict = .disturbed then 2 else 3) ∧
    b 23 / 2 % 2 = flagOf s.line.candidate.isSome ∧ b 23 % 2 = flagOf s.ctl.faultReport := by
  unfold State.statusFrames at shown
  rcases current : s.frames.current with _ | f
  all_goals rw [current] at shown
  all_goals exact
    ⟨shown.low (w := 1) 0 4 rfl (lowBits_bit _),
      shown.top 1 7 5 rfl (lowBits_bit _),
      shown.bits (w := 1) 1 6 6 rfl (lowBits_bit _),
      fun none => shown.low (w := 6) 1 7 rfl (by rw [none]; rfl),
      fun i listens => shown.low (w := 6) 1 7 rfl (by rw [listens]; exact lowBits_nat 6 i),
      shown.byte 2 8 rfl (lowBits_reach (hi := 255) _ (by decide)),
      shown.top 3 6 9 rfl s.key.drive.shows,
      shown.bits (w := 2) 3 4 10 rfl (symbol_shows _),
      shown.bits (w := 2) 3 2 11 rfl (lowBits_reach (hi := 2) _ (by decide)),
      shown.low (w := 2) 3 12 rfl (lowBits_reach (hi := 2) _ (by decide)),
      shown.top 4 4 13 rfl (lowBits_reach (hi := 15) _ (by decide)),
      fun none => shown.bits (w := 2) 4 2 14 rfl (by rw [none]; rfl),
      fun v last => shown.bits (w := 2) 4 2 14 rfl (by rw [last]; exact verdict_shows v),
      shown.bits (w := 1) 4 1 15 rfl (lowBits_bit _),
      shown.low (w := 1) 4 16 rfl (lowBits_bit _)⟩

/-- The standing, what is pending and the last result. -/
theorem statusStanding_fields (shown : Shows b 24 8 s.statusStanding) :
    (s.ctl.standing ≠ .loading → b 24 / 16 =
      if s.ctl.standing = .survey .watching then 1 else if s.ctl.standing = .survey .adopting then 2
      else if s.ctl.standing = .survey .confirming then 3 else if s.ctl.standing = .active then 4
      else if s.ctl.standing = .deferred then 5 else if s.ctl.standing = .standby then 6
      else if s.ctl.standing = .faultedDrive then 7 else 8) ∧
    b 24 / 8 % 2 = flagOf s.ctl.pendingJoin ∧ b 24 / 4 % 2 = flagOf s.ctl.pendingWithdraw ∧
    b 24 % 4 = (if s.maint.lastResult = none then 0 else if s.maint.lastResult = some .accepted then 1
      else if s.maint.lastResult = some .ignored then 2 else 3) ∧
    b 26 % 8 = (if s.ctl.test.state = .waiting then 5 else if s.ctl.test.state = .running then 6
      else if s.ctl.test.result = .noResult then 0 else if s.ctl.test.result = .pass then 1
      else if s.ctl.test.result = .fail then 2 else if s.ctl.test.result = .noTime then 3 else 4) :=
  ⟨fun loaded => shown.top 0 4 0 rfl (s.ctl.standing.shows loaded),
    shown.bits (w := 1) 0 3 1 rfl (lowBits_bit _),
    shown.bits (w := 1) 0 2 2 rfl (lowBits_bit _),
    shown.low (w := 2) 0 3 rfl (commandResult_shows _),
    shown.low (w := 3) 2 7 rfl s.ctl.test.shows⟩

/-- The relative fields. -/
theorem statusStanding_relative (shown : Shows b 24 8 s.statusStanding) :
    ((s.frames.current = none ∨ s.key.lastVerdict = none) → b 25 / 16 = 15) ∧
    (∀ f v, s.frames.current = some f → s.key.lastVerdict = some v → (b 25 / 16 : Int) = limited 0 15 ((f.n0 - v.n0) / 60)) ∧
    ((s.frames.current = none ∨ s.ctl.floor = none) → b 25 % 16 = 15) ∧
    (∀ f m, s.frames.current = some f → s.ctl.floor = some m → (b 25 % 16 : Int) = limited 0 15 ((f.n0 - m) / 60)) ∧
    ((s.frames.current = none ∨ s.ctl.lastComparison = none) → b 26 / 8 = 16) ∧
    (∀ f c, s.frames.current = some f → s.ctl.lastComparison = some c →
      (b 26 / 8 : Int) = limited (-15) 15 ((c.n0 - f.n0) / 60) % 32) := by
  have verdict : b 25 / 16 = lowBits 4 _ := shown.top 1 4 4 rfl rfl
  have floor : b 25 % 16 = lowBits 4 _ := shown.low (w := 4) 1 5 rfl rfl
  have after : b 26 / 8 = lowBits 5 _ := shown.top 2 3 6 rfl rfl
  refine ⟨fun absent => ?_, fun f v current last => ?_, fun absent => ?_, fun f m current last => ?_, fun absent => ?_,
    fun f c current last => ?_⟩
  · rw [verdict, minutesBefore_absent (absent.imp (fun h => by rw [State.currentN0, h]; rfl) (fun h => by rw [h]; rfl))]
    rfl
  · have shows := shows_int verdict
    rw [State.currentN0, current, last] at shows
    have saturates : (b 25 / 16 : Int) = reach ((f.n0 - v.n0) / 60) 0 15 % 16 := shows
    rw [saturates, reach_eq (by decide)]
    exact Int.emod_eq_of_lt (le_max_left _ _) (by omega)
  · rw [floor, minutesBefore_absent (absent.imp (fun h => by rw [State.currentN0, h]; rfl) id)]
    rfl
  · have shows := shows_int floor
    rw [State.currentN0, current, last] at shows
    have saturates : (b 25 % 16 : Int) = reach ((f.n0 - m) / 60) 0 15 % 16 := shows
    rw [saturates, reach_eq (by decide)]
    exact Int.emod_eq_of_lt (le_max_left _ _) (by omega)
  · rw [after, minutesAfter_absent (absent.imp (fun h => by rw [State.currentN0, h]; rfl) (fun h => by rw [h]; rfl))]
    rfl
  · have shows := shows_int after
    rw [State.currentN0, current, last] at shows
    have saturates : (b 26 / 8 : Int) = reach ((c.n0 - f.n0) / 60) (-15) 15 % 32 := shows
    rw [saturates, reach_eq (by decide)]

/-- The last comparison. -/
theorem statusStanding_comparison (shown : Shows b 24 8 s.statusStanding) :
    let difference : Nat := b 27 % 32 * 256 + b 28
    (s.ctl.lastComparison = none → b 27 / 32 = 0 ∧ difference = 0) ∧
      ∀ c, s.ctl.lastComparison = some c →
        (c.result = .agree → b 27 / 32 = 1 ∧ difference = 0) ∧ (c.result = .noFrame → b 27 / 32 = 2 ∧ difference = 0) ∧
        (c.result = .length → b 27 / 32 = 3 ∧ difference = 0) ∧
        (∀ i, c.result = .symbol i → b 27 / 32 = 4 ∧ difference = i % 8192) ∧
        ∀ us, c.result = .markOffset us → b 27 / 32 = 5 ∧ (difference : Int) = limited (-4095) 4095 us % 8192 := by
  have result : b 27 / 32 = lowBits 3 _ := shown.top 3 5 8 rfl rfl
  have difference : b 27 % 32 * 256 + b 28 = lowBits 13 _ := shown.pair (w := 13) 3 9 rfl rfl
  refine ⟨fun none => ?_, fun c compared => ?_⟩
  · rw [result, difference, none]
    exact ⟨rfl, rfl⟩
  · rw [compared, comparisonCode] at result difference
    refine ⟨fun is => ?_, fun is => ?_, fun is => ?_, fun i is => ?_, fun us is => ?_⟩
    all_goals simp only [is] at result difference
    · exact ⟨result, difference⟩
    · exact ⟨result, difference⟩
    · exact ⟨result, difference⟩
    · exact ⟨result, difference.trans (lowBits_nat 13 i)⟩
    · exact ⟨result, (shows_int difference).trans (congrArg (· % 8192) (reach_eq (by decide) us))⟩

/-- The decoder, the notice, the last command, the last break and the raisings. -/
theorem statusStanding_line (shown : Shows b 24 8 s.statusStanding) :
    (s.line.decoder = .idle → b 29 / 4 = 61) ∧ (s.line.decoder = .hunting → b 29 / 4 = 62) ∧
    (∀ a, s.line.decoder = .assembling → s.line.assembly = some a → b 29 / 4 = min 60 (a.symbols.length - 1)) ∧
    (s.line.notice = none → b 29 % 4 = 0) ∧ (∀ a, s.line.notice = some a → b 29 % 4 = min 3 a.segments.length) ∧
    b 30 = (s.maint.lastCommand.getD 0#8).toNat ∧ (s.line.lastBreak = none → b 31 / 16 = 0) ∧
    (∀ r : BreakReason, s.line.lastBreak = some r → b 31 / 16 =
      if r = .missing then 1 else if r = .extraFall then 2 else if r = .tooLong then 3 else if r = .overlong then 4
      else if r = .length then 5 else if r = .parity then 6 else if r = .range then 7 else if r = .weekday then 8 else 9) ∧
    b 31 % 16 = min 15 s.maint.raisings := by
  have decoder : b 29 / 4 = lowBits 6 s.line.decoderCode := shown.top 5 2 10 rfl rfl
  have notice : b 29 % 4 = lowBits 2 _ := shown.low (w := 2) 5 11 rfl rfl
  have command : b 30 = lowBits 8 _ := shown.byte 6 12 rfl rfl
  have broken : b 31 / 16 = lowBits 4 (breakCode s.line.lastBreak) := shown.top 7 4 13 rfl rfl
  refine ⟨fun is => ?_, fun is => ?_, fun a is assembly => ?_, fun none => ?_, fun a some => ?_, ?_, fun none => ?_, fun r some => ?_,
    shown.low (w := 4) 7 14 rfl (lowBits_reach (hi := 15) _ (by decide))⟩
  · rw [decoder, LineReader.decoderCode, is]
    rfl
  · rw [decoder, LineReader.decoderCode, is]
    rfl
  · have saturates : reach ((a.symbols.length : Int) - 1) 0 60 = ((min 60 (a.symbols.length - 1) : Nat) : Int) := by
      rw [reach_eq (by decide)]
      omega
    rw [decoder, LineReader.decoderCode, is, assembly]
    exact (congrArg (lowBits 6) saturates).trans (lowBits_small (by omega))
  · rw [notice, none]
    rfl
  · rw [notice, some]
    exact lowBits_reach (hi := 3) _ (by decide)
  · rw [command]
    rcases s.maint.lastCommand with _ | c
    · rfl
    · exact lowBits_small c.isLt
  · rw [broken, none]
    rfl
  · rw [broken, some]
    exact break_shows r

end

end Sys2Proof.Machine

end

section
/-! PROOFS. What the bytes of SCHEDULE, OBSERVATIONS, CURRENT FRAME, LINE FRAME and ALARMS show, and what the items show (O53). -/

namespace Sys2Proof.Machine

section
variable {s : State} {b : Nat → Nat}

/-! ## Slots -/

theorem byteAt_past {bytes : List Byte} {i : Nat} (past : bytes.length ≤ i) : byteAt bytes i = 0 :=
  congrArg BitVec.toNat (List.getD_eq_default _ _ past)

theorem byteAt_zeros (n i : Nat) : byteAt (List.replicate n 0#8) i = 0 := by
  by_cases within : i < n
  · simp [byteAt, List.getD_eq_getElem?_getD, within]
  · exact byteAt_past (by simpa using within)

/-- Bytes filled up with zeros to a size. -/
theorem byteAt_padded {bytes : List Byte} {n i : Nat} (within : i < n) :
    byteAt ((bytes ++ List.replicate n 0#8).take n) i = byteAt bytes i := by
  have taken : byteAt ((bytes ++ List.replicate n 0#8).take n) i = byteAt (bytes ++ List.replicate n 0#8) i := by
    unfold byteAt
    rw [List.getD_eq_getElem?_getD, List.getD_eq_getElem?_getD, List.getElem?_take_of_lt within]
  rw [taken]
  by_cases inside : i < bytes.length
  · exact byteAt_append_left inside
  · have past : bytes.length ≤ i := not_lt.mp inside
    obtain ⟨k, rfl⟩ := Nat.exists_eq_add_of_le past
    rw [byteAt_append_right, byteAt_zeros, byteAt_past past]

section
variable {α : Type} {slot : α → List Byte} {m : Nat}

theorem length_slots (sized : ∀ x, (slot x).length = m) (xs : List α) : (xs.flatMap slot).length = m * xs.length := by
  induction xs with
  | nil => rfl
  | cons x rest ih => rw [List.flatMap_cons, List.length_append, ih, sized, List.length_cons, Nat.mul_succ, Nat.add_comm]

/-- A byte of a slot, of slots of one size. -/
theorem byteAt_slots (sized : ∀ x, (slot x).length = m) {xs : List α} {i j : Nat} {x : α} (held : xs[i]? = some x) (within : j < m) :
    byteAt (xs.flatMap slot) (m * i + j) = byteAt (slot x) j := by
  induction xs generalizing i with
  | nil => simp at held
  | cons y rest ih =>
    rw [List.flatMap_cons]
    cases i with
    | zero =>
      obtain rfl : y = x := by simpa using held
      rw [Nat.mul_zero, Nat.zero_add, byteAt_append_left (by rw [sized]; exact within)]
    | succ i =>
      have place := byteAt_append_right (x := slot y) (y := rest.flatMap slot) (i := m * i + j)
      rw [sized] at place
      rw [Nat.mul_succ, show m * i + m + j = m + (m * i + j) by omega, place]
      exact ih held

theorem byteAt_slots_past (sized : ∀ x, (slot x).length = m) {xs : List α} {i : Nat} (none : xs[i]? = none) (j : Nat) :
    byteAt (xs.flatMap slot) (m * i + j) = 0 := by
  refine byteAt_past ?_
  rw [length_slots sized]
  exact le_trans (Nat.mul_le_mul_left m (List.getElem?_eq_none_iff.mp none)) (Nat.le_add_right _ _)

end

/-! ## SCHEDULE -/

theorem Entry.slot_length (e : Entry) : e.slot.length = 8 := packBytes_length _ _

/-- The field of an entry's kind. -/
abbrev kindField (e : Entry) : Nat := if e.kind = .leapInsert then 0 else if e.kind = .leapDelete then 1 else 2

/-- The field of an entry's source. -/
abbrev sourceField (e : Entry) : Nat := if e.source = .ref then 0 else if e.source = .rule then 1 else 2

/-- A filled slot of the SCHEDULE item. -/
theorem scheduleSlot_fields {e : Entry} {p : Nat} (shown : ∀ j, j < 8 → b (p + j) = byteAt e.slot j) :
    ((b p * 16777216 + b (p + 1) * 65536 + b (p + 2) * 256 + b (p + 3) : Nat) : Int) = e.instant % 4294967296 ∧
      b (p + 4) = 128 + 32 * kindField e + 8 * sourceField e + (if e.committed then 4 else 0) ∧
      (b (p + 5) : Int) = e.newOffset.getD 0 % 256 ∧ b (p + 6) = 0 ∧ b (p + 7) = 0 := by
  have shown : Shows b p 8 _ := shown
  have filled : b (p + 4) / 128 = 1 := shown.top (w := 1) (v := 1) 4 7 1 rfl rfl
  have kind : b (p + 4) / 32 % 4 = kindField e :=
    shown.bits (w := 2) 4 5 2 rfl (by unfold kindField; cases e.kind <;> rfl)
  have source : b (p + 4) / 8 % 4 = sourceField e :=
    shown.bits (w := 2) 4 3 3 rfl (by unfold sourceField; cases e.source <;> rfl)
  have committed : b (p + 4) / 4 % 2 = if e.committed then 1 else 0 := shown.bits (w := 1) 4 2 4 rfl (lowBits_bit _)
  have rest : b (p + 4) % 4 = 0 := shown.low (w := 2) (v := 0) 4 5 rfl rfl
  have spare : b (p + 6) * 256 + b (p + 6 + 1) = 0 := shown.two 6 7 rfl rfl
  have spare : b (p + 6) * 256 + b (p + 7) = 0 := spare
  refine ⟨shows_int (shown.four 0 0 rfl rfl), ?_, shows_int (shown.byte 5 6 rfl rfl), by omega, by omega⟩
  split at committed
  next held => rw [if_pos held]; omega
  next free => rw [if_neg free]; omega

/-! ## OBSERVATIONS -/

theorem ObsRecord.slot_length (r : ObsRecord) : r.slot.length = 12 := packBytes_length _ _

theorem Action.shows (x : Action) : (lowBits 2 x.code : Int) = x.code := by cases x <;> rfl

theorem SecondOutcome.shows (x : SecondOutcome) : (lowBits 4 x.code : Int) = x.code := by cases x <;> rfl

theorem LineSymbol.shows (x : LineSymbol) : (lowBits 3 x.code : Int) = x.code := by cases x <;> rfl

/-- The place, the action, the outcome and the symbol of a record. -/
theorem recordSlot_fields {r : ObsRecord} {p : Nat} (shown : ∀ j, j < 12 → b (p + j) = byteAt r.slot j) :
    (r.n0 = none → ∀ j, j < 4 → b (p + j) = 255) ∧
      (∀ n, r.n0 = some n →
        ((b p * 16777216 + b (p + 1) * 65536 + b (p + 2) * 256 + b (p + 3) : Nat) : Int) = n % 4294967296) ∧
      (r.index = none → b (p + 4) % 64 = 63) ∧ (∀ k, r.index = some k → b (p + 4) % 64 = k % 64) ∧
      (b (p + 4) / 64 : Int) = r.action.code ∧ (b (p + 5) / 16 : Int) = r.outcome.code ∧
      (b (p + 5) / 2 % 8 : Int) = r.symbol.code ∧ b (p + 5) % 2 = 0 := by
  have shown : Shows b p 12 _ := shown
  have count : b p * 16777216 + b (p + 1) * 65536 + b (p + 2) * 256 + b (p + 3) = lowBits 32 (countField r.n0) :=
    shown.four 0 0 rfl rfl
  have index : b (p + 4) % 64 = lowBits 6 _ := shown.low (w := 6) 4 2 rfl rfl
  refine ⟨fun none j within => ?_, fun n some => ?_, fun none => ?_, fun k some => ?_, ?_, ?_, ?_,
    shown.low (w := 1) (v := 0) 5 5 rfl rfl⟩
  · rw [none, show lowBits 32 (countField Option.none) = 4294967295 from rfl] at count
    have b0 : b p < 256 := shown.byte_lt (i := 0) (by decide)
    have b1 : b (p + 1) < 256 := shown.byte_lt (i := 1) (by decide)
    have b2 : b (p + 2) < 256 := shown.byte_lt (i := 2) (by decide)
    have b3 : b (p + 3) < 256 := shown.byte_lt (i := 3) (by decide)
    have all : b p = 255 ∧ b (p + 1) = 255 ∧ b (p + 2) = 255 ∧ b (p + 3) = 255 := by omega
    obtain ⟨all0, all1, all2, all3⟩ := all
    interval_cases j
    · exact all0
    · exact all1
    · exact all2
    · exact all3
  · have shows := shows_int count
    rw [some] at shows
    exact shows
  · rw [index, none]
    rfl
  · rw [index, some]
    exact lowBits_nat 6 k
  · have action : b (p + 4) / 64 = lowBits 2 r.action.code := shown.top 4 6 1 rfl rfl
    rw [← r.action.shows, ← action]
    rfl
  · have outcome : b (p + 5) / 16 = lowBits 4 r.outcome.code := shown.top 5 4 3 rfl rfl
    rw [← r.outcome.shows, ← outcome]
    rfl
  · have symbol : b (p + 5) / 2 % 8 = lowBits 3 r.symbol.code := shown.bits (w := 3) 5 1 4 rfl rfl
    rw [← r.symbol.shows, ← symbol]
    rfl

/-- An offset of a record in its three bytes. -/
theorem offsetField_shows {us : Option Int} {x y z : Nat} (below : x < 256 ∧ y < 256 ∧ z < 256)
    (shows : x * 65536 + y * 256 + z = lowBits 24 (offsetField us)) :
    (us = none → x = 128 ∧ y = 0 ∧ z = 0) ∧
      ∀ v, us = some v → ((x * 65536 + y * 256 + z : Nat) : Int) = max (-8388607) (min 8388607 v) % 16777216 := by
  refine ⟨fun none => ?_, fun v some => ?_⟩
  · rw [none, show lowBits 24 (offsetField Option.none) = 8388608 from rfl] at shows
    omega
  · have saturates := shows_int shows
    rw [some] at saturates
    exact saturates.trans (congrArg (· % 16777216) (reach_eq (by decide) v))

/-- The fall and the rise of a record. -/
theorem recordSlot_offsets {r : ObsRecord} {p : Nat} (shown : ∀ j, j < 12 → b (p + j) = byteAt r.slot j) :
    (r.fallOffset = none → b (p + 6) = 128 ∧ b (p + 7) = 0 ∧ b (p + 8) = 0) ∧
      (∀ us, r.fallOffset = some us →
        ((b (p + 6) * 65536 + b (p + 7) * 256 + b (p + 8) : Nat) : Int) = max (-8388607) (min 8388607 us) % 16777216) ∧
      (r.riseOffset = none → b (p + 9) = 128 ∧ b (p + 10) = 0 ∧ b (p + 11) = 0) ∧
      ∀ us, r.riseOffset = some us →
        ((b (p + 9) * 65536 + b (p + 10) * 256 + b (p + 11) : Nat) : Int) = max (-8388607) (min 8388607 us) % 16777216 := by
  have shown : Shows b p 12 _ := shown
  have below (i : Nat) (within : i + 2 < 12) : b (p + i) < 256 ∧ b (p + (i + 1)) < 256 ∧ b (p + (i + 2)) < 256 :=
    ⟨shown.byte_lt (by omega), shown.byte_lt (by omega), shown.byte_lt (by omega)⟩
  obtain ⟨noFall, fall⟩ := offsetField_shows (us := r.fallOffset) (below 6 (by decide)) (shown.three 6 6 rfl rfl)
  obtain ⟨noRise, rise⟩ := offsetField_shows (us := r.riseOffset) (below 9 (by decide)) (shown.three 9 7 rfl rfl)
  exact ⟨noFall, fall, noRise, rise⟩

/-- The records of a page, newest first (R110). -/
theorem observationsItem_slot (ring : List ObsRecord) (page : Nat) {i j : Nat} (inside : i < 8) (within : j < 12) :
    byteAt (observationsItem ring page) (12 * i + j) =
      (ring.reverse[8 * page + i]?).elim 0 (fun r => byteAt r.slot j) := by
  have listed : ((ring.reverse.drop (8 * page)).take 8)[i]? = ring.reverse[8 * page + i]? := by
    rw [List.getElem?_take_of_lt inside, List.getElem?_drop]
  rw [observationsItem, byteAt_padded (by omega)]
  rcases held : ring.reverse[8 * page + i]? with _ | r
  · exact byteAt_slots_past ObsRecord.slot_length (listed.trans held) j
  · exact byteAt_slots ObsRecord.slot_length (listed.trans held) within

/-! ## CURRENT FRAME -/

theorem symbolCode_shows (y : Option Symbol) : (lowBits 2 (symbolCode y) : Int) = symbolCode y := by
  rcases y with _ | _ | _ | _ <;> rfl

/-- The symbol slots of the CURRENT FRAME item. -/
def frameSlots (current : Option Frame) : List (Nat × Int) :=
  (List.range 64).map (fun i => (2, symbolCode (current.bind (fun f => f.symbols[i]?))))

theorem fieldsWidth_const {fields : List (Nat × Int)} {w : Nat} (all : ∀ f ∈ fields, f.1 = w) : fieldsWidth fields = fields.length * w := by
  unfold fieldsWidth
  rw [List.sum_eq_card_nsmul (fields.map Prod.fst) w (by simpa using all), List.length_map, smul_eq_mul]

theorem frameSlots_width (current : Option Frame) (i : Nat) : fieldsWidth ((frameSlots current).drop i) = (64 - i) * 2 := by
  have all : ∀ f ∈ (frameSlots current).drop i, f.1 = 2 := by
    intro f member
    obtain ⟨j, -, rfl⟩ := List.mem_map.mp (List.mem_of_mem_drop member)
    rfl
  rw [fieldsWidth_const all]
  simp [frameSlots]

/-- Slot `i` of the CURRENT FRAME item. -/
theorem currentFrameItem_slot (current : Option Frame) {i : Nat} (within : i < 61) :
    (byteAt (currentFrameItem current) (i / 4) / 4 ^ (3 - i % 4) % 4 : Int) = symbolCode (current.bind (fun f => f.symbols[i]?)) := by
  have shown : Shows (byteAt (currentFrameItem current)) 0 16 (frameSlots current) := fun j _ => congrArg _ (Nat.zero_add j)
  have held : (frameSlots current).drop i =
      (2, symbolCode (current.bind (fun f => f.symbols[i]?))) :: (frameSlots current).drop (i + 1) := by
    rw [List.drop_eq_getElem_cons (by simp [frameSlots]; omega)]
    simp [frameSlots]
  have slot := shown.bits (i / 4) (2 * (3 - i % 4)) i held rfl (by rw [frameSlots_width]; omega) (by omega)
  rw [Nat.zero_add, pow_mul] at slot
  rw [← symbolCode_shows, ← slot]
  push_cast
  rfl

/-! ## LINE FRAME -/

theorem ofBits_lt (bits : List Bool) : ofBits bits < 2 ^ bits.length := by
  induction bits with
  | nil => decide
  | cons x rest ih =>
    rw [ofBits_cons, List.length_cons, pow_succ]
    cases x
    · simp only [Bool.toNat_false]; omega
    · simp only [Bool.toNat_true]; omega

theorem fieldAt_lt (symbols : List Symbol) (i k : Nat) : fieldAt symbols i k < 2 ^ k := by
  refine lt_of_lt_of_le (ofBits_lt _) (Nat.pow_le_pow_right (by decide) ?_)
  simp [bitsAt]

/-- The fields of the LINE FRAME item. -/
theorem lineFrameItem_fields {f : LineFrame} (shown : ∀ i, b i = byteAt (lineFrameItem (some f)) i) :
    ((b 0 * 16777216 + b 1 * 65536 + b 2 * 256 + b 3 : Nat) : Int) = f.n0 % 4294967296 ∧
      b 4 / 64 = (if f.symbols.length = 59 then 1 else if f.symbols.length = 60 then 2
        else if f.symbols.length = 61 then 3 else 0) ∧
      b 4 % 64 = (if f.mixed then 32 else 0) + 2 * fieldAt f.symbols 1 4 ∧ b 5 = lineMinute f.symbols ∧
      b 6 = lineHour f.symbols ∧ b 7 * 256 + b 8 = lineDay f.symbols ∧ b 9 = lineYear f.symbols ∧
      b 10 = lineWeekday f.symbols ∧ (b 11 : Int) = lineOffset f.symbols % 256 ∧ b 12 = lineSegment f.symbols ∧
      b 13 = lineSegmentIndex f.symbols ∧
      ((b 14 * 65536 + b 15 * 256 + b 16 : Nat) : Int) = max (-8388608) (min 8388607 (f.markTicks.tdiv 10)) % 16777216 ∧
      ((b 17 * 65536 + b 18 * 256 + b 19 : Nat) : Int) = max (-8388608) (min 8388607 f.markTicks) % 16777216 := by
  have shown : Shows b 0 20 _ := fun i _ => (shown (0 + i)).trans (congrArg _ (Nat.zero_add i))
  have small {i k w : Nat} (wide : k ≤ w) : lowBits w (fieldAt f.symbols i k : Nat) = fieldAt f.symbols i k :=
    lowBits_small (lt_of_lt_of_le (fieldAt_lt _ _ _) (Nat.pow_le_pow_right (by decide) wide))
  have mixed : b 4 / 32 % 2 = if f.mixed then 1 else 0 := shown.bits (w := 1) 4 5 2 rfl (lowBits_bit _)
  have announced : b 4 / 2 % 16 = fieldAt f.symbols 1 4 := shown.bits (w := 4) 4 1 3 rfl (small (le_refl 4))
  have spare : b 4 % 2 = 0 := shown.low (w := 1) (v := 0) 4 4 rfl rfl
  have us := shows_int (shown.three 14 13 rfl rfl)
  have ticks := shows_int (shown.three 17 14 rfl rfl)
  rw [reach_eq (by decide)] at us ticks
  refine ⟨shows_int (shown.four 0 0 rfl rfl), shown.top 4 6 1 rfl (length_shows _), ?_, shown.byte 5 5 rfl (small (by decide)),
    shown.byte 6 6 rfl (small (by decide)), shown.two 7 7 rfl (small (by decide)), shown.byte 9 8 rfl (small (by decide)),
    shown.byte 10 9 rfl (small (by decide)), shows_int (shown.byte 11 10 rfl rfl), shown.byte 12 11 rfl (small (by decide)),
    shown.byte 13 12 rfl (small (by decide)), us, ticks⟩
  split at mixed
  next held => rw [if_pos held]; omega
  next free => rw [if_neg free]; omega

/-! ## ALARMS -/

/-- A slot of the ALARMS item. -/
theorem alarmSlot_fields {alarms : List AlarmEntry} {k : AlarmKind} {e : AlarmEntry} {p : Nat}
    (shown : ∀ j, j < 4 → b (p + j) = byteAt (alarmSlot alarms k) j) (held : alarms.find? (fun e => e.kind == k) = some e)
    (counted : e.count ≤ 255) : b p = e.count ∧
      (e.firstN = none → b (p + 1) = 255 ∧ b (p + 2) = 255 ∧ b (p + 3) = 255) ∧
      ∀ n, e.firstN = some n → ((b (p + 1) * 65536 + b (p + 2) * 256 + b (p + 3) : Nat) : Int) = n / 60 % 16777215 := by
  have slot : alarmSlot alarms k = packBytes 4 [(8, (e.count : Nat)), (24, firstMinute e.firstN)] := by
    rw [alarmSlot, held]
  rw [slot] at shown
  have shown : Shows b p 4 _ := shown
  have first : b (p + 1) * 65536 + b (p + 2) * 256 + b (p + 3) = lowBits 24 (firstMinute e.firstN) := shown.three 1 1 rfl rfl
  refine ⟨shown.byte 0 0 rfl (lowBits_small (by omega)), fun none => ?_, fun n some => ?_⟩
  · rw [none, show lowBits 24 (firstMinute Option.none) = 16777215 from rfl] at first
    have b1 : b (p + 1) < 256 := shown.byte_lt (i := 1) (by decide)
    have b2 : b (p + 2) < 256 := shown.byte_lt (i := 2) (by decide)
    have b3 : b (p + 3) < 256 := shown.byte_lt (i := 3) (by decide)
    omega
  · have shows := shows_int first
    rw [some] at shows
    have minute : ((b (p + 1) * 65536 + b (p + 2) * 256 + b (p + 3) : Nat) : Int) = n / 60 % 16777215 % 16777216 := shows
    omega

end

end Sys2Proof.Machine

end

section
/-! PROOFS. What the items show (O53). -/

namespace Sys2Proof.Machine

section
variable {s : State} {b : Nat → Nat}

theorem flagOf_eq_one (p : Bool) : flagOf p = 1 ↔ p = true := by cases p <;> simp

/-- The slots of the SCHEDULE item. -/
theorem scheduleItem_slot (entries : List Entry) {i j : Nat} (inside : i < 8) (within : j < 8) :
    byteAt (scheduleItem entries) (8 * i + j) = (entries[i]?).elim 0 (fun e => byteAt e.slot j) := by
  rw [scheduleItem, byteAt_padded (by omega)]
  rcases held : entries[i]? with _ | e
  · exact byteAt_slots_past Entry.slot_length held j
  · exact byteAt_slots Entry.slot_length held within

theorem exec_observations_page {now : Instant} {page : Byte} (done : s.load.phase = .done) (known : page.toNat ≤ 7) :
    exec (.observations now (some page)) s = .next ((s.at now).select (observationsItem s.key.ring page.toNat)) :=
  (exec_observations done (some page)).trans (congrArg _ (if_pos known))

theorem alarmSlot_none {alarms : List AlarmEntry} {k : AlarmKind} (none : ∀ e ∈ alarms, e.kind ≠ k) :
    alarmSlot alarms k = List.replicate 4 0#8 := by
  have absent : alarms.find? (fun e => e.kind == k) = Option.none := List.find?_eq_none.mpr fun e held => by simpa using none e held
  rw [alarmSlot, absent]

end

end Sys2Proof.Machine

namespace Sys2Proof.Proofs

open Sys2Proof.Machine

/-- Settles O53: STATUS block by block, and the slots and fields of the other items. -/
theorem snapshotsShowTheState : Obligations.SnapshotsShowTheState := by
  refine ⟨?_, fun now s done => ?_⟩
  · intro now s done
    refine ⟨_, exec_due (c := .status now) (by simp [Instr.due, State.loaded, done]), ?_⟩
    intro b limit flag cls n latch age error difference
    obtain ⟨time, reference, frames, standing⟩ := (s.at now).statusItem_shows
    have time : Shows b 0 16 _ := time
    have reference : Shows b 16 3 _ := reference
    have frames : Shows b 19 5 _ := frames
    have standing : Shows b 24 8 _ := standing
    obtain ⟨unset, set, empty, latched, f⟩ := statusTime_count time
    obtain ⟨ahead, fields⟩ := statusFrames_fields frames
    obtain ⟨position, join, withdraw, result, test⟩ := statusStanding_fields standing
    obtain ⟨noVerdict, verdict, noFloor, floor, noComparison, comparison⟩ := statusStanding_relative standing
    refine ⟨⟨unset, set, empty, latched, f, statusTime_phase time⟩, statusReference_fields reference,
      ⟨statusFrames_none frames, fun f => statusFrames_current frames, ?_, fields⟩, position,
      ⟨join, withdraw, result, noVerdict, verdict, noFloor, floor, noComparison, comparison, test⟩,
      statusStanding_comparison standing, statusStanding_line standing⟩
    rw [ahead, flagOf_eq_one]
    exact frameAhead_iff (s.at now)
  · have loaded : s.loaded = true := by simp [State.loaded, done]
    refine ⟨⟨_, exec_due (c := .schedule now) loaded, ?_⟩, fun page known => ⟨_, exec_observations_page done known, ?_⟩,
      ⟨_, exec_due (c := .currentFrame now) loaded, fun i within => currentFrameItem_slot _ within⟩,
      ⟨_, exec_due (c := .lineFrame now) loaded, ?_⟩, ⟨_, exec_due (c := .alarms now) loaded, ?_⟩⟩
    · intro b _ i inside
      have shown (j : Nat) (within : j < 8) : b (8 * i + j) = (s.schedule[i]?).elim 0 (fun e => byteAt e.slot j) :=
        scheduleItem_slot _ inside within
      refine ⟨fun none j within => ?_, fun e held => ?_⟩
      · rw [shown j within, none]
        rfl
      · rw [held] at shown
        exact scheduleSlot_fields shown
    · intro b i inside
      have shown (j : Nat) (within : j < 12) : b (12 * i + j) = _ := observationsItem_slot _ page.toNat inside within
      refine ⟨fun none j within => ?_, fun r held => ?_⟩
      · rw [shown j within, none]
        rfl
      · rw [held] at shown
        obtain ⟨noCount, count, noIndex, index, action, outcome, symbol, spare⟩ := recordSlot_fields shown
        exact ⟨noCount, count, noIndex, index, action, outcome, symbol, spare, recordSlot_offsets shown⟩
    · intro b
      refine ⟨fun none i => ?_, fun f last => ?_⟩
      · have item : b i = byteAt (lineFrameItem s.line.last) i := rfl
        rw [item, none]
        exact byteAt_zeros 20 i
      · have shown (i : Nat) : b i = byteAt (lineFrameItem s.line.last) i := rfl
        rw [last] at shown
        exact lineFrameItem_fields shown
    · intro b i k listed
      have shown (j : Nat) (within : j < 4) : b (4 * i + j) = byteAt (alarmSlot s.maint.alarms k) j :=
        byteAt_slots (alarmSlot_length _) listed within
      refine ⟨fun none j within => ?_, fun e held counted => alarmSlot_fields shown held counted⟩
      rw [shown j within, alarmSlot_none none]
      exact byteAt_zeros 4 j

end Sys2Proof.Proofs
end
